-- ==== Sys2Proof/Word.lean ====
section
/-! DEFINITION. The word types of the M7240 and their plainest arithmetic: 16-bit lane words, 32-bit payload words,
heartbeat numbers, and the index types of links, slots and rows. -/

namespace Sys2Proof

/-- A lane word: the 16-bit unit of every serial lane (chapter 11). -/
abbrev Word16 := BitVec 16

/-- A payload word: 32 bits, on the uplink and its return lane only (chapter 11). -/
abbrev Word32 := BitVec 32

/-- A heartbeat number: 16 bits, wrapping from 65,535 to 0 (section 1.7). -/
abbrev Heartbeat := BitVec 16

/-- An epoch number, 0 to 255, wrapping (R137). -/
abbrev Epoch := BitVec 8

/-- A pad link, 0 to 23. -/
abbrev LinkId := Fin 24

/-- A slot of the ring, 0 to 7. -/
abbrev SlotId := Fin 8

/-- A pad row, 0 to 95. -/
abbrev RowId := Fin 96

/-- A value limited to at most `cap`: a count that holds at its maximum (section 1.7). -/
def satAdd (cap a n : Nat) : Nat := min cap (a + n)

/-- The largest value of a 32-bit counter. -/
abbrev cap32 : Nat := 4294967295

/-- The largest value of a 16-bit counter. -/
abbrev cap16 : Nat := 65535

end Sys2Proof
end

