-- ==== Sys2Proof/Syntax.lean ====
section
/-! DEFINITION. The commands of the M7240: one constructor of `Instr` for each row of spec/opcode_table.json.
A command is one whole, indivisible step of the part (95_what_each_step_holds.md): a word or a frame that has arrived
on a lane, a taking at intake, the end of a frame on the uplink, the execution of a request, a reset, or a clock event. -/

namespace Sys2Proof

/-- A word of a serial lane, as the line code marks it (section 1.5): a control word or a data word. -/
inductive LaneWord where
  | control (w : Word16)
  | data (w : Word16)
  deriving DecidableEq, Repr

/-- A pad-link frame that has begun and is not yet complete (R59): its control word and its data words received so far,
in order. The running check of a burst is computed from the words (R58). -/
structure FrameInProgress where
  /-- The control word that began the frame. -/
  control : Word16
  /-- The data words received so far. -/
  words : List Word16
  deriving DecidableEq, Repr

/-- What made a framing error on a pad link (R66). -/
inductive FramingEvent where
  /-- A data word that belongs to no frame. -/
  | strayData (w : Word16)
  /-- A control word that begins nothing: of unknown kind, or a BURST or HB_CLOSE while no heartbeat is open. -/
  | strayControl (c : Word16)
  /-- The frame `f`, received so far, is cut short by the control word `next`. -/
  | cut (f : FrameInProgress) (next : Word16)
  /-- A BURST frame, received so far as `f`, whose start bin or count is out of range. -/
  | badBurst (f : FrameInProgress)
  deriving DecidableEq, Repr

/-- The commands, in the order of the table. -/
inductive Instr where
  /-- PIN_RESET: the reset input (R25). -/
  | pinReset
  /-- ALIGNMENT_FOUND: link `l` in SEARCH finds a TRAIN word at bit position `pos` (R60). -/
  | alignmentFound (l : LinkId) (pos : Nat)
  /-- TRAIN_WORD on link `l` (R60). -/
  | trainWord (l : LinkId)
  /-- CODE_ERROR_WORD on link `l`; `inFrame` is the frame whose words it interrupts, if any (R62). -/
  | codeErrorWord (l : LinkId) (inFrame : Option FrameInProgress)
  /-- SIGNAL_LOSS: the signal timer of link `l` reaches 16 µs (R62). -/
  | signalLoss (l : LinkId)
  /-- HB_OPEN_FRAME on link `l`: control word 0xA1xx with low byte `low`, then the heartbeat number (R67, R171). -/
  | hbOpenFrame (l : LinkId) (low : BitVec 8) (heartbeat : Heartbeat)
  /-- HB_CLOSE_FRAME on link `l`: control word 0xA2xx, heartbeat number, declared burst count, status (R69, R171). -/
  | hbCloseFrame (l : LinkId) (low : BitVec 8) (heartbeat : Heartbeat) (declared status : Word16)
  /-- BURST_FRAME on link `l`: channel, start bin, as many sample words as its count says, check word (R70, R171). -/
  | burstFrame (l : LinkId) (channel : BitVec 8) (start : Word16) (samples : List Word16) (check : Word16)
  /-- TRUNCATED_BURST on link `l`: the samples received of a burst of `count`, and the control word that cuts it (R71). -/
  | truncatedBurst (l : LinkId) (channel : BitVec 8) (start count : Word16) (samples : List Word16) (next : Word16)
  /-- FRAMING_ERROR on link `l` (R66). -/
  | framingError (l : LinkId) (event : FramingEvent)
  /-- TAKE_HB_OPEN: the arbiter's next taking, of an HB_OPEN (R16). -/
  | takeHbOpen
  /-- TAKE_BURST: the arbiter's next taking, of a burst (R20). -/
  | takeBurst
  /-- TAKE_HB_CLOSE: the arbiter's next taking, of an HB_CLOSE (R22). -/
  | takeHbClose
  /-- TAKE_LOSS: the arbiter's next taking, of a LOSS (R23). -/
  | takeLoss
  /-- TAKE_LINK_DOWN: the arbiter's next taking, of a LINK_DOWN (R38). -/
  | takeLinkDown
  /-- DEADLINE_EXPIRY of a slot (R36). -/
  | deadlineExpiry (slot : SlotId)
  /-- EPOCH_MARK_SENT (R117). -/
  | epochMarkSent
  /-- HEAD_SENT (R118). -/
  | headSent
  /-- ROW_SENT (R119). -/
  | rowSent
  /-- TAIL_SENT (R122); `boundaryFirst` says which of R125's two orders holds of the arbiter's choice at the TAIL's own
  frame boundary and the emitter's taking of the next slot. -/
  | tailSent (boundaryFirst : Bool)
  /-- REPLY_SENT (R155); `handoverFirst` says whether the reply holder hands over its reply before the arbiter chooses
  at this boundary (R125, R155). -/
  | replySent (handoverFirst : Bool)
  /-- TRAIN_WORD_SENT (R124). -/
  | trainWordSent
  /-- RETURN_LANE_ALIGNMENT_FOUND at bit position `pos` (R151). -/
  | returnLaneAlignmentFound (pos : Nat)
  /-- RETURN_LANE_TRAIN_WORD (R151). -/
  | returnLaneTrainWord
  /-- RETURN_LANE_CODE_ERROR; `inFrame` is the data words of the request frame it interrupts, if any (R151, R153). -/
  | returnLaneCodeError (inFrame : Option (List Word16))
  /-- RETURN_LANE_SIGNAL_LOSS; `inFrame` as for RETURN_LANE_CODE_ERROR (R151). -/
  | returnLaneSignalLoss (inFrame : Option (List Word16))
  /-- PAUSE (R126). -/
  | pause
  /-- RESUME (R126). -/
  | resume
  /-- REQUEST_FRAME: the data lane words after REQUEST_START, and the control word that cuts the frame, if one does (R153). -/
  | requestFrame (words : List Word16) (cut : Option Word16)
  /-- REPLY_HANDOVER (R155). -/
  | replyHandover
  /-- BAD_REQUEST: the head request's code names no request (R156). -/
  | badRequest
  /-- READ_SETTINGS (R136). -/
  | readSettings
  /-- WRITE_SETTINGS (R135). -/
  | writeSettings
  /-- READ_PAD (R106). -/
  | readPad
  /-- WRITE_PAD (R107). -/
  | writePad
  /-- COPY_BANK (R147). -/
  | copyBank
  /-- COPY_BANK_DONE (R148). -/
  | copyBankDone
  /-- COMMIT (R138). -/
  | commit
  /-- READ_STATUS (R158). -/
  | readStatus
  /-- READ_LINKS (R159). -/
  | readLinks
  /-- READ_COUNTERS (R160). -/
  | readCounters
  /-- CLEAR_COUNTERS (R161). -/
  | clearCounters
  /-- QUERY_CAUSE (R168). -/
  | queryCause
  /-- SET_LIVE (R162). -/
  | setLive
  /-- HOLD_LINK (R64). -/
  | holdLink
  /-- RELEASE_LINK (R64). -/
  | releaseLink
  /-- FORCE_CLOSE (R37). -/
  | forceClose
  /-- RUN_RESTART (R164). -/
  | runRestart
  /-- SOFT_RESET (R165). -/
  | softReset
  /-- RUN_RESTART_TAKES_EFFECT (R129). -/
  | runRestartTakesEffect
  /-- SOFT_RESET_TAKES_EFFECT (R165). -/
  | softResetTakesEffect
  /-- TIMEBASE_STEP (R34). -/
  | timebaseStep
  /-- COPY_ENTRY_MOVED (R148). -/
  | copyEntryMoved
  /-- TRAINING_COUNT_RESET: link `l` in TRAINING receives `w`, which is no TRAIN word (R60). -/
  | trainingCountReset (l : LinkId) (w : LaneWord)
  /-- RETURN_LANE_TRAINING_COUNT_RESET: the return lane receives `w`, which is no TRAIN word. In TRAINING it resets the
  count (R151); in ALIGNED it is a word between frames, or the next word of the frame in progress (R153). -/
  | returnLaneTrainingCountReset (w : LaneWord)
  deriving DecidableEq, Repr

end Sys2Proof
end

