-- ==== Sys2Proof/Decode.lean ====
section
/-! DEFINITION. Words of the table. spec/opcode_table.json gives no row of this block any bits ("fields" is empty in every row,
and no row has "fixed"), so no word spells a command. -/

namespace Sys2Proof

/-- The command that a word of the table spells: none, since the table gives no row any bits. -/
def decodeTableWord (_nbits _w : Nat) : Option Instr := none

end Sys2Proof
end

