-- ==== Sys2Proof/Config.lean ====
section
/-! DEFINITION. The values that the specification fixes once for the whole part, and the one free value of the model. -/

namespace Sys2Proof.Config

/-- The free value of the model (assumption 3): what the detail field of a QUERY_CAUSE reply holds when the reply is
NONE. R168 and R176 give the field no value there. It has no body, so no proof can see what it is; the argument is
`State.freeDraws`, so that two replies need not carry the same value. -/
opaque noCauseDetail : Nat → BitVec 16

/-- Cells of the pool (R46). -/
abbrev poolCells : Nat := 16384

/-- Entries of a pad table bank (R100). -/
abbrev padEntries : Nat := 3840

/-- Channels of one link (R100). -/
abbrev channels : Nat := 160

/-- Units of an ingress queue (R72). -/
abbrev queueUnits : Nat := 2048

/-- The largest fill an item other than a LOSS may bring a queue to (R72). -/
abbrev queueLimit : Nat := 2047

/-- Consecutive TRAIN words that end TRAINING (R60). -/
abbrev trainingWords : Nat := 64

/-- Words of the error window (R59). -/
abbrev windowWords : Nat := 256

/-- Code errors in the error window that make an alignment loss (R62). -/
abbrev windowErrors : Nat := 4

/-- Periods of the reference clock without a transition that make a loss of signal (R62). -/
abbrev signalPeriods : Nat := 640

/-- TRAIN words of the transmitter's opening run (R124). -/
abbrev openingWords : Nat := 64

/-- Requests that the request queue holds (R154). -/
abbrev queueRequests : Nat := 4

/-- Payload words of one frame at most (R116). -/
abbrev payloadWords : Nat := 255

/-- Half of the heartbeat numbers: a difference of this or more lies behind (R8). -/
abbrev halfTurn : Nat := 32768

/-- Lane control words (section 11.1). FRAME_START carries the frame kind in its low byte. -/
abbrev trainControl : Word16 := 0xC5C5#16
abbrev frameStart : Word16 := 0xF000#16
abbrev requestStart : Word16 := 0xE000#16
abbrev pauseWord : Word16 := 0xE800#16
abbrev resumeWord : Word16 := 0xE900#16

end Sys2Proof.Config
end

