-- ==== Sys2Proof/Machine/Operands.lean ====
section
/-! DEFINITION. Reading the operands of the commands: bit fields of words, kinds of control words (section 11.1), the cyclic
check (R58, R116, R172), and the shape of frames in progress (R57, R153). -/

namespace Sys2Proof.Machine

open Sys2Proof

/-! ### Bit fields -/

/-- The field of `width` bits of a word that starts at bit `lo`, as a number. -/
def field {n : Nat} (w : BitVec n) (lo width : Nat) : Nat := w.toNat / 2 ^ lo % 2 ^ width

/-- A flag bit of a word. -/
def flagBit {n : Nat} (w : BitVec n) (lo : Nat) : Bool := w.getLsbD lo

/-- The number that holds the low `width` bits of `v` from bit `lo` up. -/
def placed (v lo width : Nat) : Nat := v % 2 ^ width * 2 ^ lo

/-- The number that holds a flag at bit `lo`. -/
def placedFlag (b : Bool) (lo : Nat) : Nat := b.toNat * 2 ^ lo

/-- The high half of a payload word. -/
def highHalf (w : Word32) : Word16 := BitVec.ofNat 16 (w.toNat / 65536)

/-- The low half of a payload word. -/
def lowHalf (w : Word32) : Word16 := BitVec.ofNat 16 w.toNat

/-- Payload words as the lane words that carry them: the high half first (R116). -/
def halves : List Word32 → List Word16
  | [] => []
  | w :: ws => highHalf w :: lowHalf w :: halves ws

/-- The payload word of two lane words, the high half first. -/
def joined (high low : Word16) : Word32 := BitVec.ofNat 32 (high.toNat * 65536 + low.toNat)

/-- Lane words as the payload words they carry; a last single lane word carries none. -/
def payloadWords : List Word16 → List Word32
  | high :: low :: rest => joined high low :: payloadWords rest
  | _ => []

/-! ### The cyclic check -/

/-- One bit of the check: polynomial 0x1021, most significant bit first (R58). -/
def crcBit (c : Word16) : Word16 :=
  if c.getLsbD 15 then (c <<< 1) ^^^ 0x1021#16 else c <<< 1

/-- `n` bits of the check. -/
def crcBits : Nat → Word16 → Word16
  | 0, c => c
  | n + 1, c => crcBits n (crcBit c)

/-- One 16-bit word entering the check with bit 15 first. -/
def crcWord (c w : Word16) : Word16 := crcBits 16 (c ^^^ w)

/-- The cyclic check over 16-bit words: initial value 0xFFFF, no reflection, no final inversion (R58). -/
def crc (ws : List Word16) : Word16 := ws.foldl crcWord 0xFFFF#16

/-! ### Pad-link control words -/

/-- Kinds of pad-link control word (R57). -/
inductive ControlKind where
  | train | hbOpen | hbClose | burst (channel : BitVec 8) | unknown
  deriving DecidableEq, Repr

/-- The kind of a pad-link control word (section 11.1). -/
def controlKind (c : Word16) : ControlKind :=
  if c = Config.trainControl then .train
  else if field c 8 8 = 0xA1 then .hbOpen
  else if field c 8 8 = 0xA2 then .hbClose
  else if field c 8 8 = 0xA4 then .burst (BitVec.ofNat 8 c.toNat)
  else .unknown

/-- The control word of an HB_OPEN frame (R171). -/
def hbOpenControl (low : BitVec 8) : Word16 := BitVec.ofNat 16 (0xA100 + low.toNat)

/-- The control word of an HB_CLOSE frame (R171). -/
def hbCloseControl (low : BitVec 8) : Word16 := BitVec.ofNat 16 (0xA200 + low.toNat)

/-- The control word of a BURST frame (R171). -/
def burstControl (channel : BitVec 8) : Word16 := BitVec.ofNat 16 (0xA400 + channel.toNat)

/-! ### Pad-link frames in progress -/

/-- Start bin and count are in the ranges accepted (R57), as far as they have arrived. -/
def burstHeaderInRange : List Word16 → Bool
  | [] => true
  | [start] => start.toNat ≤ 511
  | start :: count :: _ => start.toNat ≤ 511 && 1 ≤ count.toNat && count.toNat ≤ 512

/-- Bins of a burst that lie below 512: how many samples are kept at most (R70). -/
def keptBins (start count : Nat) : Nat := min count (512 - start)

/-- The raw sample of a sample word: its low 10 bits (R57). -/
def rawSample (w : Word16) : BitVec 10 := BitVec.ofNat 10 w.toNat

/-- Whether a frame in progress is a burst of which at least one sample has arrived (R71). -/
def frameHasSample (f : FrameInProgress) : Bool :=
  match controlKind f.control, f.words with
  | .burst _, _ :: _ :: _ :: _ => true
  | _, _ => false

/-! ### Request frames -/

/-- The payload length that a request header declares (R172). -/
def declaredLength (header : Word32) : Nat := field header 16 8

/-- How many data lane words the request frame that begins with these words has: its header, its payload and its check, each
payload word as two lane words (R153). Until the header is complete it has at least the header's two. -/
def requestWords : List Word16 → Nat
  | high :: low :: _ => 2 * (declaredLength (joined high low) + 2)
  | _ => 2

/-- The data words of a request frame in progress complete it. -/
def requestComplete (ws : List Word16) : Bool := 2 ≤ ws.length && requestWords ws ≤ ws.length

end Sys2Proof.Machine
end

