-- ==== Sys2Proof/Machine/State.lean ====
section
/-! DEFINITION. The state of the M7240 as plain data: every piece of state the specification gives each block
(section 1.3), the reasons a step can stop, and the state right after a pin reset. -/

namespace Sys2Proof.Machine

open Sys2Proof

/-! ### Reasons to stop -/

/-- No command of the M7240 ends in a fault: the specification gives every step an effect, and reports what goes wrong in
counters, flags, causes and reply statuses. The type has no constructor, so no one raises one (safe). -/
inductive Fault where
  deriving DecidableEq, Repr

/-- A command the model gives no meaning. -/
inductive Refusal where
  /-- Raised by `exec` for a row not yet modelled. No arm raises it: every row has its meaning (safe). -/
  | notModelled (mnemonic : String)
  deriving DecidableEq, Repr

/-! ### Link receivers (R59) and ingress queues (R72) -/

/-- The seven states of a link receiver (R59). -/
inductive RxState where
  | disabled | search | training | ready | run | resync | held
  deriving DecidableEq, Repr

/-- A link receiver (R59). -/
structure Receiver where
  state : RxState
  /-- The bit position at which word alignment is fixed, none without alignment (R60). -/
  alignment : Option Nat
  /-- 0 to 64. -/
  trainingCount : Nat
  /-- The code-error marks of the last 256 words: for each marked word, how many words came after it, nearest first. -/
  errorWindow : List Nat
  /-- Reference clock periods since the last transition that the commands show: 0 after a word, 640 at a loss of signal. -/
  signalTimer : Nat
  lastHeartbeat : Option Heartbeat
  heartbeatOpen : Bool
  /-- 0 to 65,535, holding. -/
  burstsSinceOpen : Nat
  /-- Set while data words are discarded after a framing error, up to the next control word (R66). -/
  skipping : Bool
  frame : Option FrameInProgress
  deriving DecidableEq, Repr

/-- The delta bits of a link (R77). -/
structure DeltaBits where
  stateChanged : Bool
  lost : Bool
  resync : Bool
  deriving DecidableEq, Repr

/-- The nine counters of a link, in the order of R78; each 32 bits, holding at its maximum. -/
structure LinkCounters where
  codeErrors : Nat
  alignmentLosses : Nat
  burstsAccepted : Nat
  checkErrors : Nat
  framingErrors : Nat
  gaps : Nat
  disorders : Nat
  ingressDrops : Nat
  lateItems : Nat
  deriving DecidableEq, Repr

/-- Why a link went down (R65). -/
inductive DownReason where
  | lost | held | disabled
  deriving DecidableEq, Repr

/-- A BURST item (R65): its kept samples and its tags. -/
structure Burst where
  channel : BitVec 8
  /-- Start bin, 0 to 511. -/
  start : Nat
  /-- Kept raw samples, 10 bits each (R57). -/
  samples : List (BitVec 10)
  checkError : Bool
  truncated : Bool
  boundaryClamp : Bool
  deriving DecidableEq, Repr

/-- An HB_CLOSE item (R65). -/
structure Close where
  /-- Heartbeat number as received, or the open heartbeat of an implicit close. -/
  heartbeat : Heartbeat
  /-- Declared burst count, none for an implicit close. -/
  declared : Option Word16
  feTruncated : Bool
  implicit : Bool
  framing : Bool
  countMismatch : Bool
  deriving DecidableEq, Repr

/-- An item of an ingress queue (R65). -/
inductive Item where
  | hbOpen (heartbeat : Heartbeat) (resync : Bool)
  | hbClose (close : Close)
  | burst (burst : Burst)
  | loss
  | linkDown (reason : DownReason)
  deriving DecidableEq, Repr

/-- An ingress queue (R72): its items, head first, and the drop-mode flag. The fill is `Queue.fill` (Ops.lean). -/
structure Queue where
  items : List Item
  dropMode : Bool
  deriving DecidableEq, Repr

/-- All that stands at one pad link: receiver, delta bits, counters, ingress queue. -/
structure Link where
  rx : Receiver
  delta : DeltaBits
  counters : LinkCounters
  queue : Queue
  deriving DecidableEq, Repr

/-! ### The slice ring (chapters 2 and 3) -/

/-- States of a slot (R2). -/
inductive SlotState where
  | free | filling | complete | emitting
  deriving DecidableEq, Repr

/-- A link's standing in a slot (R4). -/
inductive Verdict where
  | pending | done | missing | excluded
  deriving DecidableEq, Repr

/-- A link's margin state in a slot (R27). -/
inductive MarginState where
  | notNeeded | awaited | taken | absent
  deriving DecidableEq, Repr

/-- The ten link flags (R4). -/
structure LinkFlags where
  gap : Bool := false
  lost : Bool := false
  ingressLoss : Bool := false
  notReady : Bool := false
  held : Bool := false
  partialShare : Bool := false
  feTruncated : Bool := false
  countMismatch : Bool := false
  checkError : Bool := false
  marginAbsent : Bool := false
  deriving DecidableEq, Repr

/-- A link record (R4). -/
structure LinkRecord where
  verdict : Verdict
  closedLast : Bool
  margin : MarginState
  flags : LinkFlags
  /-- 0 to 65,535, saturating. -/
  pulseCount : Nat
  /-- 0 to 65,535, saturating. -/
  droppedCount : Nat
  deriving DecidableEq, Repr

/-- The slot flags (R3). -/
structure SlotFlags where
  incomplete : Bool := false
  marginCut : Bool := false
  forced : Bool := false
  poolExhausted : Bool := false
  partialStart : Bool := false
  deriving DecidableEq, Repr

/-- The totals of a slot (R3, R5); each a 32-bit count, holding (R121). -/
structure Totals where
  pulses : Nat
  cellsHeld : Nat
  samples : Nat
  saturated : Nat
  filtered : Nat
  masked : Nat
  bad : Nat
  poolDrops : Nat
  deriving DecidableEq, Repr

/-- The flags of a pulse (R5). -/
structure PulseFlags where
  margin : Bool
  piece : Bool
  suspect : Bool
  saturated : Bool
  trimmed : Bool
  deriving DecidableEq, Repr

/-- A pulse of a row chain (R5). Its count is the number of its codes. -/
structure Pulse where
  pad : BitVec 8
  channel : BitVec 8
  link : LinkId
  /-- Relative bin of the first code, 0 to 8,702. -/
  start : Nat
  codes : List Nat
  flags : PulseFlags
  deriving DecidableEq, Repr

/-- A pulse with the cells it holds (R46): its header cell, then its code cells in order. -/
structure StoredPulse where
  pulse : Pulse
  header : Nat
  codeCells : List Nat
  deriving DecidableEq, Repr

/-- A slot record (R3). -/
structure Slot where
  state : SlotState
  first : Heartbeat
  span : Nat
  margin : Nat
  epoch : Epoch
  /-- Microseconds remaining, or none; 0 from the timebase step that exhausts the count to the expiry (assumption 4). -/
  deadline : Option Nat
  flags : SlotFlags
  links : Vector LinkRecord 24
  rows : Vector (List StoredPulse) 96
  totals : Totals
  deriving DecidableEq, Repr

/-- The ring's intake state of one link (R7). -/
structure Intake where
  position : Option Heartbeat
  openHeartbeat : Option Heartbeat
  deriving DecidableEq, Repr

/-- The slice ring: slots, cursor, intake states, newest heartbeat (R2, R6, R7), and the arbiter's pointer (R13). -/
structure Ring where
  slots : Vector Slot 8
  /-- The cursor heartbeat, none while the valid flag is clear. -/
  cursor : Option Heartbeat
  cursorSlot : SlotId
  newest : Option Heartbeat
  intake : Vector Intake 24
  arbiter : LinkId
  deriving DecidableEq, Repr

/-! ### Pad table and settings (chapters 7 and 9) -/

/-- A pad entry (R99). -/
structure PadEntry where
  pedestal : BitVec 12
  threshold : BitVec 8
  row : BitVec 7
  pad : BitVec 8
  masked : Bool
  nosuppress : Bool
  deriving DecidableEq, Repr

/-- The two banks (R103). -/
inductive Bank where
  | a | b
  deriving DecidableEq, Repr

/-- The pad table: two banks, which of them is active, STAGING_STALE (R105), and the next index of a running bank copy
(R147, R148). The bank that is not active is outgoing while a commit is pending and staging otherwise (R103). -/
structure PadTable where
  bankA : Vector PadEntry 3840
  bankB : Vector PadEntry 3840
  active : Bank
  stale : Bool
  copyNext : Option Nat
  deriving DecidableEq, Repr

/-- A compression curve (R90). -/
structure Curve where
  segments : Nat
  knee1 : Nat
  knee2 : Nat
  shift2 : Nat
  shift3 : Nat
  deriving DecidableEq, Repr

/-- The name of a curve. -/
inductive CurveName where
  | a | b
  deriving DecidableEq, Repr

/-- A row window (R108). -/
structure Window where
  start : Nat
  count : Nat
  curve : CurveName
  deriving DecidableEq, Repr

/-- The suspect policy (R93). -/
inductive SuspectPolicy where
  | keep | drop
  deriving DecidableEq, Repr

/-- The row order (R110). -/
inductive RowOrder where
  | ascending | descending
  deriving DecidableEq, Repr

/-- A settings record (R133). -/
structure Settings where
  span : Nat
  margin : Nat
  /-- Quarter counts. -/
  baseline : Int
  pre : Nat
  post : Nat
  mergeGap : Nat
  policy : SuspectPolicy
  curveA : Curve
  curveB : Curve
  windows : Vector Window 8
  rowTotal : Nat
  order : RowOrder
  expected : BitVec 24
  deriving DecidableEq, Repr

/-- What the commit state and the outgoing copy hold while a commit is pending (R134, R141). -/
structure PendingCommit where
  switchHeartbeat : Heartbeat
  oldSpan : Nat
  oldEpoch : Epoch
  /-- The outgoing settings copy. -/
  outgoing : Settings
  deriving DecidableEq, Repr

/-- The settings copies, the commit state and the epoch counter (R134, R137). -/
structure SettingsUnit where
  staging : Settings
  active : Settings
  commit : Option PendingCommit
  epoch : Epoch
  deriving DecidableEq, Repr

/-! ### Emitter and uplink port (chapter 8) -/

/-- Emitter states (R113). -/
inductive EmitterState where
  | idle | record | pausedInRecord
  deriving DecidableEq, Repr

/-- Kinds of uplink frame (R116). -/
inductive FrameKind where
  | epochMark | head | row | tail | reply
  deriving DecidableEq, Repr

/-- Which restart waits for the emitter's frame boundary (R129, R166). -/
inductive RestartKind where
  | run | soft
  deriving DecidableEq, Repr

/-- The emitter (R113). -/
structure Emitter where
  state : EmitterState
  slot : Option SlotId
  lastEpoch : Option Epoch
  /-- Kind of the record's next frame; never `reply`. -/
  next : Option FrameKind
  row : RowId
  continuation : Bool
  sections : Nat
  pulsesSent : Nat
  samplesSent : Nat
  /-- The stopping flag, set when there is a value, with the restart that waits (R166). -/
  stopping : Option RestartKind
  deriving DecidableEq, Repr

/-- An uplink frame as fixed when the arbiter chose it (R115, R116). -/
structure UplinkFrame where
  kind : FrameKind
  header : Word32
  payload : List Word32
  check : Word32
  /-- How many pulses of the row's chain a ROW frame carries; 0 in other frames. -/
  pulses : Nat
  deriving DecidableEq, Repr

/-- What the transmitter is doing (R123). -/
inductive Transmitter where
  /-- Sending one TRAIN word. -/
  | train
  /-- Sending a frame. -/
  | frame (f : UplinkFrame)
  /-- At the boundary after an emitter frame, while a restart is due at this boundary (assumption 6). -/
  | boundary
  deriving DecidableEq, Repr

/-- A formed REPLY (R155): the tag of its request and its payload. -/
structure Reply where
  tag : Word16
  payload : List Word32
  deriving DecidableEq, Repr

/-- The uplink port (R123, R124, R126). -/
structure Uplink where
  tx : Transmitter
  /-- TRAIN words of the opening run still to be sent. -/
  opening : Nat
  /-- The waiting REPLY. -/
  port : Option Reply
  paused : Bool
  deriving DecidableEq, Repr

/-- States of the return-lane receiver (R151). -/
inductive LaneState where
  | search | training | aligned
  deriving DecidableEq, Repr

/-- The return-lane receiver (R151). -/
structure ReturnLane where
  state : LaneState
  alignment : Option Nat
  trainingCount : Nat
  /-- As `Receiver.errorWindow`. -/
  errorWindow : List Nat
  /-- As `Receiver.signalTimer`. -/
  signalTimer : Nat
  /-- The data words of the request frame in progress; its check is computed from them (R153). -/
  frame : Option (List Word16)
  deriving DecidableEq, Repr

/-! ### Control unit (chapter 10) -/

/-- An admitted request (R154). -/
structure Request where
  code : BitVec 8
  tag : Word16
  payload : List Word32
  deriving DecidableEq, Repr

/-- Why a commit fails validation (R138). -/
inductive CommitFault where
  | noWindow | windowRange | windowOverlap | windowTotal | curve
  deriving DecidableEq, Repr

/-- The live settings (R162). -/
structure Live where
  enable : BitVec 24
  congestion : BitVec 2
  lowWater : Nat
  timeout : Nat
  causeMask : BitVec 6
  deriving DecidableEq, Repr

/-- The seven global counters, in the order of R160; each 32 bits, holding at its maximum. -/
structure GlobalCounters where
  slicesEmitted : Nat
  slicesIncomplete : Nat
  poolDrops : Nat
  filteredPulses : Nat
  maskedBursts : Nat
  saturatedSamples : Nat
  requestsDiscarded : Nat
  deriving DecidableEq, Repr

/-- The control unit: request queue, reply holder, overrun flag, latched causes, live settings, global counters. -/
structure Control where
  queue : List Request
  holder : Option Reply
  overrun : Bool
  /-- The latched cause CONFIG_REJECT with its detail. -/
  configReject : Option CommitFault
  sliceLoss : Bool
  controlOverrun : Bool
  live : Live
  globals : GlobalCounters
  deriving DecidableEq, Repr

/-! ### The whole part -/

/-- The state of the M7240, and the queue of the commands that wait. -/
structure State where
  links : Vector Link 24
  ring : Ring
  /-- The free list (R48), head first. -/
  freeCells : List Nat
  padTable : PadTable
  settings : SettingsUnit
  emitter : Emitter
  uplink : Uplink
  lane : ReturnLane
  control : Control
  /-- The model's own: how many free values have been drawn (assumption 3). -/
  freeDraws : Nat
  /-- The model's own: the commands that wait, first in, first out. -/
  pending : List Instr
  deriving DecidableEq, Repr

/-! ### Reset values -/

/-- A receiver after a pin reset (R79). -/
def Receiver.reset : Receiver where
  state := .search
  alignment := none
  trainingCount := 0
  errorWindow := []
  signalTimer := 0
  lastHeartbeat := none
  heartbeatOpen := false
  burstsSinceOpen := 0
  skipping := false
  frame := none

/-- Delta bits after a pin reset (R79). -/
def DeltaBits.clear : DeltaBits := ⟨false, false, false⟩

/-- Cleared link counters (R78). -/
def LinkCounters.zero : LinkCounters := ⟨0, 0, 0, 0, 0, 0, 0, 0, 0⟩

/-- A queue after every reset and restart (R79). -/
def Queue.empty : Queue := ⟨[], false⟩

/-- A link after a pin reset. -/
def Link.reset : Link := ⟨.reset, .clear, .zero, .empty⟩

/-- A link record in a FREE slot (R4). -/
def LinkRecord.free : LinkRecord where
  verdict := .excluded
  closedLast := false
  margin := .notNeeded
  flags := {}
  pulseCount := 0
  droppedCount := 0

/-- The totals of an emptied slot (R3). -/
def Totals.zero : Totals := ⟨0, 0, 0, 0, 0, 0, 0, 0⟩

/-- A FREE slot, its record emptied (R3). -/
def Slot.free : Slot where
  state := .free
  first := 0
  span := 0
  margin := 0
  epoch := 0
  deadline := none
  flags := {}
  links := Vector.replicate 24 .free
  rows := Vector.replicate 96 []
  totals := .zero

/-- The ring after every reset and restart (R25). -/
def Ring.reset : Ring where
  slots := Vector.replicate 8 .free
  cursor := none
  cursorSlot := 0
  newest := none
  intake := Vector.replicate 24 ⟨none, none⟩
  arbiter := 23

/-- The refilled free list: every cell in increasing order (R54). -/
def refilled : List Nat := List.range' 0 Config.poolCells

/-- A pad entry after a pin reset (R112). -/
def PadEntry.reset : PadEntry := ⟨0, 0, 0, 0, true, false⟩

/-- The pad table after a pin reset (R112). -/
def PadTable.reset : PadTable where
  bankA := Vector.replicate 3840 .reset
  bankB := Vector.replicate 3840 .reset
  active := .a
  stale := false
  copyNext := none

/-- The default curve (R134). -/
def Curve.default : Curve := ⟨1, 1, 1022, 1, 1⟩

/-- The settings defaults (R134). -/
def Settings.default : Settings where
  span := 0
  margin := 0
  baseline := 0
  pre := 0
  post := 0
  mergeGap := 0
  policy := .keep
  curveA := .default
  curveB := .default
  windows := (Vector.replicate 8 ⟨0, 0, .a⟩).set 0 ⟨0, 96, .a⟩
  rowTotal := 96
  order := .ascending
  expected := 0xFFFFFF#24

/-- Settings and commit state after a pin reset (R150). -/
def SettingsUnit.reset : SettingsUnit := ⟨.default, .default, none, 0⟩

/-- The emitter after every reset and restart (R113, R131). -/
def Emitter.reset : Emitter where
  state := .idle
  slot := none
  lastEpoch := none
  next := none
  row := 0
  continuation := false
  sections := 0
  pulsesSent := 0
  samplesSent := 0
  stopping := none

/-- The uplink port after a pin reset (R124, R130, R131). -/
def Uplink.reset : Uplink := ⟨.train, Config.openingWords, none, false⟩

/-- The return-lane receiver after a pin reset (R170). -/
def ReturnLane.reset : ReturnLane := ⟨.search, none, 0, [], 0, none⟩

/-- The live settings after a pin reset (R162). -/
def Live.reset : Live where
  enable := 0xFFFFFF#24
  congestion := 2
  lowWater := 1024
  timeout := 1000
  causeMask := 0x3F#6

/-- Cleared global counters (R160). -/
def GlobalCounters.zero : GlobalCounters := ⟨0, 0, 0, 0, 0, 0, 0⟩

/-- The control unit after a pin reset (R170). -/
def Control.reset : Control where
  queue := []
  holder := none
  overrun := false
  configReject := none
  sliceLoss := false
  controlOverrun := false
  live := .reset
  globals := .zero

/-- The part right after a pin reset, with no command waiting. -/
def State.reset : State where
  links := Vector.replicate 24 .reset
  ring := .reset
  freeCells := refilled
  padTable := .reset
  settings := .reset
  emitter := .reset
  uplink := .reset
  lane := .reset
  control := .reset
  freeDraws := 0
  pending := []

end Sys2Proof.Machine
end

