-- ==== Sys2Proof/Machine/Ops.lean ====
section
/-! DEFINITION. The named operations that the commands share: access to links, slots and link records; ingress queues;
what a receiver does with words; the mapping of heartbeats; verdicts, completion, and the emitter's taking of a slot. -/

namespace Sys2Proof.Machine

open Sys2Proof

/-! ### Access to the parts of the state -/

/-- The link `l`. -/
def State.link (s : State) (l : LinkId) : Link := s.links[l]

/-- Change one link. -/
def State.mapLink (l : LinkId) (f : Link → Link) (s : State) : State :=
  { s with links := s.links.set l (f s.links[l]) }

/-- Change every link. -/
def State.mapLinks (f : LinkId → Link → Link) (s : State) : State :=
  { s with links := Vector.ofFn fun l => f l s.links[l] }

/-- The slot `i`. -/
def State.slot (s : State) (i : SlotId) : Slot := s.ring.slots[i]

/-- Change one slot. -/
def State.mapSlot (i : SlotId) (f : Slot → Slot) (s : State) : State :=
  { s with ring := { s.ring with slots := s.ring.slots.set i (f s.ring.slots[i]) } }

/-- Change one link record of a slot. -/
def Slot.mapRecord (l : LinkId) (f : LinkRecord → LinkRecord) (t : Slot) : Slot :=
  { t with links := t.links.set l (f t.links[l]) }

/-- Change every link record of a slot. -/
def Slot.mapRecords (f : LinkRecord → LinkRecord) (t : Slot) : Slot :=
  { t with links := Vector.ofFn fun l : LinkId => f t.links[l] }

/-- Change the totals of a slot. -/
def Slot.mapTotals (f : Totals → Totals) (t : Slot) : Slot := { t with totals := f t.totals }

/-- The record of link `l` in slot `i`. -/
def State.record (s : State) (i : SlotId) (l : LinkId) : LinkRecord := (s.slot i).links[l]

/-- Change the record of link `l` in slot `i`. -/
def State.mapRecord (i : SlotId) (l : LinkId) (f : LinkRecord → LinkRecord) (s : State) : State :=
  s.mapSlot i (Slot.mapRecord l f)

/-- The intake state of link `l` (R7). -/
def State.intake (s : State) (l : LinkId) : Intake := s.ring.intake[l]

/-- Set the intake state of link `l`. -/
def State.setIntake (l : LinkId) (t : Intake) (s : State) : State :=
  { s with ring := { s.ring with intake := s.ring.intake.set l t } }

/-- Change the global counters. -/
def State.mapGlobals (f : GlobalCounters → GlobalCounters) (s : State) : State :=
  { s with control := { s.control with globals := f s.control.globals } }

/-- Change a link's counters. -/
def Link.mapCounters (f : LinkCounters → LinkCounters) (k : Link) : Link := { k with counters := f k.counters }

/-! ### The error window (R59) -/

/-- The error window after `n` words without a code error. -/
def ageWindow (n : Nat) (w : List Nat) : List Nat := (w.map (· + n)).filter (· < Config.windowWords)

/-- The error window after a word with a code error. -/
def markWindow (w : List Nat) : List Nat := 0 :: ageWindow 1 w

/-! ### Ingress queues (R72 to R75) -/

/-- The size of an item in units (R72). -/
def Item.size : Item → Nat
  | .hbOpen _ _ => 1
  | .hbClose _ => 1
  | .burst b => 1 + (b.samples.length + 1) / 2
  | .loss => 1
  | .linkDown _ => 1

/-- The fill of a queue in units (R72). -/
def Queue.fill (q : Queue) : Nat := (q.items.map Item.size).sum

/-- An item is an HB_OPEN, the one kind that ends drop mode (R73). -/
def Item.isHbOpen : Item → Bool
  | .hbOpen _ _ => true
  | _ => false

/-- An item is a burst. -/
def Item.isBurst : Item → Bool
  | .burst _ => true
  | _ => false

/-- An item fits: the fill plus its size is 2,047 or less (R72). -/
def Queue.fits (q : Queue) (it : Item) : Bool := q.fill + it.size ≤ Config.queueLimit

/-- An item enters at the tail; the bursts-accepted counter counts bursts (R72). -/
def Link.enqueue (it : Item) (k : Link) : Link :=
  { k with
    queue := ⟨k.queue.items ++ [it], false⟩
    counters := if it.isBurst then
        { k.counters with burstsAccepted := satAdd cap32 k.counters.burstsAccepted 1 }
      else k.counters }

/-- `n` items are dropped (R73, R74). -/
def Link.countDrops (n : Nat) (k : Link) : Link :=
  k.mapCounters fun c => { c with ingressDrops := satAdd cap32 c.ingressDrops n }

/-- The receiver offers an item to its queue: admission (R72), overflow and drop mode (R73). They are the rules of a blocked
link's queue as well (R14, R178). DEDUCED (assumption 23): that such a queue stays in drop mode (R179, second row) is what these
rules come to once it has filled, since nothing leaves it. -/
def Link.offer (it : Item) (k : Link) : Link :=
  if k.queue.dropMode then
    if it.isHbOpen && k.queue.fits it then k.enqueue it else k.countDrops 1
  else if k.queue.fits it then k.enqueue it
  else { k.countDrops 1 with queue := ⟨k.queue.items ++ [.loss], true⟩ }

/-- A flush (R74), and the LINK_DOWN entered into the emptied queue. -/
def Link.flushDown (reason : DownReason) (k : Link) : Link :=
  { k.countDrops k.queue.items.length with queue := ⟨[.linkDown reason], false⟩ }

/-! ### Link receivers (R59 to R71) -/

/-- A change of receiver state sets STATE_CHANGED (R59). -/
def Link.changeState (st : RxState) (k : Link) : Link :=
  { k with rx := { k.rx with state := st }, delta := { k.delta with stateChanged := true } }

/-- The receiver has word alignment: it is in TRAINING, READY, RUN or RESYNC. -/
def Receiver.aligned (r : Receiver) : Bool :=
  match r.state with
  | .training | .ready | .run | .resync => true
  | .disabled | .search | .held => false

/-- `n` words without a code error arrive: they enter the error window, and the signal timer restarts. -/
def Link.age (n : Nat) (k : Link) : Link :=
  if k.rx.aligned then
    { k with rx := { k.rx with errorWindow := ageWindow n k.rx.errorWindow, signalTimer := 0 } }
  else k

/-- A TRAIN word in TRAINING (R60). -/
def Link.trainUp (k : Link) : Link :=
  let k' := { k with rx := { k.rx with trainingCount := k.rx.trainingCount + 1 } }
  if Config.trainingWords ≤ k'.rx.trainingCount then k'.changeState .ready else k'

/-- Another word in TRAINING (R60). -/
def Link.trainReset (k : Link) : Link := { k with rx := { k.rx with trainingCount := 0 } }

/-- A framing error in RUN: what is wrong is discarded and counted, and the receiver skips (R66). -/
def Link.framingError (k : Link) : Link :=
  { k with
    rx := { k.rx with frame := none, skipping := true }
    counters := { k.counters with framingErrors := satAdd cap32 k.counters.framingErrors 1 } }

/-- The burst of which these data words have arrived: start bin, count and samples (R70, R71). -/
def burstOf (control : Word16) (words : List Word16) (checkError truncated : Bool) : Burst :=
  match words with
  | start :: count :: samples =>
    { channel := BitVec.ofNat 8 control.toNat
      start := start.toNat
      samples := (samples.take (keptBins start.toNat count.toNat)).map rawSample
      checkError := checkError
      truncated := truncated
      boundaryClamp := 512 < start.toNat + count.toNat }
  | _ => ⟨BitVec.ofNat 8 control.toNat, 0, [], checkError, truncated, false⟩

/-- A control word cuts the frame in progress in RUN: a burst with a sample is offered TRUNCATED (R71), any other frame is
a framing error (R66). -/
def Link.cutFrame (k : Link) : Link :=
  match k.rx.frame with
  | none => k
  | some f =>
    if frameHasSample f then
      { k with rx := { k.rx with frame := none } }.offer (.burst (burstOf f.control f.words false true))
    else k.framingError

/-- A control word begins a frame in RUN: idle fill, a frame, or a framing error (R66, R69, R70). DESIGN CHOICE (assumption
22): an HB_CLOSE with no heartbeat open is a framing error at its control word, as R66 has it; R69 would check it at its status
word. -/
def Link.beginFrame (c : Word16) (k : Link) : Link :=
  let k' := { k with rx := { k.rx with skipping := false } }
  match controlKind c with
  | .train => k'
  | .hbOpen => { k' with rx := { k'.rx with frame := some ⟨c, []⟩ } }
  | .hbClose =>
    if k.rx.heartbeatOpen then { k' with rx := { k'.rx with frame := some ⟨c, []⟩ } } else k'.framingError
  | .burst _ =>
    if k.rx.heartbeatOpen then
      { k' with rx := { k'.rx with
          frame := some ⟨c, []⟩
          burstsSinceOpen := satAdd cap16 k'.rx.burstsSinceOpen 1 } }
    else k'.framingError
  | .unknown => k'.framingError

/-- A control word arrives. Outside RUN only an HB_OPEN control word begins a frame, and it or any other abandons the one
before (R61, R68); in TRAINING it counts or resets the count (R60). -/
def Link.control (c : Word16) (k : Link) : Link :=
  match k.rx.state with
  | .disabled | .search | .held => k
  | .training => if c = Config.trainControl then (k.age 1).trainUp else (k.age 1).trainReset
  | .ready | .resync =>
    { k.age 1 with rx := { (k.age 1).rx with frame := if controlKind c = .hbOpen then some ⟨c, []⟩ else none } }
  | .run => (k.age 1).cutFrame.beginFrame c

/-- A frame starts with control word `c`, unless that word already began the frame in progress. -/
def Link.startFrame (c : Word16) (k : Link) : Link :=
  if k.rx.frame = some ⟨c, []⟩ then k else k.control c

/-- `n` data words arrive; in TRAINING they reset the count (R60). -/
def Link.dataWords (n : Nat) (k : Link) : Link :=
  if k.rx.state = .training ∧ n ≠ 0 then (k.age n).trainReset else k.age n

/-- The words of a frame arrive, up to those in `f`. A burst whose start bin or count is out of range is a framing error
(R66); the words of a frame that was not begun are discarded. -/
def Link.receive (f : FrameInProgress) (k : Link) : Link :=
  let k' := (k.startFrame f.control).dataWords f.words.length
  match k'.rx.frame, controlKind f.control with
  | none, _ => k'
  | some _, .burst _ =>
    if burstHeaderInRange f.words then { k' with rx := { k'.rx with frame := some f } } else k'.framingError
  | some _, _ => { k' with rx := { k'.rx with frame := some f } }

/-- A data word that belongs to no frame: a framing error in RUN unless the receiver is skipping (R66). With a frame in
progress the word would belong to it, so the event does not arise. -/
def Link.strayData (k : Link) : Link :=
  match k.rx.frame, k.rx.state with
  | some _, _ => k
  | none, .run => if k.rx.skipping then k.age 1 else (k.age 1).framingError
  | none, _ => k.dataWords 1

/-- An HB_OPEN is passed on: the item, then the heartbeat state (R61, R67, R68). -/
def Link.acceptHeartbeat (x : Heartbeat) (resync : Bool) (k : Link) : Link :=
  let k' := k.offer (.hbOpen x resync)
  { k' with rx := { k'.rx with lastHeartbeat := some x, heartbeatOpen := true, burstsSinceOpen := 0 } }

/-- The implicit HB_CLOSE for the heartbeat that is open, if one is (R67). -/
def Link.implicitClose (k : Link) : Link :=
  if k.rx.heartbeatOpen then
    let k' := k.offer (.hbClose
      { heartbeat := k.rx.lastHeartbeat.getD 0, declared := none, feTruncated := false, implicit := true,
        framing := false, countMismatch := false })
    { k' with
      rx := { k'.rx with heartbeatOpen := false }
      counters := { k'.counters with framingErrors := satAdd cap32 k'.counters.framingErrors 1 } }
  else k

/-- The sequence check of an HB_OPEN in RUN: normal, gap or disorder (R67). -/
def Link.sequence (x : Heartbeat) (k : Link) : Link :=
  match k.rx.lastHeartbeat with
  | none => k.acceptHeartbeat x false
  | some last =>
    let d := (x - last).toNat
    if d = 1 then k.acceptHeartbeat x false
    else if 2 ≤ d ∧ d < Config.halfTurn then
      (k.mapCounters fun c => { c with gaps := satAdd cap32 c.gaps 1 }).acceptHeartbeat x false
    else
      let k' := (k.mapCounters fun c => { c with disorders := satAdd cap32 c.disorders 1 }).changeState .resync
      { k' with delta := { k'.delta with resync := true } }

/-- The HB_OPEN frame whose control word has arrived is complete (R61, R67, R68). -/
def Link.completeOpen (x : Heartbeat) (k : Link) : Link :=
  let k' := { k with rx := { k.rx with frame := none } }
  match k.rx.state with
  | .ready => (k'.acceptHeartbeat x false).changeState .run
  | .resync => (k'.acceptHeartbeat x true).changeState .run
  | .run => k'.implicitClose.sequence x
  | .disabled | .search | .training | .held => k'

/-- The HB_CLOSE frame in progress is complete (R69). -/
def Link.completeClose (x : Heartbeat) (declared status : Word16) (k : Link) : Link :=
  let framing : Bool := k.rx.lastHeartbeat ≠ some x
  let mismatch : Bool := declared.toNat ≠ k.rx.burstsSinceOpen
  let k' := { k with rx := { k.rx with frame := none } }.offer (.hbClose
    { heartbeat := x, declared := some declared, feTruncated := flagBit status 0, implicit := false,
      framing := framing, countMismatch := mismatch })
  { k' with
    rx := { k'.rx with heartbeatOpen := false }
    counters := if framing then
        { k'.counters with framingErrors := satAdd cap32 k'.counters.framingErrors 1 }
      else k'.counters }

/-- The burst in progress is complete with its check word (R70). -/
def Link.completeBurst (f : FrameInProgress) (check : Word16) (k : Link) : Link :=
  let bad : Bool := crc f.words ≠ check
  let k' := { k with rx := { k.rx with frame := none } }.offer (.burst (burstOf f.control f.words bad false))
  if bad then k'.mapCounters fun c => { c with checkErrors := satAdd cap32 c.checkErrors 1 } else k'

/-- The receiver leaves what it was doing for `st`: the frame in progress is discarded and the heartbeat state cleared
(R62 steps 1 and 2, R63, R64). -/
def Link.goDown (st : RxState) (k : Link) : Link :=
  { k.changeState st with rx :=
    { k.rx with
      state := st, alignment := none, trainingCount := 0, lastHeartbeat := none, heartbeatOpen := false,
      burstsSinceOpen := 0, skipping := false, frame := none } }

/-- Alignment loss (R62). -/
def Link.loseAlignment (k : Link) : Link :=
  let k' := k.goDown .search
  { k' with
    delta := { k'.delta with lost := true }
    counters := { k'.counters with alignmentLosses := satAdd cap32 k'.counters.alignmentLosses 1 } }.flushDown .lost

/-! ### Mapping heartbeats to slots (R8, R9) -/

/-- Where a heartbeat maps. -/
inductive Place where
  | behind
  | beyond
  | within (offset : Fin 8)
  deriving DecidableEq, Repr

/-- The slice of heartbeat `x` under span code `S` begins at `x − (x mod K)` (R1). -/
def sliceStart (span : Nat) (x : Heartbeat) : Heartbeat := BitVec.ofNat 16 (x.toNat - x.toNat % 2 ^ span)

/-- How many old slices lie between the cursor and the switch heartbeat (R9). -/
def PendingCommit.oldSlices (c : PendingCommit) (cursor : Heartbeat) : Nat :=
  (c.switchHeartbeat - cursor).toNat / 2 ^ c.oldSpan

/-- The offset from the cursor of a heartbeat that is not behind (R8, R9). -/
def SettingsUnit.offset (u : SettingsUnit) (cursor x : Heartbeat) : Nat :=
  match u.commit with
  | none => (x - cursor).toNat / 2 ^ u.active.span
  | some c =>
    if (x - cursor).toNat < (c.switchHeartbeat - cursor).toNat then (x - cursor).toNat / 2 ^ c.oldSpan
    else c.oldSlices cursor + (x - c.switchHeartbeat).toNat / 2 ^ u.active.span

/-- The mapping of a heartbeat (R8, R9). With the cursor unset nothing maps into the ring. -/
def State.place (s : State) (x : Heartbeat) : Place :=
  match s.ring.cursor with
  | none => .behind
  | some fc =>
    if Config.halfTurn ≤ (x - fc).toNat then .behind
    else if h : s.settings.offset fc x < 8 then .within ⟨s.settings.offset fc x, h⟩ else .beyond

/-- The first heartbeat of the slice at offset `j` from the cursor `fc` (R8, R9). -/
def SettingsUnit.sliceAt (u : SettingsUnit) (fc : Heartbeat) (j : Nat) : Heartbeat :=
  match u.commit with
  | none => fc + BitVec.ofNat 16 (j * 2 ^ u.active.span)
  | some c =>
    if j < c.oldSlices fc then fc + BitVec.ofNat 16 (j * 2 ^ c.oldSpan)
    else c.switchHeartbeat + BitVec.ofNat 16 ((j - c.oldSlices fc) * 2 ^ u.active.span)

/-- The first heartbeat of the slice at offset `j`; 0 with the cursor unset. -/
def State.sliceFirst (s : State) (j : Nat) : Heartbeat :=
  match s.ring.cursor with
  | none => 0
  | some fc => s.settings.sliceAt fc j

/-- The slot at offset `j` from the cursor (R2). -/
def State.slotAt (s : State) (j : Fin 8) : SlotId := s.ring.cursorSlot + j

/-- The epoch that serves the slice at offset `j` (R10, R142). -/
def State.epochAt (s : State) (j : Nat) : Epoch :=
  match s.settings.commit, s.ring.cursor with
  | some c, some fc => if j < c.oldSlices fc then c.oldEpoch else s.settings.epoch
  | _, _ => s.settings.epoch

/-- The settings record that serves an epoch with open slots (R104, R134). -/
def SettingsUnit.settingsOf (u : SettingsUnit) (e : Epoch) : Settings :=
  match u.commit with
  | some c => if e = c.oldEpoch then c.outgoing else u.active
  | none => u.active

/-- The other bank. -/
def Bank.other : Bank → Bank
  | .a => .b
  | .b => .a

/-- The pad table bank that serves an epoch with open slots (R104). -/
def State.bankOf (s : State) (e : Epoch) : Bank :=
  match s.settings.commit with
  | some c => if e = c.oldEpoch then s.padTable.active.other else s.padTable.active
  | none => s.padTable.active

/-- The entries of a bank. -/
def PadTable.entries (t : PadTable) : Bank → Vector PadEntry 3840
  | .a => t.bankA
  | .b => t.bankB

/-- Write one entry of a bank. -/
def PadTable.write (bank : Bank) (i : Fin 3840) (e : PadEntry) (t : PadTable) : PadTable :=
  match bank with
  | .a => { t with bankA := t.bankA.set i e }
  | .b => { t with bankB := t.bankB.set i e }

/-- The slot whose margin heartbeat is `x`: the one at the offset below the slot that `x` begins (R29). -/
def State.marginSlot (s : State) (x : Heartbeat) : Option SlotId :=
  match s.place x with
  | .within j => if 0 < j.val ∧ s.sliceFirst j.val = x then some (s.slotAt (j - 1)) else none
  | _ => none

/-- The slot that holds `x`. -/
def State.ownSlot (s : State) (x : Heartbeat) : Option SlotId :=
  match s.place x with
  | .within j => some (s.slotAt j)
  | _ => none

/-- Slot `i` is FILLING and waits for link `l`. -/
def State.waitsFor (s : State) (l : LinkId) (i : SlotId) : Bool :=
  (s.slot i).state = .filling && (s.record i l).verdict = .pending

/-- Slot `i` is FILLING and awaits the margin of link `l`. -/
def State.awaitsMargin (s : State) (l : LinkId) (i : SlotId) : Bool :=
  (s.slot i).state = .filling && (s.record i l).margin = .awaited

/-- The slot in which the own part of an item of link `l` in heartbeat `x` applies (R20, R22, R23). -/
def State.ownPart (s : State) (l : LinkId) (x : Heartbeat) : Option SlotId := (s.ownSlot x).filter (s.waitsFor l)

/-- The slot in which the margin part of an item of link `l` in heartbeat `x` applies (R20, R22, R23). -/
def State.marginPart (s : State) (l : LinkId) (x : Heartbeat) : Option SlotId :=
  (s.marginSlot x).filter (s.awaitsMargin l)

/-! ### Verdicts and margins (R26, R27) -/

/-- The verdict leaves PENDING for MISSING through an event in one of the slice's own heartbeats; an AWAITED margin becomes
ABSENT with it (R26, R27). -/
def LinkRecord.miss (mark : LinkFlags → LinkFlags) (r : LinkRecord) : LinkRecord :=
  if r.margin = .awaited then
    { r with verdict := .missing, margin := .absent, flags := { mark r.flags with marginAbsent := true } }
  else { r with verdict := .missing, flags := mark r.flags }

/-- The margin ends ABSENT and the link is DONE (R27). -/
def LinkRecord.marginAbsent (r : LinkRecord) : LinkRecord :=
  { r with verdict := .done, margin := .absent, flags := { r.flags with marginAbsent := true } }

/-- A PENDING link is given up at a deadline or by a forced close (R36, R37). -/
def LinkRecord.giveUp (r : LinkRecord) : LinkRecord :=
  if r.verdict = .pending then
    if r.closedLast then r.marginAbsent else { r with verdict := .missing }
  else r

/-- A LINK_DOWN reaches a PENDING link (R38). -/
def LinkRecord.takeDown (reason : DownReason) (r : LinkRecord) : LinkRecord :=
  if r.verdict = .pending then
    if r.closedLast then r.marginAbsent
    else match reason with
      | .lost => { r with verdict := .missing, flags := { r.flags with lost := true } }
      | .held | .disabled => { r with verdict := .excluded, flags := { r.flags with held := true } }
  else r

/-- MARGIN_CUT reaches an AWAITED margin (R33). -/
def LinkRecord.cutMargin (r : LinkRecord) : LinkRecord :=
  if r.margin = .awaited then { r with verdict := .done, margin := .notNeeded } else r

/-- The own part of an HB_CLOSE: its tags, and at the slice's last heartbeat closed-last with DONE or AWAITED (R22). -/
def LinkRecord.close (c : Close) (last : Bool) (margin : Nat) (r : LinkRecord) : LinkRecord :=
  let r' := { r with flags := { r.flags with
    feTruncated := r.flags.feTruncated || c.feTruncated
    countMismatch := r.flags.countMismatch || c.countMismatch || c.implicit } }
  if last then
    if margin = 0 then { r' with closedLast := true, verdict := .done }
    else { r' with closedLast := true, margin := .awaited }
  else r'

/-! ### Completion (R28) and the emitter's taking (R114) -/

/-- Some link of the slot is PENDING. -/
def Slot.hasPending (t : Slot) : Bool := t.links.toList.any fun r => r.verdict = .pending

/-- SLICE_LOSS is latched (R42). -/
def State.latchSliceLoss (s : State) : State := { s with control := { s.control with sliceLoss := true } }

/-- A slot becomes COMPLETE: its deadline becomes none, and with INCOMPLETE the loss is latched and counted (R28, R42, R43). -/
def State.completeSlot (i : SlotId) (s : State) : State :=
  let s' := s.mapSlot i fun t => { t with state := .complete, deadline := none }
  if (s.slot i).flags.incomplete then
    (s'.mapGlobals fun g => { g with slicesIncomplete := satAdd cap32 g.slicesIncomplete 1 }).latchSliceLoss
  else s'

/-- Examine a slot for completion (R28). -/
def State.examine (i : SlotId) (s : State) : State :=
  if (s.slot i).state = .filling ∧ (s.slot i).hasPending = false then s.completeSlot i else s

/-- Examine every slot for completion (R28). -/
def State.examineAll (s : State) : State := (List.finRange 8).foldl (fun s i => s.examine i) s

/-- The first row of a row order (R110). -/
def RowOrder.firstRow : RowOrder → RowId
  | .ascending => 0
  | .descending => 95

/-- The IDLE emitter takes the COMPLETE cursor slot, when stopping is clear (R114). -/
def State.emitterTakes (s : State) : State :=
  let i := s.ring.cursorSlot
  if s.emitter.state = .idle ∧ s.emitter.stopping = none ∧ s.ring.cursor ≠ none ∧ (s.slot i).state = .complete then
    let s' := s.mapSlot i fun t => { t with state := .emitting }
    { s' with emitter :=
      { s.emitter with
        state := if s.uplink.paused then .pausedInRecord else .record
        slot := some i
        next := some (if s.emitter.lastEpoch = some (s.slot i).epoch then .head else .epochMark)
        row := (s.settings.settingsOf (s.slot i).epoch).order.firstRow
        continuation := false
        sections := 0
        pulsesSent := 0
        samplesSent := 0 } }
  else s

/-- What every event at the slots ends with: completion is examined, and the emitter may take the cursor slot. -/
def State.settle (s : State) : State := s.examineAll.emitterTakes

/-- Give up on a FILLING slot: the effect of a deadline expiry on its links and flags (R36). -/
def State.giveUp (i : SlotId) (s : State) : State :=
  s.mapSlot i fun t => { t.mapRecords LinkRecord.giveUp with flags := { t.flags with incomplete := true } }

end Sys2Proof.Machine
end

