-- ==== Sys2Proof/Machine/Flags.lean ====
section
/-! DEFINITION. The causes and the attention flag (R128, R167), and the flag fields of records as numbers (R173, R174). -/

namespace Sys2Proof.Machine

open Sys2Proof

/-! ### Causes (R167) -/

/-- The six causes, in order of priority. -/
inductive Cause where
  | configReject | linkChange | sliceLoss | congestion | poolLow | controlOverrun
  deriving DecidableEq, Repr

/-- The causes, highest priority first. -/
def Cause.all : List Cause := [.configReject, .linkChange, .sliceLoss, .congestion, .poolLow, .controlOverrun]

/-- The priority of a cause, 1 to 6 (R167). -/
def Cause.priority : Cause → Nat
  | .configReject => 1
  | .linkChange => 2
  | .sliceLoss => 3
  | .congestion => 4
  | .poolLow => 5
  | .controlOverrun => 6

/-- Some delta bit is set (R77). -/
def DeltaBits.any (d : DeltaBits) : Bool := d.stateChanged || d.lost || d.resync

/-- The congestion level in units of its code (R76). -/
def congestionLevel (code : BitVec 2) : Nat :=
  match code.toNat with
  | 0 => 512
  | 1 => 1024
  | 2 => 1536
  | _ => 1920

/-- The lowest-numbered link that satisfies `p`. -/
def State.firstLink (s : State) (p : Link → Bool) : Option LinkId := (List.finRange 24).find? fun l => p (s.link l)

/-- A link's fill is at or above the congestion level (R76). -/
def State.congested (s : State) (k : Link) : Bool := congestionLevel s.control.live.congestion ≤ k.queue.fill

/-- A cause is pending, whether or not it is enabled (R167). -/
def State.isPending (s : State) : Cause → Bool
  | .configReject => s.control.configReject.isSome
  | .linkChange => (s.firstLink fun k => k.delta.any).isSome
  | .sliceLoss => s.control.sliceLoss
  | .congestion => (s.firstLink s.congested).isSome
  | .poolLow => s.freeCells.length < s.control.live.lowWater
  | .controlOverrun => s.control.controlOverrun

/-- A cause is enabled in the cause enable mask: bit p − 1 for priority p (R175). -/
def State.isEnabled (s : State) (c : Cause) : Bool := s.control.live.causeMask.getLsbD (c.priority - 1)

/-- The attention flag of a header formed now (R128). -/
def State.attention (s : State) : Bool := Cause.all.any fun c => s.isEnabled c && s.isPending c

/-- The enabled pending cause of highest priority (R168). -/
def State.topCause (s : State) : Option Cause := Cause.all.find? fun c => s.isEnabled c && s.isPending c

/-- The detail code of a rejection (R176). -/
def CommitFault.code : CommitFault → Nat
  | .noWindow => 1
  | .windowRange => 2
  | .windowOverlap => 3
  | .windowTotal => 4
  | .curve => 5

/-- The detail of a cause as it stands (R167, R176). -/
def State.causeDetail (s : State) : Cause → Nat
  | .configReject => match s.control.configReject with
    | some f => f.code
    | none => 0
  | .linkChange => match s.firstLink fun k => k.delta.any with
    | some l => l.val
    | none => 0
  | .sliceLoss => 0
  | .congestion => match s.firstLink s.congested with
    | some l => l.val
    | none => 0
  | .poolLow => s.freeCells.length
  | .controlOverrun => 0

/-- The set of pending causes as bits 8 to 13 of a QUERY_CAUSE reply, bit 8 + p − 1 for priority p (R176). -/
def State.pendingBits (s : State) : Nat :=
  (Cause.all.map fun c => placedFlag (s.isPending c) (7 + c.priority)).sum

/-- A latched cause is cleared by its return; a level cause is not (R168). -/
def Control.clearLatched (c : Cause) (k : Control) : Control :=
  match c with
  | .configReject => { k with configReject := none }
  | .sliceLoss => { k with sliceLoss := false }
  | .controlOverrun => { k with controlOverrun := false }
  | .linkChange | .congestion | .poolLow => k

/-! ### Flag fields of records -/

/-- Slot flags at bits 16 to 20 of HEAD word 1 (R173). -/
def SlotFlags.bits (f : SlotFlags) : Nat :=
  placedFlag f.incomplete 16 + placedFlag f.marginCut 17 + placedFlag f.forced 18 + placedFlag f.poolExhausted 19 +
    placedFlag f.partialStart 20

/-- Link flags at bits 16 to 25 of a link entry (R173). -/
def LinkFlags.bits (f : LinkFlags) : Nat :=
  placedFlag f.gap 16 + placedFlag f.lost 17 + placedFlag f.ingressLoss 18 + placedFlag f.notReady 19 +
    placedFlag f.held 20 + placedFlag f.partialShare 21 + placedFlag f.feTruncated 22 +
    placedFlag f.countMismatch 23 + placedFlag f.checkError 24 + placedFlag f.marginAbsent 25

/-- Pulse flags at bits 0 to 4 (R174). -/
def PulseFlags.bits (f : PulseFlags) : Nat :=
  placedFlag f.margin 0 + placedFlag f.piece 1 + placedFlag f.suspect 2 + placedFlag f.saturated 3 +
    placedFlag f.trimmed 4

/-- The verdict code of a link entry (R173). -/
def Verdict.code : Verdict → Nat
  | .pending => 0
  | .done => 1
  | .missing => 2
  | .excluded => 3

/-- The slot state code of READ_STATUS (R176). -/
def SlotState.code : SlotState → Nat
  | .free => 0
  | .filling => 1
  | .complete => 2
  | .emitting => 3

/-- The receiver state code of READ_LINKS (R176). -/
def RxState.code : RxState → Nat
  | .disabled => 0
  | .search => 1
  | .training => 2
  | .ready => 3
  | .run => 4
  | .resync => 5
  | .held => 6

end Sys2Proof.Machine
end

