-- ==== Sys2Proof/Machine/Layouts.lean ====
section
/-! DEFINITION. Word layouts (chapter 11): settings record, pad entry, payloads of record frames, reply payloads, headers. -/

namespace Sys2Proof.Machine

open Sys2Proof

/-- A payload word from the sum of its placed fields. -/
def word (n : Nat) : Word32 := BitVec.ofNat 32 n

/-! ### The settings record (R177) -/

/-- The curve bit of a window: 0 A, 1 B. -/
def CurveName.bit : CurveName → Bool
  | .a => false
  | .b => true

/-- The curve of a curve bit. -/
def curveOfBit (b : Bool) : CurveName := if b then .b else .a

/-- A curve word. -/
def Curve.word (v : Curve) : Word32 :=
  Machine.word (placed v.segments 30 2 + placed v.knee1 20 10 + placed v.knee2 10 10 + placed v.shift2 3 3 +
    placed v.shift3 0 3)

/-- A window word. -/
def Window.word (w : Window) : Word32 :=
  Machine.word (placedFlag w.curve.bit 15 + placed w.count 8 7 + placed w.start 0 7)

/-- A settings record as its 13 words. -/
def Settings.words (c : Settings) : List Word32 :=
  [word (placed c.margin 16 16 + placed c.span 0 3),
   word (placed (BitVec.ofInt 16 c.baseline).toNat 16 16 + placedFlag (decide (c.policy = .drop)) 15 +
     placed c.mergeGap 8 4 + placed c.post 4 4 + placed c.pre 0 4),
   c.curveA.word, c.curveB.word] ++
  c.windows.toList.map Window.word ++
  [word (placedFlag (decide (c.order = .descending)) 31 + placed c.rowTotal 24 7 + placed c.expected.toNat 0 24)]

/-- The curve that a curve word carries, its fields as written. -/
def readCurve (w : Word32) : Curve := ⟨field w 30 2, field w 20 10, field w 10 10, field w 3 3, field w 0 3⟩

/-- The window that a window word carries, its fields as written. -/
def readWindow (w : Word32) : Window := ⟨field w 0 7, field w 8 7, curveOfBit (flagBit w 15)⟩

/-- The record that 13 words carry, its fields as written; word `i` by `g i`. -/
def readSettings (ws : List Word32) : Settings :=
  let g (i : Nat) : Word32 := ws[i]?.getD 0
  { span := field (g 0) 0 3
    margin := field (g 0) 16 16
    baseline := (BitVec.ofNat 16 (field (g 1) 16 16)).toInt
    pre := field (g 1) 0 4
    post := field (g 1) 4 4
    mergeGap := field (g 1) 8 4
    policy := if flagBit (g 1) 15 then .drop else .keep
    curveA := readCurve (g 2)
    curveB := readCurve (g 3)
    windows := Vector.ofFn fun j : Fin 8 => readWindow (g (4 + j.val))
    rowTotal := field (g 12) 24 7
    order := if flagBit (g 12) 31 then .descending else .ascending
    expected := BitVec.ofNat 24 (g 12).toNat }

/-- A value limited to a range (section 1.7). -/
def limit (lo hi v : Nat) : Nat := max lo (min hi v)

/-- A curve with each field limited (R133, R135). -/
def Curve.limited (v : Curve) : Curve :=
  ⟨limit 1 3 v.segments, limit 1 1022 v.knee1, limit 1 1022 v.knee2, limit 1 4 v.shift2, limit 1 4 v.shift3⟩

/-- A window with each field limited (R133, R135). -/
def Window.limited (w : Window) : Window := ⟨min 95 w.start, min 96 w.count, w.curve⟩

/-- A settings record with each field limited to its range (R133, R135). -/
def Settings.limited (c : Settings) : Settings :=
  { c with
    span := min 4 c.span
    margin := min 511 c.margin
    baseline := max (-512) (min 511 c.baseline)
    pre := min 3 c.pre
    post := min 7 c.post
    mergeGap := min 3 c.mergeGap
    curveA := c.curveA.limited
    curveB := c.curveB.limited
    windows := Vector.ofFn fun j : Fin 8 => c.windows[j].limited
    rowTotal := min 96 c.rowTotal }

/-! ### The pad entry (R177) -/

/-- A pad entry as its two words. -/
def PadEntry.words (e : PadEntry) : List Word32 :=
  [word (placedFlag e.nosuppress 28 + placedFlag e.masked 27 + placed e.row.toNat 20 7 +
     placed e.threshold.toNat 12 8 + placed e.pedestal.toNat 0 12),
   word (placed e.pad.toNat 0 8)]

/-- The pad entry that two words carry. -/
def readEntry (a b : Word32) : PadEntry where
  pedestal := BitVec.ofNat 12 (field a 0 12)
  threshold := BitVec.ofNat 8 (field a 12 8)
  row := BitVec.ofNat 7 (field a 20 7)
  pad := BitVec.ofNat 8 (field b 0 8)
  masked := flagBit a 27
  nosuppress := flagBit a 28

/-- The pad entries that a list of words carries, two words each. -/
def readEntries : List Word32 → List PadEntry
  | a :: b :: rest => readEntry a b :: readEntries rest
  | _ => []

/-! ### Payloads of record frames (R173, R174) -/

/-- An EPOCH_MARK payload (R117). -/
def epochMarkPayload (t : Slot) (runStart : Bool) (cfg : Settings) : List Word32 :=
  word (placed t.first.toNat 16 16 + placedFlag runStart 8 + placed t.epoch.toNat 0 8) :: cfg.words

/-- A link entry of a HEAD frame. -/
def linkEntry (k : LinkId) (r : LinkRecord) : List Word32 :=
  [word (r.flags.bits + placed k.val 8 5 + placed r.verdict.code 0 2),
   word (placed r.pulseCount 16 16 + placed r.droppedCount 0 16)]

/-- A HEAD payload (R118). -/
def headPayload (t : Slot) (order : RowOrder) : List Word32 :=
  [word (placed t.first.toNat 16 16 + placed t.epoch.toNat 8 8 + placedFlag (decide (order = .descending)) 4 +
     placed t.span 0 3),
   word (t.flags.bits + placed t.margin 0 9),
   word (placed t.totals.pulses 0 24)] ++
  (List.finRange 24).flatMap fun k => linkEntry k t.links[k]

/-- The code words of a pulse: four codes each, the first in the highest byte, padded with 0 (R174). -/
def codeWords : List Nat → List Word32
  | [] => []
  | [a] => [word (placed a 24 8)]
  | [a, b] => [word (placed a 24 8 + placed b 16 8)]
  | [a, b, c] => [word (placed a 24 8 + placed b 16 8 + placed c 8 8)]
  | a :: b :: c :: d :: rest =>
    word (placed a 24 8 + placed b 16 8 + placed c 8 8 + placed d 0 8) :: codeWords rest

/-- The payload words that a pulse takes (R119). -/
def pulseSize (p : StoredPulse) : Nat := 2 + (p.pulse.codes.length + 3) / 4

/-- A pulse laid out in full (R174). -/
def pulseWords (p : Pulse) : List Word32 :=
  [word (placed p.pad.toNat 24 8 + placed p.channel.toNat 16 8 + placed p.link.val 8 5 + p.flags.bits),
   word (placed p.start 16 14 + placed p.codes.length 0 7)] ++ codeWords p.codes

/-- A ROW payload (R119, R174). -/
def rowPayload (section_ : Nat) (continued : Bool) (row : RowId) (ps : List StoredPulse) : List Word32 :=
  word (placed section_ 16 12 + placedFlag continued 15 + placed row.val 0 7) ::
    ps.flatMap fun p => pulseWords p.pulse

/-- A TAIL payload (R121). -/
def tailPayload (e : Emitter) (t : Totals) : List Word32 :=
  [word (placed e.sections 0 12), word e.pulsesSent, word e.samplesSent, word t.saturated, word t.filtered,
   word t.masked, word t.poolDrops, word t.bad]

/-! ### Frames (R116, R172) -/

/-- The kind code of a frame (section 11.1). -/
def FrameKind.code : FrameKind → Nat
  | .epochMark => 1
  | .head => 2
  | .row => 3
  | .tail => 4
  | .reply => 5

/-- An uplink header (R172). -/
def uplinkHeader (kind : FrameKind) (attention : Bool) (length : Nat) (kindField : Word16) : Word32 :=
  word (placed kind.code 28 4 + placedFlag attention 27 + placed length 16 8 + placed kindField.toNat 0 16)

/-- A frame with its header, payload and check (R116). -/
def uplinkFrame (kind : FrameKind) (attention : Bool) (kindField : Word16) (payload : List Word32) (pulses : Nat) :
    UplinkFrame :=
  let header := uplinkHeader kind attention payload.length kindField
  ⟨kind, header, payload, (crc (halves (header :: payload))).setWidth 32, pulses⟩

/-- The FRAME_START control word of a kind of frame (R172). -/
def FrameKind.startWord (k : FrameKind) : Word16 := BitVec.ofNat 16 (Config.frameStart.toNat + k.code)

/-- The lane words of an uplink frame, in the order in which they are sent: FRAME_START with the kind in its low byte, then
header, payload and check, each payload word as two data words with the high half first (R116, R172). -/
def UplinkFrame.laneWords (f : UplinkFrame) : List LaneWord :=
  .control f.kind.startWord :: (halves (f.header :: f.payload ++ [f.check])).map .data

/-- The lane words that the transmitter is sending: one TRAIN word, or those of a frame (R123, R124). -/
def Transmitter.laneWords : Transmitter → List LaneWord
  | .train => [.control Config.trainControl]
  | .frame f => f.laneWords
  | .boundary => []

/-! ### Reply payloads (R176) -/

/-- The reply statuses (R156). -/
inductive Status where
  | ok | busy | rejected | badArgument | none | badRequest
  deriving DecidableEq, Repr

/-- The status code (R176). -/
def Status.code : Status → Nat
  | .ok => 0
  | .busy => 1
  | .rejected => 2
  | .badArgument => 3
  | .none => 4
  | .badRequest => 5

/-- The status word. -/
def statusWord (code : BitVec 8) (overrun clamped : Bool) (st : Status) : Word32 :=
  word (placed code.toNat 24 8 + placedFlag overrun 9 + placedFlag clamped 8 + placed st.code 0 4)

/-- The twelve words of a READ_STATUS reply (R158, R176). -/
def State.statusWords (s : State) : List Word32 :=
  [word (placedFlag s.ring.cursor.isSome 31 + placed s.ring.cursorSlot.val 16 3 +
     placed (s.ring.cursor.getD 0).toNat 0 16),
   word (placedFlag s.ring.newest.isSome 31 + placed (s.ring.newest.getD 0).toNat 0 16),
   word (placedFlag s.settings.commit.isSome 31 +
     placed (match s.settings.commit with | some c => c.switchHeartbeat.toNat | none => 0) 0 16),
   word (placed s.freeCells.length 16 15 + placedFlag s.emitter.stopping.isSome 12 + placedFlag s.uplink.paused 11 +
     placedFlag s.padTable.stale 10 + placedFlag s.padTable.copyNext.isSome 9 +
     placedFlag (decide (s.padTable.active = .b)) 8 + placed s.settings.epoch.toNat 0 8)] ++
  (List.finRange 8).map fun j =>
    word (placed (s.slot j).first.toNat 16 16 + placed (s.slot j).epoch.toNat 8 8 + placed (s.slot j).state.code 0 2)

/-- The word of a link in a READ_LINKS reply (R159, R176). -/
def linkWord (k : Link) : Word32 :=
  word (placed k.queue.fill 16 12 + placedFlag k.queue.dropMode 7 + placedFlag k.delta.resync 6 +
    placedFlag k.delta.lost 5 + placedFlag k.delta.stateChanged 4 + placed k.rx.state.code 0 3)

/-- The counters of a link in the order of R78. -/
def LinkCounters.words (c : LinkCounters) : List Word32 :=
  [word c.codeErrors, word c.alignmentLosses, word c.burstsAccepted, word c.checkErrors, word c.framingErrors,
   word c.gaps, word c.disorders, word c.ingressDrops, word c.lateItems]

/-- The global counters in the order of R160. -/
def GlobalCounters.words (g : GlobalCounters) : List Word32 :=
  [word g.slicesEmitted, word g.slicesIncomplete, word g.poolDrops, word g.filteredPulses, word g.maskedBursts,
   word g.saturatedSamples, word g.requestsDiscarded]

end Sys2Proof.Machine
end

