-- ==== Sys2Proof/Machine/Conditioner.lean ====
section
/-! DEFINITION. The arithmetic from raw sample to code (chapter 6): conditioned values, keep mask, extension, merging, splitting,
compression. The conditioner holds no state (R81). -/

namespace Sys2Proof.Machine

open Sys2Proof

/-! ### Stage 1: conditioned values (R83, R84) -/

/-- The unlimited conditioned value `⌊(4r − p + b + 2) / 4⌋`, the floor toward minus infinity (R83). -/
def unlimitedValue (pedestal : BitVec 12) (baseline : Int) (r : BitVec 10) : Int :=
  (4 * (r.toNat : Int) - pedestal.toNat + baseline + 2) / 4

/-- The conditioned value: `u` limited to 0 to 1,023 (R83). -/
def limitedValue (u : Int) : Nat := if u < 0 then 0 else if 1023 < u then 1023 else u.toNat

/-- A conditioned sample and its saturated mark (R84). -/
structure Conditioned where
  value : Nat
  saturated : Bool
  deriving DecidableEq, Repr

/-- Stage 1 for one raw sample. -/
def condition (pedestal : BitVec 12) (baseline : Int) (r : BitVec 10) : Conditioned :=
  ⟨limitedValue (unlimitedValue pedestal baseline r), decide (1023 < unlimitedValue pedestal baseline r)⟩

/-! ### Stages 2 to 5: forming pulses (R85 to R88) -/

/-- The keep mask (R85). -/
def keepMask (e : PadEntry) (cs : List Conditioned) : List Bool :=
  cs.map fun c => e.nosuppress || decide (e.threshold.toNat ≤ c.value)

/-- The mask widened by pre-samples and post-samples within the burst (R86). -/
def extend (pre post : Nat) (kept : List Bool) : List Bool :=
  (List.range kept.length).map fun i =>
    kept.zipIdx.any fun m => m.1 && decide (m.2 ≤ i + pre) && decide (i ≤ m.2 + post)

/-- A run of consecutive sample indices. -/
structure Run where
  start : Nat
  length : Nat
  deriving DecidableEq, Repr

/-- The maximal runs of marked indices, from index `i` on, with `opened` the start of a run that reaches `i` (R87). -/
def runsFrom : Nat → Option Nat → List Bool → List Run
  | _, none, [] => []
  | i, some a, [] => [⟨a, i - a⟩]
  | i, none, true :: t => runsFrom (i + 1) (some i) t
  | i, none, false :: t => runsFrom (i + 1) none t
  | i, some a, true :: t => runsFrom (i + 1) (some a) t
  | i, some a, false :: t => ⟨a, i - a⟩ :: runsFrom (i + 1) none t

/-- Neighbouring runs separated by at most `gap` unmarked indices are merged (R87). -/
def mergeRuns (gap : Nat) : List Run → List Run
  | [] => []
  | r :: rs =>
    match mergeRuns gap rs with
    | [] => [r]
    | q :: qs =>
      if q.start - (r.start + r.length) ≤ gap then ⟨r.start, q.start + q.length - r.start⟩ :: qs
      else r :: q :: qs

/-- A piece of a run: what one pulse covers (R88). -/
structure Piece where
  start : Nat
  length : Nat
  later : Bool
  deriving DecidableEq, Repr

/-- A run is cut into pieces of at most 64 samples from its first index; later pieces carry PIECE (R88). -/
def splitRun (r : Run) : List Piece :=
  (List.range ((r.length + 63) / 64)).map fun k => ⟨r.start + 64 * k, min 64 (r.length - 64 * k), decide (0 < k)⟩

/-- Stages 2 to 5 (R82): the pieces of a burst, in increasing order of start. -/
def pieces (cfg : Settings) (e : PadEntry) (cs : List Conditioned) : List Piece :=
  (mergeRuns cfg.mergeGap (runsFrom 0 none (extend cfg.pre cfg.post (keepMask e cs)))).flatMap splitRun

/-! ### Stage 6: compression (R90 to R92) -/

/-- The unlimited code of a conditioned value (R91). -/
def unlimitedCode (v : Curve) (c : Nat) : Nat :=
  if v.segments = 1 ∨ c < v.knee1 then c
  else if v.segments = 2 ∨ c < v.knee2 then v.knee1 + (c - v.knee1) / 2 ^ v.shift2
  else v.knee1 + (v.knee2 - v.knee1) / 2 ^ v.shift2 + (c - v.knee2) / 2 ^ v.shift3

/-- A code and the saturated mark of its sample (R92). -/
structure Code where
  code : Nat
  saturated : Bool
  deriving DecidableEq, Repr

/-- Compress one conditioned sample (R91, R92). -/
def compress (v : Curve) (c : Conditioned) : Code :=
  ⟨min 255 (unlimitedCode v c.value), c.saturated || decide (255 < unlimitedCode v c.value)⟩

/-- A pulse as handed to filing (R89): its start bin in the burst's heartbeat, its codes with their marks, and PIECE. -/
structure FormedPulse where
  bin : Nat
  codes : List Code
  piece : Bool
  deriving DecidableEq, Repr

/-- Stage 6 for one piece of a burst that starts at bin `start`. -/
def formPulse (v : Curve) (start : Nat) (cs : List Conditioned) (p : Piece) : FormedPulse :=
  ⟨start + p.start, ((cs.drop p.start).take p.length).map (compress v), p.later⟩

/-- How many samples of a list of codes are saturated (R92). -/
def saturatedCount (cs : List Code) : Nat := cs.countP Code.saturated

/-! ### Row windows (R108) -/

/-- A window holds a row. -/
def Window.holds (w : Window) (row : Nat) : Bool := w.start ≤ row && row < w.start + w.count

/-- The active window that holds a row, if any (R108). -/
def Settings.windowOf (cfg : Settings) (row : Nat) : Option Window := cfg.windows.toList.find? (·.holds row)

/-- The curve that a window names. -/
def Settings.curveOf (cfg : Settings) : CurveName → Curve
  | .a => cfg.curveA
  | .b => cfg.curveB

/-- The conditioned samples of a burst (stage 1). -/
def conditionAll (cfg : Settings) (e : PadEntry) (b : Burst) : List Conditioned :=
  b.samples.map (condition e.pedestal cfg.baseline)

/-- What the conditioner makes of a burst (R82): either the number of pulses the row filter rejects, or the pulses. -/
inductive Product where
  | filtered (n : Nat)
  | pulses (ps : List FormedPulse)
  deriving DecidableEq, Repr

/-- Stages 1 to 6 with the row filter between (R82, R109). -/
def conditionBurst (cfg : Settings) (e : PadEntry) (b : Burst) : Product :=
  let cs := conditionAll cfg e b
  let ps := pieces cfg e cs
  match cfg.windowOf e.row.toNat with
  | none => .filtered ps.length
  | some w => .pulses (ps.map (formPulse (cfg.curveOf w.curve) b.start cs))

end Sys2Proof.Machine
end

