-- ==== Sys2Proof/Machine/Pool.lean ====
section
/-! DEFINITION. The cell pool (chapter 4): allocation, the storing and dropping of pulses, return of cells; and the filing of
a conditioned burst (R21, R29 to R31). -/

namespace Sys2Proof.Machine

open Sys2Proof

/-! ### Allocation and return (R46 to R51) -/

/-- Cells that a pulse of `n` codes holds (R47). -/
def cellsFor (n : Nat) : Nat := 1 + (n + 15) / 16

/-- The first `c` cells of the free list and the rest, when there are that many (R49). -/
def takeCells : Nat → List Nat → Option (List Nat × List Nat)
  | 0, free => some ([], free)
  | _ + 1, [] => none
  | c + 1, x :: free => (takeCells c free).map fun r => (x :: r.1, r.2)

/-- The cells that a stored pulse holds, header first (R51). -/
def StoredPulse.cells (p : StoredPulse) : List Nat := p.header :: p.codeCells

/-- Append a pulse to the chain of a row (R5). -/
def Slot.appendPulse (row : RowId) (p : StoredPulse) (t : Slot) : Slot :=
  { t with rows := t.rows.set row (t.rows[row] ++ [p]) }

/-- The totals grow with a pulse that is appended (R5). -/
def Totals.addPulse (cells samples saturated : Nat) (t : Totals) : Totals :=
  { t with
    pulses := satAdd cap32 t.pulses 1
    cellsHeld := t.cellsHeld + cells
    samples := satAdd cap32 t.samples samples
    saturated := satAdd cap32 t.saturated saturated }

/-- A pulse has its cells: it is appended and counted (R21, R49). -/
def State.appendStored (i : SlotId) (row : RowId) (p : StoredPulse) (saturated : Nat) (s : State) : State :=
  s.mapSlot i fun t =>
    ((t.appendPulse row p).mapRecord p.pulse.link fun r =>
        { r with pulseCount := satAdd cap16 r.pulseCount 1 }).mapTotals
      (Totals.addPulse p.cells.length p.pulse.codes.length saturated)

/-- A pulse finds too few free cells and is dropped (R50). -/
def State.dropPulse (i : SlotId) (l : LinkId) (s : State) : State :=
  ((s.mapSlot i fun t =>
      let t' := (t.mapRecord l fun r => { r with droppedCount := satAdd cap16 r.droppedCount 1 }).mapTotals
        fun u => { u with poolDrops := satAdd cap32 u.poolDrops 1 }
      { t' with flags := { t'.flags with poolExhausted := true } }).mapGlobals
    fun g => { g with poolDrops := satAdd cap32 g.poolDrops 1 }).latchSliceLoss

/-- Store a pulse in a slot, all its cells or none (R49, R50). -/
def State.store (i : SlotId) (row : RowId) (p : Pulse) (saturated : Nat) (s : State) : State :=
  match takeCells (cellsFor p.codes.length) s.freeCells with
  | some (header :: codeCells, free) =>
    { s with freeCells := free }.appendStored i row ⟨p, header, codeCells⟩ saturated
  | _ => s.dropPulse i p.link

/-- The cells of a transmitted ROW frame go back to the tail of the free list, and its `n` pulses leave the head of the
chain of their row (R51). -/
def State.returnCells (i : SlotId) (row : RowId) (n : Nat) (s : State) : State :=
  let back := (((s.slot i).rows[row]).take n).flatMap StoredPulse.cells
  { s with freeCells := s.freeCells ++ back }.mapSlot i fun t =>
    { t with
      rows := t.rows.set row (t.rows[row].drop n)
      totals := { t.totals with cellsHeld := t.totals.cellsHeld - back.length } }

/-! ### Filing a burst (R20, R21, R82) -/

/-- What filing knows of the burst whose pulses it files. -/
structure BurstContext where
  link : LinkId
  heartbeat : Heartbeat
  channel : BitVec 8
  pad : BitVec 8
  row : RowId
  suspect : Bool
  deriving DecidableEq, Repr

/-- The pulse of the own part in slot record `t` (R21). -/
def ownPulse (x : BurstContext) (t : Slot) (p : FormedPulse) : Pulse where
  pad := x.pad
  channel := x.channel
  link := x.link
  start := (x.heartbeat - t.first).toNat * 512 + p.bin
  codes := p.codes.map Code.code
  flags := ⟨false, p.piece, x.suspect, decide (0 < saturatedCount p.codes), false⟩

/-- The codes of a margin copy: those below bin `margin` (R30). -/
def copyCodes (margin : Nat) (p : FormedPulse) : List Code := p.codes.take (margin - p.bin)

/-- The margin copy in the receiving slot record `t` (R30). -/
def copyPulse (x : BurstContext) (t : Slot) (p : FormedPulse) : Pulse where
  pad := x.pad
  channel := x.channel
  link := x.link
  start := 2 ^ t.span * 512 + p.bin
  codes := (copyCodes t.margin p).map Code.code
  flags := ⟨true, p.piece, x.suspect, decide (0 < saturatedCount (copyCodes t.margin p)),
    decide ((copyCodes t.margin p).length < p.codes.length)⟩

/-- File the own part of a pulse (R21 step 4). -/
def State.fileOwn (x : BurstContext) (own : Option SlotId) (p : FormedPulse) (s : State) : State :=
  match own with
  | none => s
  | some i => s.store i x.row (ownPulse x (s.slot i) p) (saturatedCount p.codes)

/-- File the margin copy of a pulse that starts below the receiving slot's margin (R21 step 5, R29, R31). -/
def State.fileCopy (x : BurstContext) (receiving : Option SlotId) (p : FormedPulse) (s : State) : State :=
  match receiving with
  | none => s
  | some i =>
    if p.bin < (s.slot i).margin then
      s.store i x.row (copyPulse x (s.slot i) p) (saturatedCount (copyCodes (s.slot i).margin p))
    else s

/-- File one pulse: the original, then its copy (R31). -/
def State.filePulse (x : BurstContext) (own receiving : Option SlotId) (s : State) (p : FormedPulse) : State :=
  (s.fileOwn x own p).fileCopy x receiving p

/-- The index of a channel's entry in a bank (R100). -/
def padIndex (l : LinkId) (channel : Fin 160) : Fin 3840 := ⟨l.val * 160 + channel.val, by omega⟩

/-- A burst fails a channel or row check (R101). -/
def State.countBad (charged : SlotId) (s : State) : State :=
  s.mapSlot charged (Slot.mapTotals fun u => { u with bad := satAdd cap32 u.bad 1 })

/-- A burst of a masked channel (R101). -/
def State.countMasked (charged : SlotId) (s : State) : State :=
  (s.mapSlot charged (Slot.mapTotals fun u => { u with masked := satAdd cap32 u.masked 1 })).mapGlobals
    fun g => { g with maskedBursts := satAdd cap32 g.maskedBursts 1 }

/-- `n` pulses of a burst are filtered (R21, R109). -/
def State.countFiltered (charged : SlotId) (n : Nat) (s : State) : State :=
  (s.mapSlot charged (Slot.mapTotals fun u => { u with filtered := satAdd cap32 u.filtered n })).mapGlobals
    fun g => { g with filteredPulses := satAdd cap32 g.filteredPulses n }

/-- The pulses of a burst are filed in order, and its saturated samples counted once (R21, R97). -/
def State.filePulses (x : BurstContext) (own receiving : Option SlotId) (ps : List FormedPulse) (s : State) : State :=
  ps.foldl (State.filePulse x own receiving)
    (s.mapGlobals fun g =>
      { g with saturatedSamples := satAdd cap32 g.saturatedSamples (ps.map fun p => saturatedCount p.codes).sum })

/-- A burst with a part applying, whose entry is `e` and passed the checks: suspect policy, conditioning, filing
(R82, R93 to R95). -/
def State.fileBurst (l : LinkId) (x : Heartbeat) (b : Burst) (e : PadEntry) (row : RowId)
    (own receiving : Option SlotId) (charged : SlotId) (s : State) : State :=
  let cfg := s.settings.settingsOf (s.slot charged).epoch
  let suspect := b.checkError || b.truncated
  let s' := if suspect then
      s.mapRecord charged l fun r => { r with flags := { r.flags with checkError := true } }
    else s
  if suspect ∧ cfg.policy = .drop then
    s'.mapRecord charged l fun r => { r with droppedCount := satAdd cap16 r.droppedCount 1 }
  else
    match conditionBurst cfg e b with
    | .filtered n => s'.countFiltered charged n
    | .pulses ps => s'.filePulses ⟨l, x, b.channel, e.pad, row, suspect⟩ own receiving ps

/-- A burst with a part applying: the pad entry checks, then the rest (R20, R100, R101). -/
def State.applyBurst (l : LinkId) (x : Heartbeat) (b : Burst) (own receiving : Option SlotId) (charged : SlotId)
    (s : State) : State :=
  if h : b.channel.toNat < 160 then
    let e := (s.padTable.entries (s.bankOf (s.slot charged).epoch))[padIndex l ⟨b.channel.toNat, h⟩]
    if hr : e.row.toNat < 96 then
      if e.masked then s.countMasked charged
      else s.fileBurst l x b e ⟨e.row.toNat, hr⟩ own receiving charged
    else s.countBad charged
  else s.countBad charged

end Sys2Proof.Machine
end

