-- ==== Sys2Proof/Machine/Emission.lean ====
section
/-! DEFINITION. The emitter, the uplink arbiter and the ends of uplink frames (chapter 8): EPOCH_MARK_SENT, HEAD_SENT,
ROW_SENT, TAIL_SENT, REPLY_SENT, TRAIN_WORD_SENT, REPLY_HANDOVER; and the release of a pending commit (R145). -/

namespace Sys2Proof.Machine

open Sys2Proof

/-! ### Row chains in row order (R110, R119) -/

/-- The rows at or after `pos` in a row order (R110). -/
def rowsFrom (order : RowOrder) (pos : RowId) : List RowId :=
  match order with
  | .ascending => (List.finRange 96).filter (pos ≤ ·)
  | .descending => (List.finRange 96).reverse.filter (· ≤ pos)

/-- The first row at or after `pos` whose chain is not empty (R119). -/
def Slot.nextRow (t : Slot) (order : RowOrder) (pos : RowId) : Option RowId :=
  (rowsFrom order pos).find? fun r => !(t.rows[r]).isEmpty

/-- The pulses at the head of a chain that fit in `room` payload words (R119). -/
def fitting : Nat → List StoredPulse → List StoredPulse
  | _, [] => []
  | room, p :: ps => if pulseSize p ≤ room then p :: fitting (room - pulseSize p) ps else []

/-- The row order of a slot's epoch. -/
def State.orderOf (s : State) (i : SlotId) : RowOrder := (s.settings.settingsOf (s.slot i).epoch).order

/-! ### Forming frames (R115 to R121) -/

/-- The transmitter starts a frame, its header formed now (R123, R128). -/
def State.transmit (kind : FrameKind) (kindField : Word16) (payload : List Word32) (pulses : Nat) (s : State) : State :=
  { s with uplink := { s.uplink with tx := .frame (uplinkFrame kind s.attention kindField payload pulses) } }

/-- The transmitter sends one TRAIN word. -/
def State.transmitTrain (s : State) : State := { s with uplink := { s.uplink with tx := .train } }

/-- The emitter after it has formed a ROW frame from `row` with the pulses `ps` (R119, R120). DESIGN CHOICE (assumption 19):
when `row` lies past the row position, the position moves onto it, its continuation flag clear, as the frame is formed;
R119 states moves at the end of a ROW frame only. -/
def Emitter.formRow (row : RowId) (ps : List StoredPulse) (e : Emitter) : Emitter :=
  { e with
    row := row
    continuation := if e.row = row then e.continuation else false
    sections := satAdd 4095 e.sections 1
    pulsesSent := e.pulsesSent + ps.length
    samplesSent := e.samplesSent + (ps.map fun p => p.pulse.codes.length).sum }

/-- Form a ROW frame of the slot `i` (R119, R120). -/
def State.transmitRow (i : SlotId) (s : State) : State :=
  match (s.slot i).nextRow (s.orderOf i) s.emitter.row with
  | none => s.transmitTrain
  | some row =>
    let ps := fitting (Config.payloadWords - 1) (s.slot i).rows[row]
    let e := s.emitter.formRow row ps
    { s with emitter := e }.transmit .row (s.slot i).first (rowPayload e.sections e.continuation row ps) ps.length

/-- Form the record's next frame (R115). -/
def State.transmitRecord (i : SlotId) (kind : FrameKind) (s : State) : State :=
  let t := s.slot i
  match kind with
  | .epochMark =>
    s.transmit .epochMark (t.epoch.setWidth 16)
      (epochMarkPayload t s.emitter.lastEpoch.isNone (s.settings.settingsOf t.epoch)) 0
  | .head => s.transmit .head t.first (headPayload t (s.orderOf i)) 0
  | .row => s.transmitRow i
  | .tail => s.transmit .tail t.first (tailPayload s.emitter t.totals) 0
  | .reply => s.transmitTrain

/-! ### Frame boundaries (R123, R127) -/

/-- The record frame that the arbiter may choose: the emitter is in RECORD, stopping is clear, the uplink is not paused
(R123). -/
def State.offered (s : State) : Option (SlotId × FrameKind) :=
  if s.emitter.state = .record ∧ s.emitter.stopping = none ∧ s.uplink.paused = false then
    match s.emitter.slot, s.emitter.next with
    | some i, some kind => some (i, kind)
    | _, _ => none
  else none

/-- The uplink arbiter's choice at a frame boundary (R123, R124). -/
def State.arbitrate (s : State) : State :=
  if 0 < s.uplink.opening then s.transmitTrain
  else match s.uplink.port with
    | some r => { s with uplink := { s.uplink with port := none } }.transmit .reply r.tag r.payload 0
    | none =>
      match s.offered with
      | some (i, kind) => s.transmitRecord i kind
      | none => s.transmitTrain

/-- With the pause flag set, an emitter in RECORD pauses at a frame boundary (R127). -/
def State.pauseAtBoundary (s : State) : State :=
  if s.uplink.paused ∧ s.emitter.state = .record then
    { s with emitter := { s.emitter with state := .pausedInRecord } }
  else s

/-- A frame boundary: the pause takes effect, and the arbiter chooses (R123, R127). -/
def State.boundary (s : State) : State := s.pauseAtBoundary.arbitrate

/-- The boundary at the end of an emitter frame. When a restart waits, it takes effect first, at this same boundary, and the
arbiter chooses after it (R129, assumption 6). -/
def State.recordBoundary (s : State) : State :=
  match s.emitter.stopping with
  | none => s.boundary
  | some _ => { s with uplink := { s.uplink with tx := .boundary } }

/-- The record frame of this kind that is being transmitted, with its slot. -/
def State.sending (s : State) (kind : FrameKind) : Option (SlotId × UplinkFrame) :=
  match s.uplink.tx, s.emitter.slot with
  | .frame f, some i => if f.kind = kind then some (i, f) else none
  | _, _ => none

/-- Some chain of the slot is not empty. -/
def Slot.hasPulses (t : Slot) : Bool := t.rows.toList.any fun c => !c.isEmpty

/-! ### Ends of record frames (R117 to R122) -/

/-- After an EPOCH_MARK (R117). -/
def State.afterEpochMark (i : SlotId) (s : State) : State :=
  { s with emitter := { s.emitter with lastEpoch := some (s.slot i).epoch, next := some .head } }

/-- After a HEAD (R118). -/
def State.afterHead (i : SlotId) (s : State) : State :=
  { s with emitter := { s.emitter with next := some (if (s.slot i).hasPulses then .row else .tail) } }

/-- The row after `row` in a row order, if there is one. -/
def rowAfter (order : RowOrder) (row : RowId) : Option RowId := ((rowsFrom order row).drop 1).head?

/-- The emitter after a ROW frame of `row`, with `t` the slot record without the frame's pulses (R119). DESIGN CHOICE
(assumption 19): past the last row of the order the row position stays at that row; R113 allows rows 0 to 95 only, and
R119 gives the position no value there. -/
def Emitter.afterRow (order : RowOrder) (row : RowId) (t : Slot) (e : Emitter) : Emitter :=
  if !(t.rows[row]).isEmpty then { e with next := some .row, row := row, continuation := true }
  else match rowAfter order row with
    | none => { e with next := some .tail, continuation := false }
    | some r =>
      { e with
        next := some (if (t.nextRow order r).isSome then .row else .tail)
        row := r
        continuation := false }

/-- After a ROW frame (R51, R119). While a restart waits its pulses keep their cells, which come back by the refill (R129). -/
def State.afterRow (i : SlotId) (f : UplinkFrame) (s : State) : State :=
  let row := s.emitter.row
  let returned := s.returnCells i row f.pulses
  let e := s.emitter.afterRow (s.orderOf i) row (returned.slot i)
  match s.emitter.stopping with
  | none => { returned with emitter := e }
  | some _ => { s with emitter := e }

/-- A slot becomes FREE and its record is emptied (R3). -/
def State.emptySlot (i : SlotId) (s : State) : State := s.mapSlot i fun _ => .free

/-- A pending commit ends: the outgoing bank becomes staging and is stale, the outgoing copy is discarded, and the staging
copy becomes a copy of the active one (R145, R146). -/
def State.endCommit (s : State) : State :=
  { s with
    settings := { s.settings with commit := none, staging := s.settings.active }
    padTable := { s.padTable with stale := true } }

/-- A pending commit is released when the cursor stands at its switch heartbeat (R145). The last emitted epoch, when it
carries the new epoch's number, becomes the old one's. -/
def State.releaseCommit (s : State) : State :=
  match s.settings.commit, s.ring.cursor with
  | some c, some fc =>
    if c.switchHeartbeat = fc then
      { s.endCommit with emitter :=
        { s.emitter with lastEpoch :=
          if s.emitter.lastEpoch = some s.settings.epoch then some c.oldEpoch else s.emitter.lastEpoch } }
    else s
  | _, _ => s

/-- The newest heartbeat after the cursor moves to `fc` (R7). -/
def newestAfterAdvance (fc : Heartbeat) : Option Heartbeat → Option Heartbeat
  | none => none
  | some n => if Config.halfTurn ≤ (n - fc).toNat then some (fc - 1) else some n

/-- The cursor advances past the released slot record `t` (R6). -/
def State.advanceCursor (t : Slot) (s : State) : State :=
  let fc := t.first + BitVec.ofNat 16 (2 ^ t.span)
  { s with ring :=
    { s.ring with
      cursor := some fc, cursorSlot := s.ring.cursorSlot + 1, newest := newestAfterAdvance fc s.ring.newest } }

/-- The emitter releases the record slot (R122), before it looks at the next slot. -/
def State.releaseSlot (i : SlotId) (s : State) : State :=
  let s' := ((s.emptySlot i).advanceCursor (s.slot i)).releaseCommit
  { s' with emitter := { s'.emitter with state := .idle, slot := none, next := none } }

/-- Slices emitted are counted at the end of every TAIL (R160). -/
def State.countEmitted (s : State) : State :=
  s.mapGlobals fun g => { g with slicesEmitted := satAdd cap32 g.slicesEmitted 1 }

/-- After a TAIL (R122), with the order of its boundary and the emitter's taking of the next slot (R125). -/
def State.afterTail (boundaryFirst : Bool) (i : SlotId) (s : State) : State :=
  match s.emitter.stopping with
  | some _ => s.countEmitted.recordBoundary
  | none =>
    let s' := s.countEmitted.releaseSlot i
    if boundaryFirst then s'.recordBoundary.emitterTakes else s'.emitterTakes.recordBoundary

/-! ### Replies (R155) -/

/-- The uplink port holds no REPLY: none waits there and none is being transmitted (R155). -/
def Uplink.portFree (u : Uplink) : Bool :=
  u.port.isNone && (match u.tx with
    | .frame f => f.kind ≠ .reply
    | .train | .boundary => true)

/-- The reply holder hands its REPLY to the port, when the port is free (R155). -/
def State.handover (s : State) : State :=
  match s.control.holder with
  | none => s
  | some r =>
    if s.uplink.portFree then
      { s with control := { s.control with holder := none }, uplink := { s.uplink with port := some r } }
    else s

/-! ### The commands -/

/-- EPOCH_MARK_SENT (R117). -/
def execEpochMarkSent (s : State) : Host.Outcome State Fault Refusal :=
  match s.sending .epochMark with
  | some (i, _) => .next (s.afterEpochMark i).recordBoundary
  | none => .next s

/-- HEAD_SENT (R118). -/
def execHeadSent (s : State) : Host.Outcome State Fault Refusal :=
  match s.sending .head with
  | some (i, _) => .next (s.afterHead i).recordBoundary
  | none => .next s

/-- ROW_SENT (R119, R51). -/
def execRowSent (s : State) : Host.Outcome State Fault Refusal :=
  match s.sending .row with
  | some (i, f) => .next (s.afterRow i f).recordBoundary
  | none => .next s

/-- TAIL_SENT (R122). -/
def execTailSent (boundaryFirst : Bool) (s : State) : Host.Outcome State Fault Refusal :=
  match s.sending .tail with
  | some (i, _) => .next (s.afterTail boundaryFirst i)
  | none => .next s

/-- REPLY_SENT (R155): the port is free again; the next choice is made at this boundary. -/
def execReplySent (handoverFirst : Bool) (s : State) : Host.Outcome State Fault Refusal :=
  match s.uplink.tx with
  | .frame f =>
    if f.kind = .reply then
      let s' := s.transmitTrain
      .next (if handoverFirst then s'.handover.boundary else s'.boundary)
    else .next s
  | .train | .boundary => .next s

/-- TRAIN_WORD_SENT (R124). -/
def execTrainWordSent (s : State) : Host.Outcome State Fault Refusal :=
  match s.uplink.tx with
  | .train => .next { s with uplink := { s.uplink with opening := s.uplink.opening - 1 } }.boundary
  | .frame _ | .boundary => .next s

/-- REPLY_HANDOVER (R155). -/
def execReplyHandover (s : State) : Host.Outcome State Fault Refusal := .next s.handover

end Sys2Proof.Machine
end

