-- ==== Sys2Proof/Machine/Intake.lean ====
section
/-! DEFINITION. The intake arbiter and the takings (chapters 2 and 3): TAKE_HB_OPEN, TAKE_BURST, TAKE_HB_CLOSE, TAKE_LOSS,
TAKE_LINK_DOWN; and the events of the slots' own clock: TIMEBASE_STEP, DEADLINE_EXPIRY. -/

namespace Sys2Proof.Machine

open Sys2Proof

/-! ### The intake arbiter (R13, R14) -/

/-- The order in which the arbiter looks at the links: the one after the pointer first, the pointer itself last (R13). -/
def arbiterOrder (pointer : LinkId) : List LinkId := (List.finRange 24).map fun k => pointer + 1 + k

/-- A link with this head item is blocked (R14). -/
def State.blocked (s : State) : Item → Bool
  | .hbOpen x _ => s.place x = .beyond
  | .hbClose _ | .burst _ | .loss | .linkDown _ => false

/-- Link `l` is blocked (R14). -/
def State.headBlocked (s : State) (l : LinkId) : Bool := (s.link l).queue.items.head?.any s.blocked

/-- Link `l` has a head item that can be taken (R13). -/
def State.takeable (s : State) (l : LinkId) : Bool := !(s.link l).queue.items.isEmpty && !s.headBlocked l

/-- The link that the arbiter selects: none when no link qualifies, or while a restart waits (R13, R25). -/
def State.selected (s : State) : Option LinkId :=
  if s.emitter.stopping = none then (arbiterOrder s.ring.arbiter).find? s.takeable else none

/-- A taking begins: the selected link's head item leaves its queue and the pointer moves to that link (R13). -/
def State.beginTaking (s : State) : Option (LinkId × Item × State) :=
  match s.selected with
  | none => none
  | some l =>
    match (s.link l).queue.items with
    | [] => none
    | it :: rest =>
      let s' := s.mapLink l fun k => { k with queue := { k.queue with items := rest } }
      some (l, it, { s' with ring := { s'.ring with arbiter := l } })

/-- A late item is counted (R15). -/
def State.countLate (l : LinkId) (s : State) : State :=
  s.mapLink l (Link.mapCounters fun c => { c with lateItems := satAdd cap32 c.lateItems 1 })

/-! ### Opening slots (R10 to R12) -/

/-- A link's record when a slot opens, from its place in the expected link set and its receiver state (R11). -/
def openingRecord (expected : Bool) (st : RxState) : LinkRecord :=
  if expected then
    match st with
    | .disabled => .free
    | .held => { LinkRecord.free with flags := { held := true } }
    | .search | .training => { LinkRecord.free with verdict := .missing, flags := { notReady := true } }
    | .ready | .run | .resync => { LinkRecord.free with verdict := .pending }
  else .free

/-- The slot whose margin the pending commit cuts: it ends at the switch heartbeat (R10, R143). -/
def SettingsUnit.endsAtSwitch (u : SettingsUnit) (first : Heartbeat) (span : Nat) : Bool :=
  match u.commit with
  | none => false
  | some c => first + BitVec.ofNat 16 (2 ^ span) = c.switchHeartbeat

/-- The slot at offset `j` as it opens (R10). -/
def State.openedSlot (s : State) (j : Nat) (partialStart : Bool) : Slot :=
  let first := s.sliceFirst j
  let epoch := s.epochAt j
  let cfg := s.settings.settingsOf epoch
  let cut := s.settings.endsAtSwitch first cfg.span
  { state := .filling
    first := first
    span := cfg.span
    margin := if cut then 0 else cfg.margin
    epoch := epoch
    deadline := if s.control.live.timeout = 0 then none else some s.control.live.timeout
    flags := { marginCut := cut, partialStart := partialStart }
    links := Vector.ofFn fun l : LinkId => openingRecord (cfg.expected.getLsbD l.val) (s.link l).rx.state
    rows := Vector.replicate 96 []
    totals := .zero }

/-- Open the slot at offset `j` if it is FREE; one in which no link is PENDING becomes COMPLETE with it (R10, R12). -/
def State.openAt (partialStart : Bool) (s : State) (j : Fin 8) : State :=
  if (s.slot (s.slotAt j)).state = .free then
    (s.mapSlot (s.slotAt j) fun _ => s.openedSlot j.val (partialStart && decide (j = 0))).examine (s.slotAt j)
  else s

/-- Fill-opening: every FREE slot at an offset up to `t` opens, when the slot at `t` is FREE (R12). -/
def State.fillOpen (t : Fin 8) (partialStart : Bool) (s : State) : State :=
  if (s.slot (s.slotAt t)).state = .free then
    ((List.finRange 8).filter (· ≤ t)).foldl (State.openAt partialStart) s
  else s

/-! ### Continuity (R17, R18) -/

/-- One skipped heartbeat (R17). -/
def State.skipHeartbeat (l : LinkId) (s : State) (y : Heartbeat) : State :=
  let s' := match s.ownPart l y with
    | some i => s.mapRecord i l (LinkRecord.miss fun f => { f with gap := true })
    | none => s
  match s'.marginPart l y with
  | some i => s'.mapRecord i l LinkRecord.marginAbsent
  | none => s'

/-- The heartbeats skipped between `p` and `x`: none unless `x` lies 2 to 32,767 after `p` (R17). -/
def skipped (p x : Heartbeat) : List Heartbeat :=
  let g := (x - p).toNat
  if g < Config.halfTurn then (List.range (g - 1)).map fun k => p + 1 + BitVec.ofNat 16 k else []

/-- A link's first heartbeat ends its wait in the FILLING slots below (R18). -/
def State.startsLater (l : LinkId) (s : State) (j : Fin 8) : State :=
  if s.waitsFor l (s.slotAt j) then
    s.mapRecord (s.slotAt j) l (LinkRecord.miss fun f => { f with notReady := true })
  else s

/-- A link's first heartbeat since its receiver became READY, in the slot at offset `t` (R18). -/
def State.firstHeartbeat (l : LinkId) (x : Heartbeat) (t : Fin 8) (s : State) : State :=
  let s' := if s.waitsFor l (s.slotAt t) ∧ x ≠ (s.slot (s.slotAt t)).first then
      s.mapRecord (s.slotAt t) l fun r => { r with flags := { r.flags with partialShare := true } }
    else s
  ((List.finRange 8).filter (· < t)).foldl (State.startsLater l) s'

/-- The continuity check of an HB_OPEN (R16 step 4). -/
def State.continuity (l : LinkId) (x : Heartbeat) (t : Fin 8) (s : State) : State :=
  match (s.intake l).position with
  | none => s.firstHeartbeat l x t
  | some p => (skipped p x).foldl (State.skipHeartbeat l) s

/-! ### Taking an HB_OPEN (R16) -/

/-- The first HB_OPEN with the cursor unset sets it, and the newest heartbeat with it (R6, R7). -/
def State.setCursor (x : Heartbeat) (s : State) : State :=
  match s.ring.cursor with
  | some _ => s
  | none =>
    { s with ring := { s.ring with cursor := some (sliceStart s.settings.active.span x), newest := some x } }

/-- An HB_OPEN that maps into the ring may move the newest heartbeat forward (R7). A newest heartbeat that lies behind the
cursor, as `f_c − 1` does, is replaced by any heartbeat in the ring (assumption 18). -/
def newer (fc x : Heartbeat) : Option Heartbeat → Option Heartbeat
  | none => some x
  | some n =>
    if Config.halfTurn ≤ (n - fc).toNat then some x
    else if (n - fc).toNat < (x - fc).toNat then some x
    else some n

/-- Intake position and open heartbeat become `x` (R16 step 5, R19). -/
def State.intakeAt (l : LinkId) (x : Heartbeat) (s : State) : State := s.setIntake l ⟨some x, some x⟩

/-- The newest heartbeat is updated by an HB_OPEN that maps into the ring (R7). -/
def State.updateNewest (x : Heartbeat) (s : State) : State :=
  match s.ring.cursor with
  | none => s
  | some fc => { s with ring := { s.ring with newest := newer fc x s.ring.newest } }

/-- The effect of taking HB_OPEN `x` from link `l` (R16). -/
def State.takeOpen (l : LinkId) (x : Heartbeat) (s : State) : State :=
  let starts : Bool := s.ring.cursor = none ∧ x ≠ sliceStart s.settings.active.span x
  let s := s.setCursor x
  match s.place x with
  | .behind => (s.intakeAt l x).countLate l
  | .beyond => s
  | .within t =>
    let s := (((s.fillOpen t starts).continuity l x t).intakeAt l x).updateNewest x
    (if s.waitsFor l (s.slotAt t) then s else s.countLate l).settle

/-! ### Taking a BURST, an HB_CLOSE, a LOSS, a LINK_DOWN (R20 to R24, R38) -/

/-- The effect of taking a burst from link `l` (R20). -/
def State.takeBurstItem (l : LinkId) (b : Burst) (s : State) : State :=
  match (s.intake l).openHeartbeat with
  | none => s.countLate l
  | some x =>
    match s.ownPart l x, s.marginPart l x with
    | none, none => s.countLate l
    | some i, receiving => s.applyBurst l x b (some i) receiving i
    | none, some i => s.applyBurst l x b none (some i) i

/-- The last heartbeat of a slot's slice (R1). -/
def Slot.lastHeartbeat (t : Slot) : Heartbeat := t.first + BitVec.ofNat 16 (2 ^ t.span) - 1

/-- The own part of an HB_CLOSE of heartbeat `x` (R22). -/
def State.closeOwn (l : LinkId) (x : Heartbeat) (c : Close) (own : Option SlotId) (s : State) : State :=
  match own with
  | none => s
  | some i =>
    s.mapSlot i fun t => t.mapRecord l (LinkRecord.close c (decide (x = t.lastHeartbeat)) t.margin)

/-- The margin part of an HB_CLOSE (R22). -/
def State.closeMargin (l : LinkId) (receiving : Option SlotId) (s : State) : State :=
  match receiving with
  | none => s
  | some i => s.mapRecord i l fun r => { r with margin := .taken, verdict := .done }

/-- The link's open heartbeat becomes none (R22, R23). -/
def State.closeIntake (l : LinkId) (s : State) : State :=
  s.setIntake l { s.intake l with openHeartbeat := none }

/-- The effect of taking an HB_CLOSE from link `l` (R22). -/
def State.takeClose (l : LinkId) (c : Close) (s : State) : State :=
  match (s.intake l).openHeartbeat with
  | none => s.countLate l
  | some x =>
    let own := s.ownPart l x
    let receiving := s.marginPart l x
    let s' := ((s.closeIntake l).closeOwn l x c own).closeMargin l receiving
    (if own.isNone && receiving.isNone then s'.countLate l else s').settle

/-- The effect of taking a LOSS from link `l` (R23). -/
def State.takeLossItem (l : LinkId) (s : State) : State :=
  match (s.intake l).openHeartbeat with
  | none => s
  | some x =>
    let own := s.ownPart l x
    let receiving := s.marginPart l x
    let s1 := match own with
      | some i => s.mapRecord i l (LinkRecord.miss fun f => { f with ingressLoss := true })
      | none => s
    let s2 := match receiving with
      | some i => s1.mapRecord i l LinkRecord.marginAbsent
      | none => s1
    (s2.closeIntake l).settle

/-- A LINK_DOWN in one slot: only a FILLING slot in which the link is PENDING changes (R38). -/
def State.downAt (l : LinkId) (reason : DownReason) (s : State) (i : SlotId) : State :=
  if (s.slot i).state = .filling then s.mapRecord i l (LinkRecord.takeDown reason) else s

/-- The effect of taking a LINK_DOWN from link `l` (R24, R38). -/
def State.takeDownItem (l : LinkId) (reason : DownReason) (s : State) : State :=
  (((List.finRange 8).foldl (State.downAt l reason) s).setIntake l ⟨none, none⟩).settle

/-! ### The commands -/

/-- TAKE_HB_OPEN (R16): the arbiter's next taking, when it is of an HB_OPEN. -/
def execTakeHbOpen (s : State) : Host.Outcome State Fault Refusal :=
  match s.beginTaking with
  | some (l, .hbOpen x _, s') => .next (s'.takeOpen l x)
  | _ => .next s

/-- TAKE_BURST (R20): the arbiter's next taking, when it is of a burst. -/
def execTakeBurst (s : State) : Host.Outcome State Fault Refusal :=
  match s.beginTaking with
  | some (l, .burst b, s') => .next (s'.takeBurstItem l b)
  | _ => .next s

/-- TAKE_HB_CLOSE (R22): the arbiter's next taking, when it is of an HB_CLOSE. -/
def execTakeHbClose (s : State) : Host.Outcome State Fault Refusal :=
  match s.beginTaking with
  | some (l, .hbClose c, s') => .next (s'.takeClose l c)
  | _ => .next s

/-- TAKE_LOSS (R23): the arbiter's next taking, when it is of a LOSS. -/
def execTakeLoss (s : State) : Host.Outcome State Fault Refusal :=
  match s.beginTaking with
  | some (l, .loss, s') => .next (s'.takeLossItem l)
  | _ => .next s

/-- TAKE_LINK_DOWN (R24, R38): the arbiter's next taking, when it is of a LINK_DOWN. -/
def execTakeLinkDown (s : State) : Host.Outcome State Fault Refusal :=
  match s.beginTaking with
  | some (l, .linkDown reason, s') => .next (s'.takeDownItem l reason)
  | _ => .next s

/-- One step of a slot's countdown (R34). -/
def Slot.countDown (t : Slot) : Slot :=
  if t.state = .filling then { t with deadline := t.deadline.map (· - 1) } else t

/-- TIMEBASE_STEP (R34): every FILLING slot with a deadline counts down by one. -/
def execTimebaseStep (s : State) : Host.Outcome State Fault Refusal :=
  .next { s with ring := { s.ring with slots := Vector.ofFn fun i : SlotId => s.ring.slots[i].countDown } }

/-- DEADLINE_EXPIRY (R36): a FILLING slot whose count has reached 0 gives up and completes. -/
def execDeadlineExpiry (i : SlotId) (s : State) : Host.Outcome State Fault Refusal :=
  if (s.slot i).state = .filling ∧ (s.slot i).deadline = some 0 then .next (s.giveUp i).settle else .next s

end Sys2Proof.Machine
end

