-- ==== Sys2Proof/Machine/LinkEvents.lean ====
section
/-! DEFINITION. The pad-link events (chapter 5): ALIGNMENT_FOUND, TRAIN_WORD, TRAINING_COUNT_RESET, CODE_ERROR_WORD,
SIGNAL_LOSS, HB_OPEN_FRAME, HB_CLOSE_FRAME, BURST_FRAME, TRUNCATED_BURST, FRAMING_ERROR. -/

namespace Sys2Proof.Machine

open Sys2Proof

/-! ### What each event does to its link -/

/-- A receiver in SEARCH finds a TRAIN word at a bit position (R60). -/
def Link.findAlignment (pos : Nat) (k : Link) : Link :=
  if k.rx.state = .search then
    { k.changeState .training with rx :=
      { k.rx with
        state := .training, alignment := some pos, trainingCount := 1, errorWindow := [], signalTimer := 0 } }
  else k

/-- A word that is no TRAIN word reaches a receiver in TRAINING (R60). -/
def Link.resetTraining (w : LaneWord) (k : Link) : Link :=
  if k.rx.state = .training ∧ w ≠ .control Config.trainControl then (k.age 1).trainReset else k

/-- A code error is counted (R78). -/
def Link.countCodeError (k : Link) : Link :=
  k.mapCounters fun c => { c with codeErrors := satAdd cap32 c.codeErrors 1 }

/-- A word with a code error enters the error window (R62). -/
def Link.markError (k : Link) : Link :=
  { k with rx := { k.rx with errorWindow := markWindow k.rx.errorWindow, signalTimer := 0 } }

/-- A word with a code error inside a frame: a framing error in RUN (R66), an abandoned frame in READY and RESYNC
(R61, R68). -/
def Link.breakFrame (k : Link) : Link :=
  match k.rx.frame, k.rx.state with
  | none, _ => k
  | some _, .run => k.framingError
  | some _, _ => { k with rx := { k.rx with frame := none } }

/-- A word with a code error (R60, R62). -/
def Link.codeError (k : Link) : Link :=
  match k.rx.state with
  | .disabled | .search | .held => k
  | .training =>
    { k.countCodeError.changeState .search with rx :=
      { k.rx with state := .search, alignment := none, trainingCount := 0 } }
  | .ready | .run | .resync =>
    let k' := k.countCodeError.markError.breakFrame
    if Config.windowErrors ≤ k'.rx.errorWindow.length then k'.loseAlignment else k'

/-- The signal timer reaches its limit (R62). In SEARCH, DISABLED and HELD the receiver does not act on it. -/
def Link.loseSignal (k : Link) : Link :=
  if k.rx.aligned then
    { k with rx := { k.rx with signalTimer := Config.signalPeriods } }.loseAlignment
  else k

/-- An HB_OPEN frame (R61, R67, R68). -/
def Link.openFrame (low : BitVec 8) (x : Heartbeat) (k : Link) : Link :=
  let k' := (k.receive ⟨hbOpenControl low, []⟩).dataWords 1
  if k'.rx.frame.isSome then k'.completeOpen x else k'

/-- An HB_CLOSE frame (R69). -/
def Link.closeFrame (low : BitVec 8) (x : Heartbeat) (declared status : Word16) (k : Link) : Link :=
  let k' := (k.receive ⟨hbCloseControl low, [x, declared]⟩).dataWords 1
  if k'.rx.frame.isSome then k'.completeClose x declared status else k'

/-- A BURST frame (R70): the count word is the number of sample words. -/
def Link.burstFrame (channel : BitVec 8) (start : Word16) (samples : List Word16) (check : Word16) (k : Link) : Link :=
  let f : FrameInProgress := ⟨burstControl channel, start :: BitVec.ofNat 16 samples.length :: samples⟩
  let k' := (k.receive f).dataWords 1
  if k'.rx.frame.isSome then k'.completeBurst f check else k'

/-- A framing error (R66). -/
def Link.framingEvent (k : Link) : FramingEvent → Link
  | .strayData _ => k.strayData
  | .strayControl c => k.control c
  | .cut f next => (k.receive f).control next
  | .badBurst f => k.receive f

/-! ### The commands -/

/-- ALIGNMENT_FOUND (R60). -/
def execAlignmentFound (l : LinkId) (pos : Nat) (s : State) : Host.Outcome State Fault Refusal :=
  .next (s.mapLink l (Link.findAlignment pos))

/-- TRAIN_WORD (R60): it counts in TRAINING, is idle fill between frames, and cuts a frame in progress. -/
def execTrainWord (l : LinkId) (s : State) : Host.Outcome State Fault Refusal :=
  .next (s.mapLink l (Link.control Config.trainControl))

/-- TRAINING_COUNT_RESET (R60). -/
def execTrainingCountReset (l : LinkId) (w : LaneWord) (s : State) : Host.Outcome State Fault Refusal :=
  .next (s.mapLink l (Link.resetTraining w))

/-- CODE_ERROR_WORD (R60, R62, R66): the words of the frame it interrupts, then the word itself. -/
def execCodeErrorWord (l : LinkId) (inFrame : Option FrameInProgress) (s : State) :
    Host.Outcome State Fault Refusal :=
  .next (s.mapLink l fun k =>
    match inFrame with
    | none => k.codeError
    | some f => (k.receive f).codeError)

/-- SIGNAL_LOSS (R62). -/
def execSignalLoss (l : LinkId) (s : State) : Host.Outcome State Fault Refusal :=
  .next (s.mapLink l Link.loseSignal)

/-- HB_OPEN_FRAME (R61, R67, R68). -/
def execHbOpenFrame (l : LinkId) (low : BitVec 8) (x : Heartbeat) (s : State) : Host.Outcome State Fault Refusal :=
  .next (s.mapLink l (Link.openFrame low x))

/-- HB_CLOSE_FRAME (R69). -/
def execHbCloseFrame (l : LinkId) (low : BitVec 8) (x : Heartbeat) (declared status : Word16) (s : State) :
    Host.Outcome State Fault Refusal :=
  .next (s.mapLink l (Link.closeFrame low x declared status))

/-- BURST_FRAME (R70). -/
def execBurstFrame (l : LinkId) (channel : BitVec 8) (start : Word16) (samples : List Word16) (check : Word16)
    (s : State) : Host.Outcome State Fault Refusal :=
  .next (s.mapLink l (Link.burstFrame channel start samples check))

/-- TRUNCATED_BURST (R71): the samples received, then the control word that cuts the burst and begins what follows. -/
def execTruncatedBurst (l : LinkId) (channel : BitVec 8) (start count : Word16) (samples : List Word16) (next : Word16)
    (s : State) : Host.Outcome State Fault Refusal :=
  .next (s.mapLink l fun k => (k.receive ⟨burstControl channel, start :: count :: samples⟩).control next)

/-- FRAMING_ERROR (R66). -/
def execFramingError (l : LinkId) (e : FramingEvent) (s : State) : Host.Outcome State Fault Refusal :=
  .next (s.mapLink l fun k => k.framingEvent e)

end Sys2Proof.Machine
end

