-- ==== Sys2Proof/Machine/Requests.lean ====
section
/-! DEFINITION. The execution of requests (chapters 9 and 10): one event of the control unit each (R155). READ_SETTINGS,
WRITE_SETTINGS, READ_PAD, WRITE_PAD, COPY_BANK, COMMIT, READ_STATUS, READ_LINKS, READ_COUNTERS, CLEAR_COUNTERS,
QUERY_CAUSE, SET_LIVE, HOLD_LINK, RELEASE_LINK, FORCE_CLOSE, RUN_RESTART, SOFT_RESET, BAD_REQUEST; and the bank copy's
COPY_ENTRY_MOVED, COPY_BANK_DONE. -/

namespace Sys2Proof.Machine

open Sys2Proof

/-! ### Execution (R155 to R157) -/

/-- What an executed request answers: its status, the CLAMPED flag, and the words after the status word (R156). -/
structure Answer where
  status : Status
  clamped : Bool
  words : List Word32
  deriving DecidableEq, Repr

/-- An answer of the status word alone. -/
def Answer.plain (st : Status) : Answer := ⟨st, false, []⟩

/-- The REPLY is formed and placed in the reply holder; forming it clears the overrun flag (R155, R157). -/
def State.formReply (q : Request) (a : Answer) (s : State) : State :=
  { s with control :=
    { s.control with
      overrun := false
      holder := some ⟨q.tag, statusWord q.code s.control.overrun a.clamped a.status :: a.words⟩ } }

/-- The control unit executes the head request when its code is one that `takes` accepts and the reply holder is empty
(R155). -/
def State.execute (takes : BitVec 8 → Bool) (act : Request → State → State × Answer) (s : State) : State :=
  match s.control.queue, s.control.holder with
  | q :: rest, none =>
    if takes q.code then
      let r := act q { s with control := { s.control with queue := rest } }
      r.1.formReply q r.2
    else s
  | _, _ => s

/-- A request of fixed payload length: any other length is BAD_ARGUMENT and has no effect (R156). -/
def withLength (n : Nat) (act : Request → State → State × Answer) (q : Request) (s : State) : State × Answer :=
  if q.payload.length = n then act q s else (s, .plain .badArgument)

/-- A request refused with BUSY when `busy` holds, before any other check (R156). -/
def unlessBusy (busy : State → Bool) (act : Request → State → State × Answer) (q : Request) (s : State) :
    State × Answer :=
  if busy s then (s, .plain .busy) else act q s

/-- A commit is pending. -/
def State.commitPending (s : State) : Bool := s.settings.commit.isSome

/-- A commit is pending or a bank copy is running. -/
def State.banksBusy (s : State) : Bool := s.settings.commit.isSome || s.padTable.copyNext.isSome

/-- The first payload word. -/
def Request.arg (q : Request) : Word32 := q.payload.headD 0

/-! ### Settings and pad table (R135, R136, R106, R107) -/

/-- READ_SETTINGS at its execution (R136). -/
def readSettingsAct (q : Request) (s : State) : State × Answer :=
  if q.arg = 0 then (s, ⟨.ok, false, s.settings.staging.words⟩)
  else if q.arg = 1 then (s, ⟨.ok, false, s.settings.active.words⟩)
  else (s, .plain .badArgument)

/-- WRITE_SETTINGS at its execution: each field limited, CLAMPED when any was (R135). -/
def writeSettingsAct (q : Request) (s : State) : State × Answer :=
  let written := readSettings q.payload
  ({ s with settings := { s.settings with staging := written.limited } },
    ⟨.ok, decide (written.limited ≠ written), []⟩)

/-- The first index that a pad request names (R175). -/
def padFirst (w : Word32) : Nat := field w 0 12

/-- The count that a pad request names (R175). -/
def padCount (w : Word32) : Nat := field w 16 6

/-- The range that a pad request names is one the table has (R106, R107). -/
def padRangeValid (w : Word32) : Bool :=
  1 ≤ padCount w && padCount w ≤ 32 && padFirst w ≤ 3839 && padFirst w + padCount w ≤ Config.padEntries

/-- The bank that READ_PAD names (R175). -/
def padBank (w : Word32) : Bank := if flagBit w 24 then .b else .a

/-- READ_PAD at its execution (R106). -/
def readPadAct (q : Request) (s : State) : State × Answer :=
  if padRangeValid q.arg then
    (s, ⟨.ok, false, (((s.padTable.entries (padBank q.arg)).toList.drop (padFirst q.arg)).take
      (padCount q.arg)).flatMap PadEntry.words⟩)
  else (s, .plain .badArgument)

/-- The bank that requests write: the one that is not active (R103). -/
def PadTable.staging (t : PadTable) : Bank := t.active.other

/-- Entries written to a bank from an index on, as far as the bank reaches. -/
def PadTable.writeFrom (bank : Bank) : Nat → List PadEntry → PadTable → PadTable
  | _, [], t => t
  | i, e :: es, t => PadTable.writeFrom bank (i + 1) es (if h : i < 3840 then t.write bank ⟨i, h⟩ e else t)

/-- WRITE_PAD at its execution (R107). -/
def writePadAct (q : Request) (s : State) : State × Answer :=
  if q.payload.length = 1 + 2 * padCount q.arg ∧ padRangeValid q.arg = true then
    ({ s with padTable :=
        s.padTable.writeFrom s.padTable.staging (padFirst q.arg) (readEntries q.payload.tail) },
      .plain .ok)
  else (s, .plain .badArgument)

/-- COPY_BANK at its execution: the copy starts (R147). -/
def copyBankAct (_ : Request) (s : State) : State × Answer :=
  ({ s with padTable := { s.padTable with copyNext := some 0 } }, .plain .ok)

/-! ### COMMIT (R138 to R143) -/

/-- The active windows of a record, in order (R108). -/
def Settings.activeWindows (c : Settings) : List Window := c.windows.toList.filter fun w => 1 ≤ w.count

/-- Two active windows hold a common row. -/
def Window.overlaps (v w : Window) : Bool := v.start < w.start + w.count && w.start < v.start + v.count

/-- Some two windows of a list hold a common row. -/
def someOverlap : List Window → Bool
  | [] => false
  | w :: ws => ws.any w.overlaps || someOverlap ws

/-- A curve that the check CURVE refuses (R138). -/
def Curve.refused (v : Curve) : Bool := v.segments = 3 && (v.knee2 ≤ v.knee1 || v.shift3 < v.shift2)

/-- The first commit check that a staging record fails (R138). -/
def Settings.firstFault (c : Settings) : Option CommitFault :=
  let ws := c.activeWindows
  if ws.isEmpty then some .noWindow
  else if ws.any fun w => 96 < w.start + w.count then some .windowRange
  else if someOverlap ws then some .windowOverlap
  else if (ws.map Window.count).sum ≠ c.rowTotal then some .windowTotal
  else if c.curveA.refused || c.curveB.refused then some .curve
  else none

/-- The epoch counter grows, staging comes into force, and the staging bank becomes active (R140, R141). -/
def State.bringIntoForce (s : State) : State :=
  { s with
    settings := { s.settings with active := s.settings.staging, epoch := s.settings.epoch + 1 }
    padTable := { s.padTable with active := s.padTable.active.other } }

/-- A commit applied at once (R140). -/
def State.commitNow (s : State) : State × Answer :=
  let s' := { s.bringIntoForce with padTable := { s.bringIntoForce.padTable with stale := true } }
  (s', ⟨.ok, false, [word (placed s'.settings.epoch.toNat 0 8)]⟩)

/-- The switch heartbeat: the first multiple of the larger slice length strictly after the newest heartbeat `n` (R141). -/
def switchAfter (n : Heartbeat) (spanOld spanNew : Nat) : Heartbeat :=
  n + BitVec.ofNat 16 (2 ^ max spanOld spanNew - n.toNat % 2 ^ max spanOld spanNew)

/-- MARGIN_CUT on a slot that is held (R33, R143). -/
def Slot.cut (t : Slot) : Slot :=
  let t' := { t with margin := 0, flags := { t.flags with marginCut := true } }
  if t.state = .filling then t'.mapRecords LinkRecord.cutMargin else t'

/-- MARGIN_CUT reaches the last old slice when it is held (R143). -/
def State.cutLastOld (c : PendingCommit) (fc : Heartbeat) (s : State) : State :=
  if h : 1 ≤ c.oldSlices fc ∧ c.oldSlices fc ≤ 8 then
    let i := s.slotAt ⟨c.oldSlices fc - 1, by omega⟩
    if (s.slot i).state = .free then s else s.mapSlot i Slot.cut
  else s

/-- A commit that becomes pending (R141, R143), and is released at once when it stands at the cursor (R145). -/
def State.commitPendingFrom (fc : Heartbeat) (s : State) : State × Answer :=
  let n := s.ring.newest.getD (fc - 1)
  let c : PendingCommit :=
    { switchHeartbeat := switchAfter n s.settings.active.span s.settings.staging.span
      oldSpan := s.settings.active.span
      oldEpoch := s.settings.epoch
      outgoing := s.settings.active }
  let s1 := { s.bringIntoForce with settings := { s.bringIntoForce.settings with commit := some c } }
  let s2 := ((s1.cutLastOld c fc).releaseCommit).settle
  (s2, ⟨.ok, false,
    [word (placed c.switchHeartbeat.toNat 16 16 + placedFlag true 8 + placed s.bringIntoForce.settings.epoch.toNat 0 8)]⟩)

/-- COMMIT at its execution, once it is not refused (R138, R139). -/
def commitAct (_ : Request) (s : State) : State × Answer :=
  match s.settings.staging.firstFault with
  | some f =>
    ({ s with control := { s.control with configReject := some f } }, ⟨.rejected, false, [word (placed f.code 0 3)]⟩)
  | none =>
    match s.ring.cursor with
    | none => s.commitNow
    | some fc => s.commitPendingFrom fc

/-! ### Reading the part (R158 to R161, R168) -/

/-- READ_STATUS at its execution (R158). -/
def readStatusAct (_ : Request) (s : State) : State × Answer := (s, ⟨.ok, false, s.statusWords⟩)

/-- READ_LINKS at its execution: the delta bits that it reports are cleared (R159). -/
def readLinksAct (_ : Request) (s : State) : State × Answer :=
  (s.mapLinks fun _ k => { k with delta := .clear }, ⟨.ok, false, s.links.toList.map linkWord⟩)

/-- READ_COUNTERS at its execution (R160). -/
def readCountersAct (q : Request) (s : State) : State × Answer :=
  let g := field q.arg 0 8
  if h : g < 24 then (s, ⟨.ok, false, (s.link ⟨g, h⟩).counters.words⟩)
  else if g = 24 then (s, ⟨.ok, false, s.control.globals.words⟩)
  else (s, .plain .badArgument)

/-- Every link counter and every global counter becomes 0 (R161). -/
def State.clearCounters (s : State) : State :=
  (s.mapLinks fun _ k => { k with counters := .zero }).mapGlobals fun _ => .zero

/-- CLEAR_COUNTERS at its execution (R161). -/
def clearCountersAct (_ : Request) (s : State) : State × Answer := (s.clearCounters, .plain .ok)

/-- QUERY_CAUSE at its execution (R168). The pending set is the one the cause was looked for in (assumption 8). With NONE the
detail is a free value (assumption 3). -/
def queryCauseAct (_ : Request) (s : State) : State × Answer :=
  match s.topCause with
  | some c =>
    ({ s with control := s.control.clearLatched c },
      ⟨.ok, false, [word (placed (s.causeDetail c) 16 16 + s.pendingBits + placed c.priority 0 3)]⟩)
  | none =>
    ({ s with freeDraws := s.freeDraws + 1 },
      ⟨.none, false, [word (placed (Config.noCauseDetail s.freeDraws).toNat 16 16 + s.pendingBits)]⟩)

/-! ### Live settings, links and slots (R162, R163, R63, R64, R37) -/

/-- The change of a link's membership in the live enable set (R63). -/
def Link.enableChange (before after : Bool) (k : Link) : Link :=
  match before, after with
  | true, false =>
    match k.rx.state with
    | .held | .disabled => k
    | .search | .training | .ready | .run | .resync => (k.goDown .disabled).flushDown .disabled
  | false, true => if k.rx.state = .disabled then k.changeState .search else k
  | true, true | false, false => k

/-- SET_LIVE at its execution (R162, R175). -/
def setLiveAct (q : Request) (s : State) : State × Answer :=
  let w0 := q.payload[0]?.getD 0
  let w1 := q.payload[1]?.getD 0
  let w2 := q.payload[2]?.getD 0
  let low := field w1 0 16
  let live : Live :=
    { enable := BitVec.ofNat 24 w0.toNat
      congestion := BitVec.ofNat 2 (field w0 28 2)
      lowWater := min 16383 low
      timeout := field w1 16 16
      causeMask := BitVec.ofNat 6 w2.toNat }
  let s' := s.mapLinks fun l k =>
    k.enableChange (s.control.live.enable.getLsbD l.val) (live.enable.getLsbD l.val)
  ({ s' with control := { s'.control with live := live } }, ⟨.ok, decide (16383 < low), []⟩)

/-- The link number that a request names (R175). -/
def linkArg (q : Request) : Nat := field q.arg 0 8

/-- HOLD_LINK on one link (R64). -/
def Link.hold (k : Link) : Link := if k.rx.state = .held then k else (k.goDown .held).flushDown .held

/-- RELEASE_LINK on one link (R64). -/
def Link.release (enabled : Bool) (k : Link) : Link :=
  if k.rx.state = .held then k.changeState (if enabled then .search else .disabled) else k

/-- HOLD_LINK at its execution (R64, R163). -/
def holdLinkAct (q : Request) (s : State) : State × Answer :=
  if h : linkArg q < 24 then (s.mapLink ⟨linkArg q, h⟩ Link.hold, .plain .ok) else (s, .plain .badArgument)

/-- RELEASE_LINK at its execution (R64, R163). -/
def releaseLinkAct (q : Request) (s : State) : State × Answer :=
  if h : linkArg q < 24 then
    (s.mapLink ⟨linkArg q, h⟩ (Link.release (s.control.live.enable.getLsbD (linkArg q))), .plain .ok)
  else (s, .plain .badArgument)

/-- The oldest FILLING slot: the one at the lowest offset from the cursor (R37). -/
def State.oldestFilling (s : State) : Option SlotId :=
  ((List.finRange 8).map s.slotAt).find? fun i => (s.slot i).state = .filling

/-- FORCE_CLOSE at its execution (R37). -/
def forceCloseAct (_ : Request) (s : State) : State × Answer :=
  match s.oldestFilling with
  | none => (s, .plain .none)
  | some i =>
    (((s.giveUp i).mapSlot i fun t => { t with flags := { t.flags with forced := true } }).settle,
      ⟨.ok, false, [word (placed (s.slot i).first.toNat 0 16)]⟩)

/-! ### Restarts (R164 to R166) -/

/-- The stopping flag is set; with two restarts waiting, a SOFT_RESET among them decides (R166). -/
def State.setStopping (k : RestartKind) (s : State) : State :=
  let waiting := if s.emitter.stopping = some .soft then some .soft else some k
  { s with emitter := { s.emitter with stopping := waiting } }

/-- RUN_RESTART at its execution (R164). -/
def runRestartAct (_ : Request) (s : State) : State × Answer := (s.setStopping .run, .plain .ok)

/-- SOFT_RESET at its execution: the requests then queued are discarded unanswered (R165). -/
def softResetAct (_ : Request) (s : State) : State × Answer :=
  ({ s.setStopping .soft with control := { s.control with queue := [] } }, .plain .ok)

/-! ### The commands -/

/-- BAD_REQUEST (R156): a code of 0x00 or from 0x12 on names no request (R175). -/
def execBadRequest (s : State) : Host.Outcome State Fault Refusal :=
  .next (s.execute (fun c => c = 0 || 0x12 ≤ c.toNat) fun _ s => (s, .plain .badRequest))

/-- READ_SETTINGS (R136). -/
def execReadSettings (s : State) : Host.Outcome State Fault Refusal :=
  .next (s.execute (· = 0x01#8) (withLength 1 readSettingsAct))

/-- WRITE_SETTINGS (R135). -/
def execWriteSettings (s : State) : Host.Outcome State Fault Refusal :=
  .next (s.execute (· = 0x02#8) (unlessBusy State.commitPending (withLength 13 writeSettingsAct)))

/-- READ_PAD (R106). -/
def execReadPad (s : State) : Host.Outcome State Fault Refusal :=
  .next (s.execute (· = 0x03#8) (withLength 1 readPadAct))

/-- WRITE_PAD (R107). -/
def execWritePad (s : State) : Host.Outcome State Fault Refusal :=
  .next (s.execute (· = 0x04#8) (unlessBusy State.banksBusy writePadAct))

/-- COPY_BANK (R147). -/
def execCopyBank (s : State) : Host.Outcome State Fault Refusal :=
  .next (s.execute (· = 0x05#8) (unlessBusy State.banksBusy (withLength 0 copyBankAct)))

/-- COMMIT (R138). -/
def execCommit (s : State) : Host.Outcome State Fault Refusal :=
  .next (s.execute (· = 0x06#8) (unlessBusy State.banksBusy (withLength 0 commitAct)))

/-- READ_STATUS (R158). -/
def execReadStatus (s : State) : Host.Outcome State Fault Refusal :=
  .next (s.execute (· = 0x07#8) (withLength 0 readStatusAct))

/-- READ_LINKS (R159). -/
def execReadLinks (s : State) : Host.Outcome State Fault Refusal :=
  .next (s.execute (· = 0x08#8) (withLength 0 readLinksAct))

/-- READ_COUNTERS (R160). -/
def execReadCounters (s : State) : Host.Outcome State Fault Refusal :=
  .next (s.execute (· = 0x09#8) (withLength 1 readCountersAct))

/-- CLEAR_COUNTERS (R161). -/
def execClearCounters (s : State) : Host.Outcome State Fault Refusal :=
  .next (s.execute (· = 0x0A#8) (withLength 0 clearCountersAct))

/-- QUERY_CAUSE (R168). -/
def execQueryCause (s : State) : Host.Outcome State Fault Refusal :=
  .next (s.execute (· = 0x0B#8) (withLength 0 queryCauseAct))

/-- SET_LIVE (R162). -/
def execSetLive (s : State) : Host.Outcome State Fault Refusal :=
  .next (s.execute (· = 0x0C#8) (withLength 3 setLiveAct))

/-- HOLD_LINK (R64). -/
def execHoldLink (s : State) : Host.Outcome State Fault Refusal :=
  .next (s.execute (· = 0x0D#8) (withLength 1 holdLinkAct))

/-- RELEASE_LINK (R64). -/
def execReleaseLink (s : State) : Host.Outcome State Fault Refusal :=
  .next (s.execute (· = 0x0E#8) (withLength 1 releaseLinkAct))

/-- FORCE_CLOSE (R37). -/
def execForceClose (s : State) : Host.Outcome State Fault Refusal :=
  .next (s.execute (· = 0x0F#8) (withLength 0 forceCloseAct))

/-- RUN_RESTART (R164). -/
def execRunRestart (s : State) : Host.Outcome State Fault Refusal :=
  .next (s.execute (· = 0x10#8) (withLength 0 runRestartAct))

/-- SOFT_RESET (R165). -/
def execSoftReset (s : State) : Host.Outcome State Fault Refusal :=
  .next (s.execute (· = 0x11#8) (withLength 0 softResetAct))

/-- COPY_ENTRY_MOVED (R148): a running copy moves its next entry from the active bank to the staging bank. -/
def execCopyEntryMoved (s : State) : Host.Outcome State Fault Refusal :=
  match s.padTable.copyNext with
  | none => .next s
  | some i =>
    if h : i < 3840 then
      .next { s with padTable :=
        { s.padTable.write s.padTable.staging ⟨i, h⟩ (s.padTable.entries s.padTable.active)[i] with
          copyNext := some (i + 1) } }
    else .next s

/-- COPY_BANK_DONE (R148): a copy that has moved its 3,840 entries ends. -/
def execCopyBankDone (s : State) : Host.Outcome State Fault Refusal :=
  if s.padTable.copyNext = some Config.padEntries then
    .next { s with padTable := { s.padTable with copyNext := none, stale := false } }
  else .next s

end Sys2Proof.Machine
end

