-- ==== Sys2Proof/Machine/Resets.lean ====
section
/-! DEFINITION. Resets and restarts: PIN_RESET, RUN_RESTART_TAKES_EFFECT, SOFT_RESET_TAKES_EFFECT (R25, R54, R79, R129, R131,
R150, R165, R170). -/

namespace Sys2Proof.Machine

open Sys2Proof

/-- A receiver's heartbeat state and frame in progress after a restart (R79). -/
def Receiver.restarted (r : Receiver) : Receiver :=
  { r with lastHeartbeat := none, heartbeatOpen := false, burstsSinceOpen := 0, skipping := false, frame := none }

/-- A link after a RUN_RESTART (R79). -/
def Link.runRestarted (k : Link) : Link :=
  let k' := { k with rx := k.rx.restarted, queue := .empty }
  match k.rx.state with
  | .run | .resync => k'.changeState .ready
  | .disabled | .search | .training | .ready | .held => k'

/-- A link after a SOFT_RESET (R79). -/
def Link.softReset (enabled : Bool) : Link :=
  { Link.reset with rx := { Receiver.reset with state := if enabled then .search else .disabled } }

/-- The emitter is at a frame boundary: no record frame is being transmitted (R25, R129). -/
def State.atFrameBoundary (s : State) : Bool :=
  match s.uplink.tx with
  | .frame f => f.kind = .reply
  | .train | .boundary => true

/-- A pending commit is applied by a restart (R146). -/
def State.applyCommit (s : State) : State := if s.settings.commit.isSome then s.endCommit else s

/-- Ring, cell pool, emitter and commit state after a restart (R25, R54, R131, R146). -/
def State.restartCore (s : State) : State :=
  { s.applyCommit with ring := .reset, freeCells := refilled, emitter := .reset }

/-- The boundary at which a restart was due: the arbiter chooses after the effect. While a REPLY or a TRAIN word is being
sent there is no choice to make (R129, assumption 6). -/
def State.resumeUplink (s : State) : State :=
  match s.uplink.tx with
  | .boundary => s.boundary
  | .train | .frame _ => s

/-- The values of a RUN_RESTART (R164). -/
def State.runRestart (s : State) : State := (s.restartCore.mapLinks fun _ k => k.runRestarted).resumeUplink

/-- The values of a SOFT_RESET (R165). DESIGN CHOICE (assumption 21): SLICE_LOSS and the count of incomplete slices are
cleared, as R43, R45 and R165 have it, also after a FORCE_CLOSE in the interval before, of which R37 says that they keep what
the close gave them. -/
def State.softReset (s : State) : State :=
  let r := s.restartCore.mapLinks fun l _ => Link.softReset (s.control.live.enable.getLsbD l.val)
  { r with
    padTable := { r.padTable with copyNext := none }
    uplink := { r.uplink with paused := false }
    control :=
      { r.control with
        overrun := false, configReject := none, sliceLoss := false, controlOverrun := false, globals := .zero }
    }.resumeUplink

/-! ### The commands -/

/-- PIN_RESET (R25, R130, R166): everything takes its pin reset value at once. The queue of commands and the count of free
values are the model's own. -/
def execPinReset (s : State) : Host.Outcome State Fault Refusal :=
  .next { State.reset with pending := s.pending, freeDraws := s.freeDraws }

/-- RUN_RESTART_TAKES_EFFECT (R129, R164, R166). -/
def execRunRestartTakesEffect (s : State) : Host.Outcome State Fault Refusal :=
  if s.emitter.stopping = some .run ∧ s.atFrameBoundary = true then .next s.runRestart else .next s

/-- SOFT_RESET_TAKES_EFFECT (R129, R165, R166). -/
def execSoftResetTakesEffect (s : State) : Host.Outcome State Fault Refusal :=
  if s.emitter.stopping = some .soft ∧ s.atFrameBoundary = true then .next s.softReset else .next s

end Sys2Proof.Machine
end

