-- ==== Sys2Proof/Machine/ReturnLane.lean ====
section
/-! DEFINITION. The return lane (section 10.1) and the admission of requests (R154): RETURN_LANE_ALIGNMENT_FOUND,
RETURN_LANE_TRAIN_WORD, RETURN_LANE_TRAINING_COUNT_RESET, RETURN_LANE_CODE_ERROR, RETURN_LANE_SIGNAL_LOSS, PAUSE,
RESUME, REQUEST_FRAME. -/

namespace Sys2Proof.Machine

open Sys2Proof

/-! ### Words on the return lane (R151 to R153) -/

/-- Change the return-lane receiver. -/
def State.mapLane (f : ReturnLane → ReturnLane) (s : State) : State := { s with lane := f s.lane }

/-- `n` words without a code error reach an aligned or training receiver. -/
def ReturnLane.age (n : Nat) (r : ReturnLane) : ReturnLane :=
  match r.state with
  | .search => r
  | .training | .aligned => { r with errorWindow := ageWindow n r.errorWindow, signalTimer := 0 }

/-- A TRAIN word in TRAINING: at a count of 64 the receiver goes to ALIGNED (R151). -/
def ReturnLane.trainUp (r : ReturnLane) : ReturnLane :=
  if Config.trainingWords ≤ r.trainingCount + 1 then
    { r with trainingCount := r.trainingCount + 1, state := .aligned }
  else { r with trainingCount := r.trainingCount + 1 }

/-- Another word in TRAINING (R151). -/
def ReturnLane.trainReset (r : ReturnLane) : ReturnLane := { r with trainingCount := 0 }

/-- The receiver returns to SEARCH, its request frame gone (R151). -/
def ReturnLane.toSearch (r : ReturnLane) : ReturnLane :=
  { r with state := .search, alignment := none, trainingCount := 0, frame := none }

/-- A request frame or an offered request is discarded (R153, R154). -/
def State.countDiscarded (s : State) : State :=
  s.mapGlobals fun g => { g with requestsDiscarded := satAdd cap32 g.requestsDiscarded 1 }

/-- The request frame in progress, if any, is discarded and counted (R153). -/
def State.discardFrame (s : State) : State :=
  match s.lane.frame with
  | none => s
  | some _ => (s.mapLane fun r => { r with frame := none }).countDiscarded

/-- The pause flag is set or cleared at once; a cleared flag returns a paused emitter to RECORD (R126, R127). -/
def State.setPaused (paused : Bool) (s : State) : State :=
  { s with
    uplink := { s.uplink with paused := paused }
    emitter := if paused = false ∧ s.emitter.state = .pausedInRecord then
        { s.emitter with state := .record }
      else s.emitter }

/-- A control word reaches the aligned receiver (R152, R153): a flow word acts and leaves a frame alone; any other control
word cuts a frame in progress, and REQUEST_START begins one. -/
def State.alignedControl (c : Word16) (s : State) : State :=
  if c = Config.pauseWord then s.setPaused true
  else if c = Config.resumeWord then s.setPaused false
  else if c = Config.requestStart then s.discardFrame.mapLane fun r => { r with frame := some [] }
  else s.discardFrame

/-- A control word arrives on the return lane (R151 to R153). -/
def State.laneControl (c : Word16) (s : State) : State :=
  match s.lane.state with
  | .search => s
  | .training =>
    s.mapLane fun r => if c = Config.trainControl then (r.age 1).trainUp else (r.age 1).trainReset
  | .aligned => (s.mapLane (ReturnLane.age 1)).alignedControl c

/-- A request is offered to the queue (R154). -/
def State.offerRequest (q : Request) (s : State) : State :=
  if s.control.queue.length < Config.queueRequests then
    { s with control := { s.control with queue := s.control.queue ++ [q] } }
  else { s.countDiscarded with control :=
    { s.countDiscarded.control with controlOverrun := true, overrun := true } }

/-- A complete request frame: its check decides between an offer and a discard (R153). -/
def State.completeRequest (header : Word32) (payload : List Word32) (check : Word32) (s : State) : State :=
  if lowHalf check = crc (halves (header :: payload)) then
    s.offerRequest ⟨BitVec.ofNat 8 (field header 24 8), BitVec.ofNat 16 (field header 0 16), payload⟩
  else s.countDiscarded

/-- The payload words of a complete request frame are its header, its payload and its check. -/
def State.closeRequest (ws : List Word32) (s : State) : State :=
  match ws with
  | header :: rest => s.completeRequest header rest.dropLast (rest.getLastD 0)
  | [] => s

/-- Data words of the request frame in progress arrive: they complete it, with words beyond its end discarded, or the frame
stays in progress (R153). -/
def State.requestData (ws : List Word16) (s : State) : State :=
  match s.lane.frame with
  | none => s
  | some before =>
    if requestComplete (before ++ ws) then
      (s.mapLane fun r => { r with frame := none }).closeRequest
        (payloadWords ((before ++ ws).take (requestWords (before ++ ws))))
    else s.mapLane fun r => { r with frame := some (before ++ ws) }

/-- `ws` are data words of a request frame: they follow a REQUEST_START, or continue the frame in progress. -/
def State.requestWordsArrive (ws : List Word16) (s : State) : State :=
  match s.lane.state with
  | .search => s
  | .training => s.mapLane fun r => (r.age (1 + ws.length)).trainReset
  | .aligned =>
    let s' := if s.lane.frame.isSome then s else s.laneControl Config.requestStart
    (s'.mapLane (ReturnLane.age ws.length)).requestData ws

/-- A lane word arrives on the return lane (R151 to R153). In ALIGNED a data word is the next word of the request frame in
progress, and between frames it is discarded without count; it enters the error window either way. -/
def State.laneWord (w : LaneWord) (s : State) : State :=
  match w with
  | .control c => s.laneControl c
  | .data d =>
    match s.lane.state with
    | .search => s
    | .training => s.mapLane fun r => (r.age 1).trainReset
    | .aligned => (s.mapLane (ReturnLane.age 1)).requestData [d]

/-- The data words of a request frame in progress arrive before the event that ends it. -/
def State.inRequest (inFrame : Option (List Word16)) (s : State) : State :=
  match inFrame with
  | none => s
  | some ws => s.requestWordsArrive ws

/-- A word with a code error on the return lane (R151, R153). -/
def State.laneCodeError (s : State) : State :=
  match s.lane.state with
  | .search => s
  | .training => s.mapLane ReturnLane.toSearch
  | .aligned =>
    let s' := s.discardFrame.mapLane fun r => { r with errorWindow := markWindow r.errorWindow, signalTimer := 0 }
    if Config.windowErrors ≤ s'.lane.errorWindow.length then s'.mapLane ReturnLane.toSearch else s'

/-- Loss of signal on the return lane (R151). -/
def State.laneSignalLoss (s : State) : State :=
  match s.lane.state with
  | .search => s
  | .training | .aligned =>
    s.discardFrame.mapLane fun r => { r.toSearch with signalTimer := Config.signalPeriods }

/-! ### The commands -/

/-- RETURN_LANE_ALIGNMENT_FOUND (R151). -/
def execReturnLaneAlignmentFound (pos : Nat) (s : State) : Host.Outcome State Fault Refusal :=
  if s.lane.state = .search then
    .next (s.mapLane fun r =>
      { r with state := .training, alignment := some pos, trainingCount := 1, errorWindow := [], signalTimer := 0 })
  else .next s

/-- RETURN_LANE_TRAIN_WORD (R151, R153). -/
def execReturnLaneTrainWord (s : State) : Host.Outcome State Fault Refusal :=
  .next (s.laneControl Config.trainControl)

/-- RETURN_LANE_TRAINING_COUNT_RESET (R151): a word that is no TRAIN word. In ALIGNED the same command carries the words
between frames, which no other row of the table carries (R153, assumption 20). -/
def execReturnLaneTrainingCountReset (w : LaneWord) (s : State) : Host.Outcome State Fault Refusal :=
  if w = .control Config.trainControl then .next s else .next (s.laneWord w)

/-- RETURN_LANE_CODE_ERROR (R151, R153). -/
def execReturnLaneCodeError (inFrame : Option (List Word16)) (s : State) : Host.Outcome State Fault Refusal :=
  .next (s.inRequest inFrame).laneCodeError

/-- RETURN_LANE_SIGNAL_LOSS (R151). -/
def execReturnLaneSignalLoss (inFrame : Option (List Word16)) (s : State) : Host.Outcome State Fault Refusal :=
  .next (s.inRequest inFrame).laneSignalLoss

/-- PAUSE (R126, R152). -/
def execPause (s : State) : Host.Outcome State Fault Refusal := .next (s.laneControl Config.pauseWord)

/-- RESUME (R126, R152). -/
def execResume (s : State) : Host.Outcome State Fault Refusal := .next (s.laneControl Config.resumeWord)

/-- REQUEST_FRAME (R153, R154). -/
def execRequestFrame (ws : List Word16) (cut : Option Word16) (s : State) : Host.Outcome State Fault Refusal :=
  match cut with
  | none => .next (s.requestWordsArrive ws)
  | some c => .next ((s.requestWordsArrive ws).laneControl c)

end Sys2Proof.Machine
end

