-- ==== Sys2Proof/Machine/Dispatch.lean ====
section
/-! DEFINITION. The effect of every command on everything but the queue: one arm for each row of the table. -/

namespace Sys2Proof.Machine

open Sys2Proof

def exec (i : Instr) (s : State) : Host.Outcome State Fault Refusal :=
  match i with
  | .pinReset => Sys2Proof.Machine.execPinReset s
  | .alignmentFound l pos => Sys2Proof.Machine.execAlignmentFound l pos s
  | .trainWord l => Sys2Proof.Machine.execTrainWord l s
  | .codeErrorWord l f => Sys2Proof.Machine.execCodeErrorWord l f s
  | .signalLoss l => Sys2Proof.Machine.execSignalLoss l s
  | .hbOpenFrame l low x => Sys2Proof.Machine.execHbOpenFrame l low x s
  | .hbCloseFrame l low x d st => Sys2Proof.Machine.execHbCloseFrame l low x d st s
  | .burstFrame l c b ws k => Sys2Proof.Machine.execBurstFrame l c b ws k s
  | .truncatedBurst l c b n ws k => Sys2Proof.Machine.execTruncatedBurst l c b n ws k s
  | .framingError l e => Sys2Proof.Machine.execFramingError l e s
  | .takeHbOpen => Sys2Proof.Machine.execTakeHbOpen s
  | .takeBurst => Sys2Proof.Machine.execTakeBurst s
  | .takeHbClose => Sys2Proof.Machine.execTakeHbClose s
  | .takeLoss => Sys2Proof.Machine.execTakeLoss s
  | .takeLinkDown => Sys2Proof.Machine.execTakeLinkDown s
  | .deadlineExpiry slot => Sys2Proof.Machine.execDeadlineExpiry slot s
  | .epochMarkSent => Sys2Proof.Machine.execEpochMarkSent s
  | .headSent => Sys2Proof.Machine.execHeadSent s
  | .rowSent => Sys2Proof.Machine.execRowSent s
  | .tailSent b => Sys2Proof.Machine.execTailSent b s
  | .replySent b => Sys2Proof.Machine.execReplySent b s
  | .trainWordSent => Sys2Proof.Machine.execTrainWordSent s
  | .returnLaneAlignmentFound p => Sys2Proof.Machine.execReturnLaneAlignmentFound p s
  | .returnLaneTrainWord => Sys2Proof.Machine.execReturnLaneTrainWord s
  | .returnLaneCodeError f => Sys2Proof.Machine.execReturnLaneCodeError f s
  | .returnLaneSignalLoss f => Sys2Proof.Machine.execReturnLaneSignalLoss f s
  | .pause => Sys2Proof.Machine.execPause s
  | .resume => Sys2Proof.Machine.execResume s
  | .requestFrame ws c => Sys2Proof.Machine.execRequestFrame ws c s
  | .replyHandover => Sys2Proof.Machine.execReplyHandover s
  | .badRequest => Sys2Proof.Machine.execBadRequest s
  | .readSettings => Sys2Proof.Machine.execReadSettings s
  | .writeSettings => Sys2Proof.Machine.execWriteSettings s
  | .readPad => Sys2Proof.Machine.execReadPad s
  | .writePad => Sys2Proof.Machine.execWritePad s
  | .copyBank => Sys2Proof.Machine.execCopyBank s
  | .copyBankDone => Sys2Proof.Machine.execCopyBankDone s
  | .commit => Sys2Proof.Machine.execCommit s
  | .readStatus => Sys2Proof.Machine.execReadStatus s
  | .readLinks => Sys2Proof.Machine.execReadLinks s
  | .readCounters => Sys2Proof.Machine.execReadCounters s
  | .clearCounters => Sys2Proof.Machine.execClearCounters s
  | .queryCause => Sys2Proof.Machine.execQueryCause s
  | .setLive => Sys2Proof.Machine.execSetLive s
  | .holdLink => Sys2Proof.Machine.execHoldLink s
  | .releaseLink => Sys2Proof.Machine.execReleaseLink s
  | .forceClose => Sys2Proof.Machine.execForceClose s
  | .runRestart => Sys2Proof.Machine.execRunRestart s
  | .softReset => Sys2Proof.Machine.execSoftReset s
  | .runRestartTakesEffect => Sys2Proof.Machine.execRunRestartTakesEffect s
  | .softResetTakesEffect => Sys2Proof.Machine.execSoftResetTakesEffect s
  | .timebaseStep => Sys2Proof.Machine.execTimebaseStep s
  | .copyEntryMoved => Sys2Proof.Machine.execCopyEntryMoved s
  | .trainingCountReset l w => Sys2Proof.Machine.execTrainingCountReset l w s
  | .returnLaneTrainingCountReset w => Sys2Proof.Machine.execReturnLaneTrainingCountReset w s

end Sys2Proof.Machine
end

