-- ==== Sys2Proof/Safety.lean ====
section
/-! DEFINITION. What every run of the part keeps: the terms in which the claims speak of safe states. No command stops, so a run
is safe when its states are legal in the senses below. -/

namespace Sys2Proof.Safety

open Sys2Proof Sys2Proof.Machine

/-- A property that holds of a next state whenever it holds of the state before. -/
def KeptByStep (P : State → Prop) : Prop := ∀ s t : State, P s → step s = .next t → P t

/-- A list of commands run one after another, stopping where one stops. -/
def execAll : List Instr → State → Host.Outcome State Fault Refusal
  | [], s => .next s
  | c :: cs, s =>
    match exec c s with
    | .next t => execAll cs t
    | .fault f => .fault f
    | .refused r => .refused r

/-- The command that takes an item of this kind. -/
def takeOf : Item → Instr
  | .hbOpen _ _ => .takeHbOpen
  | .burst _ => .takeBurst
  | .hbClose _ => .takeHbClose
  | .loss => .takeLoss
  | .linkDown _ => .takeLinkDown

/-! ### Ingress queues (R72) -/

/-- The fill stays within 2,048 units, and the last unit is used in drop mode only (R72, R73). -/
def QueuesWithinUnits (s : State) : Prop :=
  ∀ l : LinkId, (s.link l).queue.fill ≤ Config.queueUnits ∧
    ((s.link l).queue.dropMode = false → (s.link l).queue.fill ≤ Config.queueLimit)

/-! ### Receivers (R59 to R71) -/

/-- The fields of a receiver agree with its state. -/
structure ReceiverLegal (r : Receiver) : Prop where
  training : r.trainingCount ≤ 64
  counting : r.state = .training → r.trainingCount < 64
  bursts : r.burstsSinceOpen ≤ 65535
  window : r.errorWindow.length ≤ 4
  noLoss : r.aligned = true → r.errorWindow.length < 4
  ages : ∀ a ∈ r.errorWindow, a < 256
  alignment : r.aligned = r.alignment.isSome
  running : r.state = .run → r.lastHeartbeat.isSome = true
  opened : r.heartbeatOpen = true → r.state = .run
  framed : r.frame.isSome = true → r.state = .ready ∨ r.state = .run ∨ r.state = .resync
  /-- Outside RUN only an HB_OPEN frame is in progress (R61, R68). -/
  opening : r.state ≠ .run → ∀ f, r.frame = some f → controlKind f.control = .hbOpen
  /-- In RUN an HB_CLOSE or BURST frame is in progress only while a heartbeat is open (R66, R69, R70). -/
  begun : r.state = .run → ∀ f, r.frame = some f → controlKind f.control = .hbOpen ∨
    r.heartbeatOpen = true ∧ (controlKind f.control = .hbClose ∨ ∃ ch, controlKind f.control = .burst ch)

  /-- Only a receiver in RUN skips data words, and only between frames (R66). -/
  skips : r.skipping = true → r.state = .run ∧ r.frame = none

/-- Every receiver is legal. -/
def ReceiversLegal (s : State) : Prop := ∀ l : LinkId, ReceiverLegal (s.link l).rx

/-! ### Settings (R133) -/

/-- A curve's fields lie in their ranges. -/
def CurveInRange (v : Curve) : Prop :=
  1 ≤ v.segments ∧ v.segments ≤ 3 ∧ 1 ≤ v.knee1 ∧ v.knee1 ≤ 1022 ∧ 1 ≤ v.knee2 ∧ v.knee2 ≤ 1022 ∧
    1 ≤ v.shift2 ∧ v.shift2 ≤ 4 ∧ 1 ≤ v.shift3 ∧ v.shift3 ≤ 4

/-- A record's fields lie in their ranges (the table of R133). -/
structure InRange (c : Settings) : Prop where
  span : c.span ≤ 4
  margin : c.margin ≤ 511
  baseline : -512 ≤ c.baseline ∧ c.baseline ≤ 511
  pre : c.pre ≤ 3
  post : c.post ≤ 7
  mergeGap : c.mergeGap ≤ 3
  curveA : CurveInRange c.curveA
  curveB : CurveInRange c.curveB
  windows : ∀ j : Fin 8, c.windows[j].start ≤ 95 ∧ c.windows[j].count ≤ 96
  rowTotal : c.rowTotal ≤ 96

/-- A record in force: in range, and with the relations that a commit checks (R133, R138). -/
def InForce (c : Settings) : Prop := InRange c ∧ c.firstFault = none

/-- The copies of the settings record are legal, and a pending commit fits them (R133, R134, R136, R141). -/
structure SettingsLegal (s : State) : Prop where
  staging : InRange s.settings.staging
  active : InForce s.settings.active
  outgoing : ∀ c, s.settings.commit = some c → InForce c.outgoing ∧ c.oldSpan = c.outgoing.span ∧
    c.oldEpoch + 1 = s.settings.epoch ∧ s.settings.staging = s.settings.active

/-! ### Cells (R46, R48) -/

/-- The cells that the pulses of a slot hold. -/
def slotCells (t : Slot) : List Nat := t.rows.toList.flatMap fun chain => chain.flatMap StoredPulse.cells

/-- The cells that the pulses of all slots hold. -/
def heldCells (s : State) : List Nat := s.ring.slots.toList.flatMap slotCells

/-- Every cell number is one of the pool's and stands once: in the free list, or in one pulse of one slot (R46, R48). -/
def CellsStandOnce (s : State) : Prop :=
  (s.freeCells ++ heldCells s).Nodup ∧ ∀ c ∈ s.freeCells ++ heldCells s, c < Config.poolCells

/-- The free count and the cells held totals of the eight slots together (R48). -/
def cellSum (s : State) : Nat := s.freeCells.length + (s.ring.slots.toList.map fun t => t.totals.cellsHeld).sum

/-- Every slot's total of cells held counts the cells of its pulses, and these totals and the free count together are the
whole pool (R48). -/
def CellsCounted (s : State) : Prop :=
  (∀ i : SlotId, (s.slot i).totals.cellsHeld = (slotCells (s.slot i)).length) ∧ cellSum s = Config.poolCells

/-! ### Ring and emitter (R2, R3, R6, R113, R114) -/

/-- Ring, emitter and transmitter agree with one another. -/
structure RingLegal (s : State) : Prop where
  /-- A FREE slot's record is emptied (R3). -/
  emptied : ∀ i : SlotId, (s.slot i).state = .free → s.slot i = .free
  /-- While the cursor is unset every slot is FREE (R6). -/
  unset : s.ring.cursor = none → ∀ i : SlotId, (s.slot i).state = .free
  /-- Counting from the cursor, the slots that are not FREE come first (R2). -/
  consecutive : ∀ j k : Fin 8, k ≤ j → (s.slot (s.slotAt j)).state ≠ .free → (s.slot (s.slotAt k)).state ≠ .free
  /-- The record slot is the EMITTING slot (R113). -/
  record : ∀ i : SlotId, s.emitter.slot = some i ↔ (s.slot i).state = .emitting
  /-- It is the cursor slot, and the emitter is in RECORD or PAUSED_IN_RECORD with a next frame (R113). -/
  active : ∀ i : SlotId, s.emitter.slot = some i →
    i = s.ring.cursorSlot ∧ s.emitter.state ≠ .idle ∧ s.emitter.next ≠ none ∧ s.emitter.next ≠ some .reply
  /-- Without a record slot the emitter is IDLE with no next frame (R113). -/
  idle : s.emitter.slot = none → s.emitter.state = .idle ∧ s.emitter.next = none
  /-- A record frame being transmitted is the emitter's next frame (R115). -/
  transmitting : ∀ f, s.uplink.tx = .frame f → f.kind ≠ .reply → s.emitter.next = some f.kind
  /-- The transmitter stands at a boundary only for a restart that is due there (R129). -/
  boundary : s.uplink.tx = .boundary → s.emitter.stopping ≠ none
  /-- An IDLE emitter takes a COMPLETE cursor slot at once, unless a restart waits (R114). -/
  takesAtOnce : s.emitter.state = .idle → s.emitter.stopping = none → (s.slot s.ring.cursorSlot).state ≠ .complete

/-! ### The slices that the ring holds (R2, R8 to R10, R141) and the record that is sent (R119) -/

/-- The held slots hold consecutive slices from the cursor, each with the epoch and the span code of its slice. -/
structure GeometryLegal (s : State) : Prop where
  /-- A slot that is not FREE holds the slice at its offset, under the epoch that serves it (R2, R10). -/
  slices : ∀ j : Fin 8, (s.slot (s.slotAt j)).state ≠ .free →
    (s.slot (s.slotAt j)).first = s.sliceFirst j.val ∧ (s.slot (s.slotAt j)).epoch = s.epochAt j.val ∧
    (s.slot (s.slotAt j)).span = (s.settings.settingsOf (s.epochAt j.val)).span
  /-- Without a pending commit the cursor is the first heartbeat of a slice (R6). -/
  aligned : ∀ fc, s.ring.cursor = some fc → s.settings.commit = none → fc.toNat % 2 ^ s.settings.active.span = 0
  /-- A pending commit stands a whole number of old slices, and not too many, after the cursor (R141, R145). -/
  switch : ∀ c, s.settings.commit = some c → ∃ fc, s.ring.cursor = some fc ∧
    fc.toNat % 2 ^ c.oldSpan = 0 ∧ c.switchHeartbeat.toNat % 2 ^ c.oldSpan = 0 ∧
    c.switchHeartbeat.toNat % 2 ^ s.settings.active.span = 0 ∧
    1 ≤ (c.switchHeartbeat - fc).toNat ∧ (c.switchHeartbeat - fc).toNat < 144
  /-- The newest heartbeat lies in the last slot that is not FREE, or just behind the cursor when every slot is FREE (R7). -/
  newest : ∀ fc, s.ring.cursor = some fc → ∃ n, s.ring.newest = some n ∧
    ((∃ k, s.place n = .within k ∧ ∀ j : Fin 8, (s.slot (s.slotAt j)).state ≠ .free ↔ j ≤ k) ∨
      n = fc - 1 ∧ ∀ i : SlotId, (s.slot i).state = .free)

/-- While no restart waits, the row chains that the record has passed are empty, and so are all of them once its next frame is
the TAIL (R119). -/
structure EmissionLegal (s : State) : Prop where
  passed : s.emitter.stopping = none → ∀ i : SlotId, s.emitter.slot = some i →
    ∀ r : RowId, r ∉ rowsFrom (s.orderOf i) s.emitter.row → (s.slot i).rows[r] = []
  finished : s.emitter.stopping = none → ∀ i : SlotId, s.emitter.slot = some i → s.emitter.next = some .tail →
    ∀ r : RowId, (s.slot i).rows[r] = []

/-- The emitter after the end of a ROW frame of slot `t` in the row order `order`, from `e` to `e'`; `left` is what the frame
leaves of its chain (R119, R120). -/
structure RowFrameEnds (order : RowOrder) (t : Slot) (left : List StoredPulse) (e e' : Emitter) : Prop where
  others : e' = { e with next := e'.next, row := e'.row, continuation := e'.continuation }
  /-- The chain goes on: the row position stays, and the next frame carries CONT_ROW. -/
  stays : left ≠ [] → e' = { e with next := some .row, continuation := true }
  /-- The chain has ended: the row position moves to the next row of the order, the flag clear. -/
  moves : left = [] → e'.continuation = false ∧
    ∀ r : RowId, (match order with
      | .ascending => r.val = e.row.val + 1
      | .descending => r.val + 1 = e.row.val) → e'.row = r
  /-- The next frame is ROW while a later row still holds pulses, and TAIL otherwise. -/
  follows : left = [] →
    let later (r : RowId) : Prop := match order with
      | .ascending => e.row < r
      | .descending => r < e.row
    ((∃ r, later r ∧ t.rows[r] ≠ []) → e'.next = some .row) ∧
    ((∀ r, later r → t.rows[r] = []) → e'.next = some .tail) ∧
    ((∀ r, ¬ later r) → e'.row = e.row)

/-! ### Completion and the emitter's taking (R28, R114) -/

/-- How every event at the slots ends, from the slots of `s` to those of `t`, whose records the event has written: a FILLING
slot left without a PENDING link becomes COMPLETE and its deadline none (R28), and an IDLE emitter with no restart waiting takes
the COMPLETE cursor slot (R114). -/
structure SlotsSettle (s t : State) : Prop where
  states : ∀ i : SlotId,
    let done := (s.slot i).state = .complete ∨ (s.slot i).state = .filling ∧ ∀ l, (t.record i l).verdict ≠ .pending
    (t.slot i).state =
      if done then
        if i = s.ring.cursorSlot ∧ s.ring.cursor ≠ none ∧ s.emitter.state = .idle ∧ s.emitter.stopping = none then .emitting
        else .complete
      else (s.slot i).state
  deadlines : ∀ i : SlotId,
    (t.slot i).deadline =
      if (s.slot i).state = .filling ∧ ∀ l, (t.record i l).verdict ≠ .pending then none else (s.slot i).deadline
  takes : (s.slot s.ring.cursorSlot).state ≠ .emitting → (t.slot s.ring.cursorSlot).state = .emitting →
    t.emitter =
      { s.emitter with
        state := if s.uplink.paused then .pausedInRecord else .record
        slot := some s.ring.cursorSlot
        lastEpoch := t.emitter.lastEpoch
        next := some (if t.emitter.lastEpoch = some (s.slot s.ring.cursorSlot).epoch then .head else .epochMark)
        row := match (t.settings.settingsOf (s.slot s.ring.cursorSlot).epoch).order with
          | .ascending => 0
          | .descending => 95
        continuation := false
        sections := 0, pulsesSent := 0, samplesSent := 0 }
  stays : (s.slot s.ring.cursorSlot).state = .emitting ∨ (t.slot s.ring.cursorSlot).state ≠ .emitting →
    t.emitter = { s.emitter with lastEpoch := t.emitter.lastEpoch }

/-! ### Verdicts and margins (R26 to R28) -/

/-- A slot's verdicts and margin states agree with its state and its margin. -/
structure SlotLegal (t : Slot) : Prop where
  /-- A FILLING slot waits for some link (R28, R36). -/
  waits : t.state = .filling → t.hasPending = true
  /-- In a FILLING slot a margin is AWAITED exactly when the link is PENDING with closed-last set (R27). -/
  awaited : t.state = .filling → ∀ l : LinkId,
    (t.links[l].margin = .awaited ↔ t.links[l].verdict = .pending ∧ t.links[l].closedLast = true)
  /-- A margin is AWAITED only where the slot has one (R27). -/
  needed : ∀ l : LinkId, t.links[l].margin = .awaited → 0 < t.margin
  /-- A slot that is no longer FILLING holds no PENDING link and no AWAITED margin (R27, R28). -/
  final : t.state ≠ .filling → ∀ l : LinkId, t.links[l].verdict ≠ .pending ∧ t.links[l].margin ≠ .awaited
  /-- Only a FILLING slot has a deadline (R28, R34). -/
  deadline : t.state ≠ .filling → t.deadline = none

/-- Every slot is legal. -/
def SlotsLegal (s : State) : Prop := ∀ i : SlotId, SlotLegal (s.slot i)

/-! ### Control unit -/

/-- The request queue, the live settings and the latched state stay within their bounds (R154, R162). -/
structure ControlLegal (s : State) : Prop where
  requests : s.control.queue.length ≤ 4
  lowWater : s.control.live.lowWater ≤ 16383
  timeout : s.control.live.timeout ≤ 65535
  copy : ∀ i, s.padTable.copyNext = some i → i ≤ 3840
  /-- No commit is pending while a copy runs (R147). -/
  exclusive : s.padTable.copyNext ≠ none → s.settings.commit = none
  opening : s.uplink.opening ≤ 64

/-! ### The return lane (R151, R153) -/

/-- The fields of the return-lane receiver agree with its state. -/
structure LaneLegal (r : ReturnLane) : Prop where
  training : r.trainingCount ≤ 64
  counting : r.state = .training → r.trainingCount < 64
  window : r.errorWindow.length ≤ 4
  noLoss : r.state ≠ .search → r.errorWindow.length < 4
  ages : ∀ a ∈ r.errorWindow, a < 256
  alignment : r.alignment.isSome = true ↔ r.state ≠ .search
  /-- A request frame is in progress only in ALIGNED. -/
  framed : r.frame.isSome = true → r.state = .aligned
  /-- The words of a frame in progress do not complete it. -/
  short : ∀ ws, r.frame = some ws → requestComplete ws = false

/-! ### Uplink frames (R116, R155) -/

/-- A frame as R116 and R172 frame it: at most 255 payload words, a header that carries kind and payload length, and the
check over header and payload. -/
structure WellFramed (f : UplinkFrame) : Prop where
  short : f.payload.length ≤ 255
  kind : field f.header 28 4 = f.kind.code
  length : field f.header 16 8 = f.payload.length
  check : f.check = (crc (halves (f.header :: f.payload))).setWidth 32

/-- The frame being sent is well framed and has the payload length of its kind; every formed REPLY has 1 to 65 payload words
(R116, R176). -/
structure FramesLegal (s : State) : Prop where
  sending : ∀ f, s.uplink.tx = .frame f → WellFramed f
  epochMark : ∀ f, s.uplink.tx = .frame f → f.kind = .epochMark → f.payload.length = 14
  head : ∀ f, s.uplink.tx = .frame f → f.kind = .head → f.payload.length = 51
  tail : ∀ f, s.uplink.tx = .frame f → f.kind = .tail → f.payload.length = 8
  waiting : ∀ r, s.uplink.port = some r → 1 ≤ r.payload.length ∧ r.payload.length ≤ 65
  held : ∀ r, s.control.holder = some r → 1 ≤ r.payload.length ∧ r.payload.length ≤ 65

/-! ### Answers of the control unit -/

/-- The command that executes a request of this code, if the code names a request (R175). -/
def requestOf (code : BitVec 8) : Option Instr :=
  match code.toNat with
  | 0x01 => some .readSettings
  | 0x02 => some .writeSettings
  | 0x03 => some .readPad
  | 0x04 => some .writePad
  | 0x05 => some .copyBank
  | 0x06 => some .commit
  | 0x07 => some .readStatus
  | 0x08 => some .readLinks
  | 0x09 => some .readCounters
  | 0x0A => some .clearCounters
  | 0x0B => some .queryCause
  | 0x0C => some .setLive
  | 0x0D => some .holdLink
  | 0x0E => some .releaseLink
  | 0x0F => some .forceClose
  | 0x10 => some .runRestart
  | 0x11 => some .softReset
  | _ => none

/-- The fixed payload length of a request of this code (R175); WRITE_PAD has none. -/
def payloadLength (code : BitVec 8) : Option Nat :=
  match code.toNat with
  | 0x01 | 0x03 | 0x09 | 0x0D | 0x0E => some 1
  | 0x02 => some 13
  | 0x0C => some 3
  | 0x05 | 0x06 | 0x07 | 0x08 | 0x0A | 0x0B | 0x0F | 0x10 | 0x11 => some 0
  | _ => none

/-- What an executed request leaves when nothing else of the part changes: it has left the queue, its reply with the status
word and the words that follow it stands in the reply holder, and the overrun flag is clear (R155 to R157). -/
def replied (q : Request) (rest : List Request) (st : Status) (clamped : Bool) (words : List Word32) (s : State) :
    State :=
  { s with control :=
    { s.control with
      queue := rest
      overrun := false
      holder := some ⟨q.tag, statusWord q.code s.control.overrun clamped st :: words⟩ } }

end Sys2Proof.Safety
end

