-- ==== Sys2Proof/WellFormed.lean ====
section
/-! DEFINITION. When the operands of a command spell the event that its row of the table names. `exec` does not read this
check: it gives every operand the effect that the rules give the words it stands for. -/

namespace Sys2Proof

open Sys2Proof.Machine

/-- A pad-link frame in progress: some of the data words of its kind of frame, not all of them, none out of range. -/
def FrameInProgress.wellFormed (f : FrameInProgress) : Bool :=
  match controlKind f.control, f.words with
  | .hbOpen, ws => ws.length = 0
  | .hbClose, ws => ws.length ≤ 2
  | .burst _, [] => true
  | .burst _, [start] => burstHeaderInRange [start]
  | .burst _, start :: count :: samples => burstHeaderInRange [start, count] && samples.length ≤ count.toNat
  | _, _ => false

/-- An event that is a framing error in some state of the receiver (R66). -/
def FramingEvent.wellFormed : FramingEvent → Bool
  | .strayData _ => true
  | .strayControl c => controlKind c ≠ .train && controlKind c ≠ .hbOpen
  | .cut f _ => f.wellFormed && !frameHasSample f
  | .badBurst f => (match controlKind f.control with | .burst _ => true | _ => false)
      && 1 ≤ f.words.length && f.words.length ≤ 2 && !burstHeaderInRange f.words && burstHeaderInRange f.words.dropLast

/-- The data words of a request frame in progress: not all of them. -/
def requestInProgress (ws : List Word16) : Bool := !requestComplete ws

/-- A command whose operands spell the event of its row. -/
def Instr.wellFormed : Instr → Bool
  | .codeErrorWord _ inFrame => inFrame.all FrameInProgress.wellFormed
  | .burstFrame _ _ start samples _ => start.toNat ≤ 511 && 1 ≤ samples.length && samples.length ≤ 512
  | .truncatedBurst _ _ start count samples _ =>
      burstHeaderInRange [start, count] && 1 ≤ samples.length && samples.length ≤ count.toNat
  | .framingError _ e => e.wellFormed
  | .returnLaneCodeError inFrame => inFrame.all requestInProgress
  | .returnLaneSignalLoss inFrame => inFrame.all requestInProgress
  | .requestFrame ws none => requestComplete ws
  | .requestFrame ws (some c) => requestInProgress ws && c ≠ Config.pauseWord && c ≠ Config.resumeWord
  | .trainingCountReset _ w => w ≠ .control Config.trainControl
  | .returnLaneTrainingCountReset w => w ≠ .control Config.trainControl
  | .pinReset | .alignmentFound _ _ | .trainWord _ | .signalLoss _ | .hbOpenFrame _ _ _ | .hbCloseFrame _ _ _ _ _ => true
  | .takeHbOpen | .takeBurst | .takeHbClose | .takeLoss | .takeLinkDown | .deadlineExpiry _ => true
  | .epochMarkSent | .headSent | .rowSent | .tailSent _ | .replySent _ | .trainWordSent => true
  | .returnLaneAlignmentFound _ | .returnLaneTrainWord | .pause | .resume | .replyHandover => true
  | .badRequest | .readSettings | .writeSettings | .readPad | .writePad | .copyBank | .copyBankDone | .commit => true
  | .readStatus | .readLinks | .readCounters | .clearCounters | .queryCause | .setLive | .holdLink | .releaseLink => true
  | .forceClose | .runRestart | .softReset | .runRestartTakesEffect | .softResetTakesEffect => true
  | .timebaseStep | .copyEntryMoved => true

end Sys2Proof
end

