-- ==== Sys2Proof/Certificates/Slice0/Obligations.lean ====
section
/-! DEFINITION. The statements for the provers: what the commands of the M7240 do, rule by rule, and what every run keeps. -/

open Sys2Proof Sys2Proof.Machine Sys2Proof.Safety

/-! ### The block and its queue of commands -/

/-- O1. A step is `exec` of the command at the front of the queue on the queue's rest. On an empty queue the block
idles: that clause is the model's choice (log entry 1). -/
def Obligations.FrontCommandRuns : Prop :=
  (∀ (c : Instr) (rest : List Instr) (s : State),
    step { s with pending := c :: rest } = exec c { s with pending := rest }) ∧
  ∀ s : State, s.pending = [] → step s = .next s

/-- O2. Every command completes in every state, and changes nothing in the queue of commands. That a command whose
event cannot occur leaves the state as it is, is log entry 2. -/
def Obligations.EveryCommandCompletes : Prop :=
  ∀ (c : Instr) (s : State), ∃ t, exec c s = .next t ∧ t.pending = s.pending

/-- O3. The state right after a pin reset is legal in every sense that the invariants below speak of. The reset values
that the manual does not give are log entry 14. -/
def Obligations.ResetIsLegal : Prop :=
  QueuesWithinUnits State.reset ∧ ReceiversLegal State.reset ∧ SettingsLegal State.reset ∧
  CellsStandOnce State.reset ∧ RingLegal State.reset ∧ SlotsLegal State.reset ∧ ControlLegal State.reset ∧
  LaneLegal State.reset.lane ∧ FramesLegal State.reset ∧ GeometryLegal State.reset ∧ EmissionLegal State.reset ∧
  CellsCounted State.reset ∧ cellSum State.reset = 16384

/-! ### What every step keeps -/

/-- O4. R72: every queue's fill stays between 0 and 2,048 units, and the last unit is used in drop mode only. -/
def Obligations.QueuesStayWithinUnits : Prop := KeptByStep QueuesWithinUnits

/-- O5. R59 to R62: the fields of every receiver go on agreeing with its state. That the word alignment is none in
DISABLED, HELD and SEARCH is log entry 13. -/
def Obligations.ReceiversStayLegal : Prop := KeptByStep ReceiversLegal

/-- O6. R133, R134, R138: every copy of the settings stays in range, and the copies in force keep the relations. -/
def Obligations.SettingsStayLegal : Prop := KeptByStep SettingsLegal

/-- O7. R46, R48: no cell ever stands twice, in the free list or in a pulse. -/
def Obligations.CellsStandOnceAlways : Prop := KeptByStep CellsStandOnce

/-- O8. R2, R3, R6, R113 to R115: ring, emitter and transmitter go on agreeing. That the transmitter stands at a
boundary, only while a restart waits, is log entry 6. -/
def Obligations.RingStaysLegal : Prop := KeptByStep RingLegal

/-- O9. R2, R8 to R10, R114, R119, R141 to R145: the held slots go on holding consecutive slices from the cursor, each
under the epoch and the span code of its slice, the newest heartbeat in the last of them, and a pending commit a whole
number of old slices after the cursor; and a record goes on leaving no pulse behind its row position, and none at its
TAIL. The row position is log entry 19. -/
def Obligations.EmissionStaysLegal : Prop :=
  KeptByStep fun s => RingLegal s ∧ SettingsLegal s ∧ GeometryLegal s ∧ EmissionLegal s

/-- O10. R48, R51, R52: from every state in which ring and record are legal (the invariants above), a step keeps every
slot's total of cells held equal to the number of cells that its pulses hold, and the free count and the eight totals
together at 16,384. -/
def Obligations.CellCountsStay : Prop :=
  ∀ s t : State, RingLegal s → EmissionLegal s → CellsCounted s → step s = .next t → CellsCounted t

/-- O11. R26 to R28: verdicts and margin states of every slot go on agreeing with its state. -/
def Obligations.SlotsStayLegal : Prop := KeptByStep SlotsLegal

/-- O12. R147, R151, R153, R154, R162: request queue, live settings and copy state stay within their bounds, and the
fields of the return-lane receiver go on agreeing with its state. -/
def Obligations.ControlStaysLegal : Prop := KeptByStep fun s => ControlLegal s ∧ LaneLegal s.lane

/-- O13. R116, R172, R176: every frame sent is well framed and has the payload length of its kind. -/
def Obligations.FramesStayLegal : Prop := KeptByStep FramesLegal

/-! ### Pad links (chapter 5) -/

/-- O14. An event on a pad link completes and changes its own link alone. -/
def Obligations.PadLinkEventsChangeOneLink : Prop :=
  ∀ (s : State) (l : LinkId) (c : Instr),
    (∃ pos, c = .alignmentFound l pos) ∨ c = .trainWord l ∨ (∃ w, c = .trainingCountReset l w) ∨
    (∃ f, c = .codeErrorWord l f) ∨ c = .signalLoss l ∨ (∃ low x, c = .hbOpenFrame l low x) ∨
    (∃ low x d st, c = .hbCloseFrame l low x d st) ∨ (∃ ch b ws k, c = .burstFrame l ch b ws k) ∨
    (∃ ch b n ws k, c = .truncatedBurst l ch b n ws k) ∨ (∃ e, c = .framingError l e) →
    ∃ k : Link, exec c s = .next (s.mapLink l fun _ => k)

/-- O15. R59, R61, R62, R68: a receiver in DISABLED or HELD ignores every word, and one in SEARCH every word but an
aligned TRAIN; none of them acts on loss of signal. In READY and RESYNC, TRAIN words, stray words, HB_CLOSE and BURST
frames leave the receiver in its state, enter no item, and are neither counted nor tagged. There a cut abandons the
frame before it, and a cutting HB_OPEN control word begins a new HB_OPEN frame. Every word received, alone or in a frame,
enters the error window. How the words of a frame stand in the command is log entry 5; that the signal timer shows 0
after a word, log entry 12. -/
def Obligations.FramesOutsideRunAreIgnored : Prop :=
  (∀ (s : State) (l : LinkId), (s.link l).rx.aligned = false → (s.link l).rx.frame = none →
     (∀ pos, (s.link l).rx.state ≠ .search → exec (.alignmentFound l pos) s = .next s) ∧
     exec (.trainWord l) s = .next s ∧
     (∀ w, exec (.trainingCountReset l w) s = .next s) ∧
     (∀ f, exec (.codeErrorWord l f) s = .next s) ∧
     exec (.signalLoss l) s = .next s ∧
     (∀ low x, exec (.hbOpenFrame l low x) s = .next s) ∧
     (∀ low x d st, exec (.hbCloseFrame l low x d st) s = .next s) ∧
     (∀ ch b ws k, exec (.burstFrame l ch b ws k) s = .next s) ∧
     (∀ ch b n ws k, exec (.truncatedBurst l ch b n ws k) s = .next s) ∧
     ∀ e, exec (.framingError l e) s = .next s) ∧
  (∀ (s : State) (l : LinkId) (c : Instr) (n : Nat), ReceiverLegal (s.link l).rx →
     (s.link l).rx.state = .ready ∨ (s.link l).rx.state = .resync →
     c = .trainWord l ∧ n = 1 ∨ (∃ low x d st, c = .hbCloseFrame l low x d st ∧ n = 4) ∨
     (∃ ch b ws k, c = .burstFrame l ch b ws k ∧ n = ws.length + 4) ∨
     (∃ ch b m ws k, c = .truncatedBurst l ch b m ws k ∧ n = ws.length + 4 ∧ controlKind k ≠ .hbOpen) ∨
     (∃ w, c = .framingError l (.strayData w) ∧ n = 1 ∧ (s.link l).rx.frame = none) ∨
     (∃ w, c = .framingError l (.strayControl w) ∧ n = 1 ∧ controlKind w ≠ .hbOpen) ∨
     (∃ f, c = .framingError l (.badBurst f) ∧ n = f.words.length + 1 ∧ (FramingEvent.badBurst f).wellFormed = true) →
     exec c s = .next (s.mapLink l fun k =>
       { k with rx := { k.rx with frame := none, errorWindow := ageWindow n k.rx.errorWindow, signalTimer := 0 } })) ∧
  ∀ (s : State) (l : LinkId) (next : Word16) (c : Instr) (n : Nat), ReceiverLegal (s.link l).rx →
     (s.link l).rx.state = .ready ∨ (s.link l).rx.state = .resync →
     (∃ f, c = .framingError l (.cut f next) ∧ f.wellFormed = true ∧ frameHasSample f = false ∧
       n = f.words.length + if (s.link l).rx.frame = some ⟨f.control, []⟩ then 1 else 2) ∨
     (∃ ch b m ws, c = .truncatedBurst l ch b m ws next ∧ n = ws.length + 4) ∨
     c = .framingError l (.strayControl next) ∧ n = 1 →
     exec c s = .next (s.mapLink l fun k =>
       { k with rx :=
         { k.rx with
           frame := if controlKind next = .hbOpen then some ⟨next, []⟩ else none
           errorWindow := ageWindow n k.rx.errorWindow, signalTimer := 0 } })

/-- O16. R60: how SEARCH and TRAINING take words; from SEARCH, 64 consecutive TRAIN words, the one that fixes the
alignment included, bring the receiver to READY, and fewer leave it in TRAINING. That the signal timer shows exactly 0
after each word is log entry 12. -/
def Obligations.TrainingCounts : Prop :=
  (∀ (s : State) (l : LinkId),
     (∀ pos, (s.link l).rx.state = .search →
       exec (.alignmentFound l pos) s = .next (s.mapLink l fun k =>
         { k with
           rx := { k.rx with
             state := .training, alignment := some pos, trainingCount := 1, errorWindow := [], signalTimer := 0 }
           delta := { k.delta with stateChanged := true } })) ∧
     ((s.link l).rx.state = .training → (s.link l).rx.trainingCount + 1 < 64 →
       exec (.trainWord l) s = .next (s.mapLink l fun k =>
         { k with rx := { k.rx with
             trainingCount := k.rx.trainingCount + 1
             errorWindow := ageWindow 1 k.rx.errorWindow
             signalTimer := 0 } })) ∧
     ((s.link l).rx.state = .training → (s.link l).rx.trainingCount + 1 = 64 →
       exec (.trainWord l) s = .next (s.mapLink l fun k =>
         { k with
           rx := { k.rx with
             state := .ready
             trainingCount := 64
             errorWindow := ageWindow 1 k.rx.errorWindow
             signalTimer := 0 }
           delta := { k.delta with stateChanged := true } })) ∧
     ∀ w, (s.link l).rx.state = .training → w ≠ .control 0xC5C5#16 →
       exec (.trainingCountReset l w) s = .next (s.mapLink l fun k =>
         { k with rx := { k.rx with
             trainingCount := 0
             errorWindow := ageWindow 1 k.rx.errorWindow
             signalTimer := 0 } })) ∧
  (∀ (s : State) (l : LinkId) (pos n : Nat), (s.link l).rx.state = .search → n ≤ 63 →
     ∃ t, execAll (.alignmentFound l pos :: List.replicate n (.trainWord l)) s = .next t ∧
       (t.link l).rx.state = (if n = 63 then .ready else .training) ∧
       (t.link l).rx.trainingCount = n + 1 ∧
       (t.link l).rx.alignment = some pos ∧
       (t.link l).rx.errorWindow = [] ∧
       (t.link l).delta = { (s.link l).delta with stateChanged := true } ∧
       (t.link l).counters = (s.link l).counters ∧
       (t.link l).queue = (s.link l).queue ∧
       t = { s with links := s.links.set l (t.link l) })

/-- O17. R59, R60, R62, R74: a word with a code error returns TRAINING to SEARCH without an alignment loss; in READY,
RUN and RESYNC it is counted and enters the error window, and the fourth within 256 words loses alignment. Inside a
frame, the frame's words arrive first. A loss of signal in TRAINING, READY, RUN or RESYNC is an alignment loss: the
heartbeat state is cleared, the queue flushed, and a LINK_DOWN with reason LOST entered. That the fourth error inside
a frame in RUN counts a framing error too is log entry 9; that the signal timer shows 0 after a word and 640 after a
loss of signal, log entry 12; that a discarded frame leaves the receiver skipping, and that the loss clears the
skipping flag and the word alignment, log entry 13; and that the command carries the words of the frame it interrupts,
log entry 5. In READY and RESYNC the frame is abandoned, and all that its words leave is their entry in the window. A
mark of the error window counts the words that have come after
it, and stays exactly while they are fewer than 256. -/
def Obligations.AlignmentLoss : Prop :=
  (∀ (n : Nat) (marks : List Nat),
    ageWindow n marks = (marks.filter fun a => decide (a + n < 256)).map fun a => a + n) ∧
  (∀ (s : State) (l : LinkId),
    ((s.link l).rx.state = .training →
      ∃ t, exec (.codeErrorWord l none) s = .next t ∧
        (t.link l).rx = { (s.link l).rx with state := .search, alignment := none, trainingCount := 0 } ∧
        (t.link l).delta = { (s.link l).delta with stateChanged := true } ∧
        (t.link l).counters =
          { (s.link l).counters with codeErrors := satAdd cap32 (s.link l).counters.codeErrors 1 } ∧
        (t.link l).queue = (s.link l).queue) ∧
    ((s.link l).rx.state = .ready ∨ (s.link l).rx.state = .run ∨ (s.link l).rx.state = .resync →
      (ageWindow 1 (s.link l).rx.errorWindow).length + 1 < 4 →
      ∃ t, exec (.codeErrorWord l none) s = .next t ∧
        (t.link l).rx =
          { (s.link l).rx with
            frame := none
            errorWindow := 0 :: ageWindow 1 (s.link l).rx.errorWindow, signalTimer := 0
            skipping := (s.link l).rx.skipping ||
              decide ((s.link l).rx.state = .run ∧ (s.link l).rx.frame ≠ none) } ∧
        (t.link l).delta = (s.link l).delta ∧
        (t.link l).counters =
          { (s.link l).counters with
            codeErrors := satAdd cap32 (s.link l).counters.codeErrors 1
            framingErrors :=
              if (s.link l).rx.state = .run ∧ (s.link l).rx.frame ≠ none then
                satAdd cap32 (s.link l).counters.framingErrors 1
              else (s.link l).counters.framingErrors } ∧
        (t.link l).queue = (s.link l).queue) ∧
    ((s.link l).rx.state = .ready ∨ (s.link l).rx.state = .run ∨ (s.link l).rx.state = .resync →
      4 ≤ (ageWindow 1 (s.link l).rx.errorWindow).length + 1 →
      ∃ t, exec (.codeErrorWord l none) s = .next t ∧
        (t.link l).rx =
          { (s.link l).rx with
            state := .search, alignment := none, trainingCount := 0, lastHeartbeat := none, heartbeatOpen := false
            burstsSinceOpen := 0, skipping := false, frame := none
            errorWindow := 0 :: ageWindow 1 (s.link l).rx.errorWindow, signalTimer := 0 } ∧
        (t.link l).delta = { (s.link l).delta with stateChanged := true, lost := true } ∧
        (t.link l).counters =
          { (s.link l).counters with
            codeErrors := satAdd cap32 (s.link l).counters.codeErrors 1
            framingErrors :=
              if (s.link l).rx.state = .run ∧ (s.link l).rx.frame ≠ none then
                satAdd cap32 (s.link l).counters.framingErrors 1
              else (s.link l).counters.framingErrors
            alignmentLosses := satAdd cap32 (s.link l).counters.alignmentLosses 1
            ingressDrops := satAdd cap32 (s.link l).counters.ingressDrops (s.link l).queue.items.length } ∧
        (t.link l).queue = ⟨[.linkDown .lost], false⟩) ∧
    (∀ f : FrameInProgress, ReceiverLegal (s.link l).rx →
      (s.link l).rx.state = .ready ∨ (s.link l).rx.state = .resync →
      exec (.codeErrorWord l (some f)) s = exec (.codeErrorWord l none) (s.mapLink l fun k =>
        { k with rx :=
          { k.rx with
            frame := none
            errorWindow := ageWindow
              (f.words.length + if k.rx.frame = some ⟨f.control, []⟩ then 0 else 1) k.rx.errorWindow
            signalTimer := 0 } })) ∧
    ∀ f, exec (.codeErrorWord l (some f)) s = exec (.codeErrorWord l none) (s.mapLink l (Link.receive f))) ∧
  (∀ (s : State) (l : LinkId), (s.link l).rx.aligned = true →
    ∃ t, exec (.signalLoss l) s = .next t ∧
      (t.link l).rx =
        { (s.link l).rx with
          state := .search, alignment := none, trainingCount := 0, signalTimer := 640, lastHeartbeat := none
          heartbeatOpen := false, burstsSinceOpen := 0, skipping := false, frame := none } ∧
      (t.link l).delta = { (s.link l).delta with stateChanged := true, lost := true } ∧
      (t.link l).counters =
        { (s.link l).counters with
          alignmentLosses := satAdd cap32 (s.link l).counters.alignmentLosses 1
          ingressDrops := satAdd cap32 (s.link l).counters.ingressDrops (s.link l).queue.items.length } ∧
      (t.link l).queue = ⟨[.linkDown .lost], false⟩ ∧
      t = { s with links := s.links.set l (t.link l) })

/-- O18. R61, R67, R68: an HB_OPEN frame in READY or RESYNC is offered without a sequence check, with the RESYNC tag
in RESYNC, and the receiver goes to RUN with that heartbeat open. In RUN an HB_OPEN frame first closes a heartbeat
that is open, implicitly; then the sequence check finds it normal, a gap, or a disorder. All of this holds alike where
the frame's control word has already begun it, by cutting the frame before. The words of the frame enter the error
window, and after it the receiver does not skip. How a frame's words stand in the command is log entry 5; the signal
timer is log entry 12, the skipping flag log entry 13. -/
def Obligations.HeartbeatFramesReceived : Prop :=
  (∀ (s : State) (l : LinkId) (low : BitVec 8) (x : Heartbeat),
     (s.link l).rx.state = .ready ∨ (s.link l).rx.state = .resync →
     let offered := (s.link l).offer (.hbOpen x (decide ((s.link l).rx.state = .resync)))
     let words := if (s.link l).rx.frame = some ⟨BitVec.ofNat 16 (0xA100 + low.toNat), []⟩ then 1 else 2
     ∃ t, exec (.hbOpenFrame l low x) s = .next t ∧
       (t.link l).rx =
         { (s.link l).rx with
           state := .run, lastHeartbeat := some x, heartbeatOpen := true, burstsSinceOpen := 0, frame := none
           errorWindow := ageWindow words (s.link l).rx.errorWindow, signalTimer := 0 } ∧
       (ReceiverLegal (s.link l).rx → (t.link l).rx.skipping = false) ∧
       (t.link l).delta = { (s.link l).delta with stateChanged := true } ∧
       (t.link l).queue = offered.queue ∧ (t.link l).counters = offered.counters) ∧
  (∀ (s : State) (l : LinkId) (low : BitVec 8) (x last : Heartbeat),
     (s.link l).rx.state = .run →
     (s.link l).rx.frame = none ∨ (s.link l).rx.frame = some ⟨BitVec.ofNat 16 (0xA100 + low.toNat), []⟩ →
     (s.link l).rx.lastHeartbeat = some last →
     let k : Link :=
       if (s.link l).rx.heartbeatOpen then
         ((s.link l).offer (.hbClose ⟨last, none, false, true, false, false⟩)).mapCounters fun c =>
           { c with framingErrors := satAdd cap32 c.framingErrors 1 }
       else s.link l
     let offered := k.offer (.hbOpen x false)
     let d := (x - last).toNat
     let began := (s.link l).rx.frame = none
     let rx :=
       { (s.link l).rx with
         frame := none, skipping := !decide began && (s.link l).rx.skipping
         errorWindow := ageWindow (if began then 2 else 1) (s.link l).rx.errorWindow, signalTimer := 0 }
     ∃ t, exec (.hbOpenFrame l low x) s = .next t ∧
       (ReceiverLegal (s.link l).rx → (t.link l).rx.skipping = false) ∧
       (1 ≤ d ∧ d ≤ 32767 →
         (t.link l).rx = { rx with lastHeartbeat := some x, heartbeatOpen := true, burstsSinceOpen := 0 } ∧
         (t.link l).delta = (s.link l).delta ∧
         (t.link l).queue = offered.queue ∧
         (t.link l).counters =
           { offered.counters with
             gaps := if d = 1 then k.counters.gaps else satAdd cap32 k.counters.gaps 1 }) ∧
       (d = 0 ∨ 32768 ≤ d →
         (t.link l).rx = { rx with state := .resync, heartbeatOpen := false } ∧
         (t.link l).delta = { (s.link l).delta with stateChanged := true, resync := true } ∧
         (t.link l).queue = k.queue ∧
         (t.link l).counters = { k.counters with disorders := satAdd cap32 k.counters.disorders 1 }))

/-- O19. R69: in RUN an HB_CLOSE frame is offered with its tags while a heartbeat is open, and is a framing error
otherwise, after which the receiver skips; it is taken alike where its control word has already begun it, by cutting
the frame before. The words of the frame enter the error window, and after a close offered the receiver does not skip.
How a frame's words stand in the command is log entry 5; the signal timer is log entry 12, the skipping flag log entry
13, and the framing error at the control word log entry 22. -/
def Obligations.HeartbeatClose : Prop :=
  ∀ (s : State) (l : LinkId) (low : BitVec 8) (x : Heartbeat) (declared status : Word16),
    (s.link l).rx.state = .run →
    (s.link l).rx.frame = none ∨
      (s.link l).rx.heartbeatOpen = true ∧ (s.link l).rx.frame = some ⟨BitVec.ofNat 16 (0xA200 + low.toNat), []⟩ →
    let framing : Bool := (s.link l).rx.lastHeartbeat ≠ some x
    let offered := (s.link l).offer (.hbClose
      { heartbeat := x, declared := some declared, feTruncated := status.getLsbD 0, implicit := false
        framing := framing, countMismatch := decide (declared.toNat ≠ (s.link l).rx.burstsSinceOpen) })
    let began := (s.link l).rx.frame = none
    ∃ t, exec (.hbCloseFrame l low x declared status) s = .next t ∧
      (t.link l).rx =
        { (s.link l).rx with
          frame := none, heartbeatOpen := false
          skipping := if (s.link l).rx.heartbeatOpen then !decide began && (s.link l).rx.skipping else true
          errorWindow := ageWindow (if began then 4 else 3) (s.link l).rx.errorWindow, signalTimer := 0 } ∧
      (t.link l).delta = (s.link l).delta ∧
      ((s.link l).rx.heartbeatOpen = true →
        (ReceiverLegal (s.link l).rx → (t.link l).rx.skipping = false) ∧
        (t.link l).queue = offered.queue ∧
        (t.link l).counters =
          { offered.counters with
            framingErrors := if framing then satAdd cap32 (s.link l).counters.framingErrors 1
              else (s.link l).counters.framingErrors }) ∧
      ((s.link l).rx.heartbeatOpen = false →
        (t.link l).queue = (s.link l).queue ∧ (t.link l).rx.skipping = true ∧
        (t.link l).counters =
          { (s.link l).counters with framingErrors := satAdd cap32 (s.link l).counters.framingErrors 1 })

/-- O20. R57, R58, R70, R71: in RUN a complete BURST frame is offered with the samples below bin 512 and its tags
while a heartbeat is open, and is a framing error otherwise. A burst cut by a control word after its first sample is
offered TRUNCATED with the samples received below bin 512, its check not evaluated, and the control word is taken as
the start of what follows. A burst whose control word has already begun it, by cutting the frame before, is taken
alike, and not counted a second time in the bursts since the open. The words of the frame enter the error window, and
after a burst offered the receiver does not skip. How a frame's words stand in the command is log entry 5; the signal
timer is log entry 12, the skipping flag log entry 13. -/
def Obligations.BurstFramesReceived : Prop :=
  (∀ (s : State) (l : LinkId) (channel : BitVec 8) (start : Word16) (samples : List Word16) (check : Word16),
     (s.link l).rx.state = .run →
     let begun := (s.link l).rx.frame = some ⟨BitVec.ofNat 16 (0xA400 + channel.toNat), []⟩
     (s.link l).rx.frame = none ∨ (s.link l).rx.heartbeatOpen = true ∧ begun →
     start.toNat ≤ 511 → 1 ≤ samples.length → samples.length ≤ 512 →
     let bad : Bool := crc (start :: BitVec.ofNat 16 samples.length :: samples) ≠ check
     let offered := (s.link l).offer (.burst
       { channel := channel, start := start.toNat
         samples := (samples.take (512 - start.toNat)).map fun w => BitVec.ofNat 10 w.toNat
         checkError := bad, truncated := false
         boundaryClamp := decide (512 < start.toNat + samples.length) })
     ∃ t, exec (.burstFrame l channel start samples check) s = .next t ∧
       (t.link l).rx =
         { (s.link l).rx with
           frame := none
           burstsSinceOpen := if (s.link l).rx.heartbeatOpen = true ∧ ¬ begun then
               satAdd cap16 (s.link l).rx.burstsSinceOpen 1
             else (s.link l).rx.burstsSinceOpen
           skipping := if (s.link l).rx.heartbeatOpen then decide begun && (s.link l).rx.skipping else true
           errorWindow := ageWindow (samples.length + if begun then 3 else 4) (s.link l).rx.errorWindow
           signalTimer := 0 } ∧
       (t.link l).delta = (s.link l).delta ∧
       ((s.link l).rx.heartbeatOpen = true →
         (ReceiverLegal (s.link l).rx → (t.link l).rx.skipping = false) ∧
         (t.link l).queue = offered.queue ∧
         (t.link l).counters =
           { offered.counters with
             checkErrors := if bad then satAdd cap32 (s.link l).counters.checkErrors 1
               else (s.link l).counters.checkErrors }) ∧
       ((s.link l).rx.heartbeatOpen = false →
         (t.link l).queue = (s.link l).queue ∧
         (t.link l).counters =
           { (s.link l).counters with framingErrors := satAdd cap32 (s.link l).counters.framingErrors 1 })) ∧
  (∀ (s : State) (l : LinkId) (channel : BitVec 8) (start count : Word16) (samples : List Word16) (next : Word16),
     (s.link l).rx.state = .run → (s.link l).rx.heartbeatOpen = true →
     let begun := (s.link l).rx.frame = some ⟨BitVec.ofNat 16 (0xA400 + channel.toNat), []⟩
     (s.link l).rx.frame = none ∨ begun →
     start.toNat ≤ 511 → 1 ≤ samples.length → samples.length ≤ count.toNat → count.toNat ≤ 512 →
     let offered := (s.link l).offer (.burst
       { channel := channel, start := start.toNat
         samples := (samples.take (512 - start.toNat)).map fun w => BitVec.ofNat 10 w.toNat
         checkError := false, truncated := true
         boundaryClamp := decide (512 < start.toNat + count.toNat) })
     ∃ k : Link,
       exec (.truncatedBurst l channel start count samples next) s = .next (s.mapLink l fun _ => k.beginFrame next) ∧
       k.rx =
         { (s.link l).rx with
           frame := none
           burstsSinceOpen := if begun then (s.link l).rx.burstsSinceOpen
             else satAdd cap16 (s.link l).rx.burstsSinceOpen 1
           skipping := decide begun && (s.link l).rx.skipping
           errorWindow := ageWindow (samples.length + if begun then 3 else 4) (s.link l).rx.errorWindow
           signalTimer := 0 } ∧
       k.delta = (s.link l).delta ∧ k.queue = offered.queue ∧ k.counters = offered.counters)

/-- O21. R66: each kind of framing error in RUN is counted once, enters no item, and leaves the receiver skipping;
while it skips, data words are discarded without count, up to the next control word. A control word that cuts a frame
short is then taken as the start of what follows: idle fill, a frame, or a framing error of its own. A word with a
code error inside a frame in progress is a framing error too, whether or not it is the fourth that loses alignment
(R62). A TRAIN word between frames is idle fill. A frame that its control word has already begun, by cutting the frame
before, is taken alike. Every word received enters the error window. The skipping flag is log entry 13, and that an
HB_CLOSE with no heartbeat open is a framing error at its control word, log entry 22; how a frame's words stand in the
command is log entry 5, the signal timer log entry 12, and the framing error at the fourth code error log entry 9. -/
def Obligations.FramingErrors : Prop :=
  (∀ (s : State) (l : LinkId), (s.link l).rx.state = .run → (s.link l).rx.frame = none →
     let counted := { (s.link l).counters with framingErrors := satAdd cap32 (s.link l).counters.framingErrors 1 }
     exec (.trainWord l) s = .next (s.mapLink l fun k =>
       { k with rx :=
         { k.rx with skipping := false, errorWindow := ageWindow 1 k.rx.errorWindow, signalTimer := 0 } }) ∧
     (∀ w, exec (.framingError l (.strayData w)) s = .next (s.mapLink l fun k =>
       { k with
         rx := { k.rx with skipping := true, errorWindow := ageWindow 1 k.rx.errorWindow, signalTimer := 0 }
         counters := if k.rx.skipping then k.counters else counted })) ∧
     (∀ c, controlKind c = .unknown ∨ (s.link l).rx.heartbeatOpen = false ∧
         (controlKind c = .hbClose ∨ ∃ ch, controlKind c = .burst ch) →
       exec (.framingError l (.strayControl c)) s = .next (s.mapLink l fun k =>
         { k with
           rx := { k.rx with skipping := true, errorWindow := ageWindow 1 k.rx.errorWindow, signalTimer := 0 }
           counters := counted })) ∧
     ∀ f : FrameInProgress, controlKind f.control = .hbOpen ∨ (s.link l).rx.heartbeatOpen = true →
       let bursts := match controlKind f.control with
         | .burst _ => satAdd cap16 (s.link l).rx.burstsSinceOpen 1
         | _ => (s.link l).rx.burstsSinceOpen
       (f.wellFormed = true → frameHasSample f = false →
         (∀ next : Word16, ∃ k : Link,
           exec (.framingError l (.cut f next)) s = .next (s.mapLink l fun _ => k.beginFrame next) ∧
           k.rx =
             { (s.link l).rx with
               skipping := true, frame := none, burstsSinceOpen := bursts
               errorWindow := ageWindow (f.words.length + 2) (s.link l).rx.errorWindow, signalTimer := 0 } ∧
           k.queue = (s.link l).queue ∧ k.delta = (s.link l).delta ∧ k.counters = counted) ∧
         exec (.framingError l (.cut f 0xC5C5#16)) s = .next (s.mapLink l fun k =>
           { k with
             rx :=
               { k.rx with
                 skipping := false, frame := none, burstsSinceOpen := bursts
                 errorWindow := ageWindow (f.words.length + 2) k.rx.errorWindow, signalTimer := 0 }
             counters := counted })) ∧
       ((FramingEvent.badBurst f).wellFormed = true →
         exec (.framingError l (.badBurst f)) s = .next (s.mapLink l fun k =>
           { k with
             rx :=
               { k.rx with
                 skipping := true, frame := none, burstsSinceOpen := bursts
                 errorWindow := ageWindow (f.words.length + 1) k.rx.errorWindow, signalTimer := 0 }
             counters := counted })) ∧
       (f.wellFormed = true →
         let window := 0 :: ageWindow (f.words.length + 2) (s.link l).rx.errorWindow
         ∃ t, exec (.codeErrorWord l (some f)) s = .next t ∧
           (t.link l).counters.codeErrors = satAdd cap32 (s.link l).counters.codeErrors 1 ∧
           (t.link l).counters.framingErrors = counted.framingErrors ∧
           (window.length < 4 → t = s.mapLink l fun k =>
             { k with
               rx :=
                 { k.rx with
                   skipping := true, frame := none, burstsSinceOpen := bursts
                   errorWindow := window, signalTimer := 0 }
               counters := { counted with codeErrors := satAdd cap32 k.counters.codeErrors 1 } }) ∧
           (4 ≤ window.length →
             (t.link l).rx.state = .search ∧ (t.link l).rx.skipping = false ∧ (t.link l).rx.errorWindow = window))) ∧
  (∀ (s : State) (l : LinkId) (f : FrameInProgress), (s.link l).rx.state = .run →
     (s.link l).rx.frame = some ⟨f.control, []⟩ →
     controlKind f.control = .hbOpen ∨ (s.link l).rx.heartbeatOpen = true →
     let counted := { (s.link l).counters with framingErrors := satAdd cap32 (s.link l).counters.framingErrors 1 }
     (f.wellFormed = true → frameHasSample f = false →
       ∀ next : Word16, ∃ k : Link,
         exec (.framingError l (.cut f next)) s = .next (s.mapLink l fun _ => k.beginFrame next) ∧
         k.rx =
           { (s.link l).rx with
             skipping := true, frame := none
             errorWindow := ageWindow (f.words.length + 1) (s.link l).rx.errorWindow, signalTimer := 0 } ∧
         k.queue = (s.link l).queue ∧ k.delta = (s.link l).delta ∧ k.counters = counted) ∧
     ((FramingEvent.badBurst f).wellFormed = true →
       exec (.framingError l (.badBurst f)) s = .next (s.mapLink l fun k =>
         { k with
           rx :=
             { k.rx with
               skipping := true, frame := none
               errorWindow := ageWindow f.words.length k.rx.errorWindow, signalTimer := 0 }
           counters := counted })) ∧
     (f.wellFormed = true →
       let window := 0 :: ageWindow (f.words.length + 1) (s.link l).rx.errorWindow
       ∃ t, exec (.codeErrorWord l (some f)) s = .next t ∧
         (t.link l).counters.codeErrors = satAdd cap32 (s.link l).counters.codeErrors 1 ∧
         (t.link l).counters.framingErrors = counted.framingErrors ∧
         (window.length < 4 → t = s.mapLink l fun k =>
           { k with
             rx := { k.rx with skipping := true, frame := none, errorWindow := window, signalTimer := 0 }
             counters := { counted with codeErrors := satAdd cap32 k.counters.codeErrors 1 } }) ∧
         (4 ≤ window.length →
           (t.link l).rx.state = .search ∧ (t.link l).rx.skipping = false ∧ (t.link l).rx.errorWindow = window))) ∧
  ∀ (k : Link) (c : Word16),
    (controlKind c = .train → k.beginFrame c = { k with rx := { k.rx with skipping := false } }) ∧
    (controlKind c = .hbOpen ∨ controlKind c = .hbClose ∧ k.rx.heartbeatOpen = true →
      k.beginFrame c = { k with rx := { k.rx with skipping := false, frame := some ⟨c, []⟩ } }) ∧
    ((∃ ch, controlKind c = .burst ch) → k.rx.heartbeatOpen = true →
      k.beginFrame c = { k with rx := { k.rx with
        skipping := false, frame := some ⟨c, []⟩, burstsSinceOpen := satAdd cap16 k.rx.burstsSinceOpen 1 } }) ∧
    (controlKind c = .unknown ∨
        k.rx.heartbeatOpen = false ∧ (controlKind c = .hbClose ∨ ∃ ch, controlKind c = .burst ch) →
      k.beginFrame c =
        { k with
          rx := { k.rx with skipping := true, frame := none }
          counters := { k.counters with framingErrors := satAdd cap32 k.counters.framingErrors 1 } })

/-- O22. R72, R73: admission, overflow with a LOSS into drop mode, and what drop mode does with each item offered. An
item takes one unit, and a burst of n kept samples one unit and n / 2, rounded up; the fill is the sum of the sizes.
While its head item is an HB_OPEN beyond the ring (R14, R178, R179), no command takes an item out of a queue but a
flush, a restart or a reset: the queue only grows, only an HB_OPEN that fits ends drop mode, and once the queue has
filled and overflowed it stays in drop mode, whatever is offered (the reading of section 12.4: log entry 23). -/
def Obligations.QueueAdmission : Prop :=
  (∀ (b : Burst) (c : Close) (x : Heartbeat) (resync : Bool) (reason : DownReason),
    (Item.burst b).size = 1 + b.samples.length / 2 + b.samples.length % 2 ∧ (Item.hbOpen x resync).size = 1 ∧
    (Item.hbClose c).size = 1 ∧ Item.loss.size = 1 ∧ (Item.linkDown reason).size = 1) ∧
  (∀ (it : Item) (rest : List Item) (drops : Bool),
    (Queue.mk [] drops).fill = 0 ∧ (Queue.mk (it :: rest) drops).fill = it.size + (Queue.mk rest drops).fill) ∧
  (∀ (s : State) (l : LinkId), s.headBlocked l = true ↔
    ∃ x resync rest, (s.link l).queue.items = .hbOpen x resync :: rest ∧ s.place x = .beyond) ∧
  (∀ (s t : State) (l : LinkId) (c : Instr), s.headBlocked l = true → exec c s = .next t →
    (t.link l).queue = ⟨[], false⟩ ∨ (∃ reason, (t.link l).queue = ⟨[.linkDown reason], false⟩) ∨
    (∃ more, (t.link l).queue.items = (s.link l).queue.items ++ more) ∧
      ((s.link l).queue.dropMode = true → (t.link l).queue ≠ (s.link l).queue →
        (s.link l).queue.fill + 1 ≤ 2047 ∧
        ∃ x resync, (t.link l).queue = ⟨(s.link l).queue.items ++ [.hbOpen x resync], false⟩) ∧
      ((s.link l).queue.dropMode = true → 2047 ≤ (s.link l).queue.fill → (t.link l).queue = (s.link l).queue)) ∧
  ∀ (k : Link) (it : Item),
    (k.queue.dropMode = false → k.queue.fill + it.size ≤ 2047 →
      (k.offer it).queue = ⟨k.queue.items ++ [it], false⟩ ∧
      (k.offer it).queue.fill = k.queue.fill + it.size ∧
      (k.offer it).counters =
        if it.isBurst then { k.counters with burstsAccepted := satAdd cap32 k.counters.burstsAccepted 1 }
        else k.counters) ∧
    (k.queue.dropMode = false → 2047 < k.queue.fill + it.size →
      (k.offer it).queue = ⟨k.queue.items ++ [.loss], true⟩ ∧
      (k.offer it).queue.fill = k.queue.fill + 1 ∧
      (k.offer it).counters = { k.counters with ingressDrops := satAdd cap32 k.counters.ingressDrops 1 }) ∧
    (k.queue.dropMode = true → it.isHbOpen = true → k.queue.fill + 1 ≤ 2047 →
      (k.offer it).queue = ⟨k.queue.items ++ [it], false⟩ ∧ (k.offer it).counters = k.counters) ∧
    (k.queue.dropMode = true → it.isHbOpen = false ∨ 2047 < k.queue.fill + 1 →
      (k.offer it).queue = k.queue ∧
      (k.offer it).counters = { k.counters with ingressDrops := satAdd cap32 k.counters.ingressDrops 1 }) ∧
    (k.offer it).rx = k.rx ∧ (k.offer it).delta = k.delta

/-- O23. R58: the check of any words followed by their check word is 0, so an appended check word is recognised as
matching. The check begins at 0xFFFF, and each word enters bit by bit, bit 15 first: a bit that differs from the top
bit of the check adds the polynomial 0x1021 as the check moves up by one. -/
def Obligations.CheckWordClosesTheCheck : Prop :=
  crc [] = 0xFFFF#16 ∧
  (∀ (ws : List Word16) (w : Word16),
    crc (ws ++ [w]) = [15, 14, 13, 12, 11, 10, 9, 8, 7, 6, 5, 4, 3, 2, 1, 0].foldl (fun (c : Word16) (bit : Nat) =>
      if c.getLsbD 15 = w.getLsbD bit then c <<< 1 else (c <<< 1) ^^^ 0x1021#16) (crc ws)) ∧
  ∀ (ws : List Word16) (k : Word16), crc (ws ++ [k]) = 0#16 ↔ k = crc ws

/-! ### Intake (chapters 2 and 3) -/

/-- O24. R13, R14: the arbiter selects the takeable link nearest after its pointer; a link is takeable unless its
queue is empty or its head is an HB_OPEN beyond the ring; nothing is selected while a restart waits (R25). A taking
removes the selected link's head item and moves the pointer to that link; other queues, the pad table, the settings
and the uplink stay as they are. A taking command of another kind than the head item does not occur (log entry 2). -/
def Obligations.ArbiterServesInTurn : Prop :=
  (∀ s : State,
    (s.emitter.stopping ≠ none → s.selected = none) ∧
    (s.emitter.stopping = none → ∀ l, s.selected = some l ↔
      s.takeable l = true ∧
      ∀ l', s.takeable l' = true → (l - (s.ring.arbiter + 1)).val ≤ (l' - (s.ring.arbiter + 1)).val) ∧
    ∀ l, s.takeable l = true ↔
      ∃ it rest, (s.link l).queue.items = it :: rest ∧ ∀ x resync, it = .hbOpen x resync → s.place x ≠ .beyond) ∧
  (∀ (s : State),
    (∀ l it rest, s.selected = some l → (s.link l).queue.items = it :: rest →
      (∃ t, exec (takeOf it) s = .next t ∧ t.ring.arbiter = l ∧
        (t.link l).queue = { (s.link l).queue with items := rest } ∧
        (t.link l).rx = (s.link l).rx ∧ (t.link l).delta = (s.link l).delta ∧
        (∀ l', l' ≠ l → t.link l' = s.link l') ∧
        t.padTable = s.padTable ∧ t.settings = s.settings ∧ t.uplink = s.uplink ∧ t.lane = s.lane ∧
        t.freeDraws = s.freeDraws ∧
        t.control = { s.control with sliceLoss := t.control.sliceLoss, globals := t.control.globals } ∧
        t.emitter.stopping = s.emitter.stopping ∧ t.emitter.lastEpoch = s.emitter.lastEpoch ∧
        t.ring.cursorSlot = s.ring.cursorSlot ∧ (∀ l', l' ≠ l → t.intake l' = s.intake l') ∧
        (it.isHbOpen = false → t.ring.cursor = s.ring.cursor ∧ t.ring.newest = s.ring.newest) ∧
        (it.isBurst = false →
          t.freeCells = s.freeCells ∧
          ∀ i, (s.slot i).state ≠ .free →
            (t.slot i).first = (s.slot i).first ∧ (t.slot i).span = (s.slot i).span ∧
            (t.slot i).margin = (s.slot i).margin ∧ (t.slot i).epoch = (s.slot i).epoch ∧
            (t.slot i).flags = (s.slot i).flags ∧ (t.slot i).rows = (s.slot i).rows ∧
            (t.slot i).totals = (s.slot i).totals)) ∧
      ∀ it', takeOf it' ≠ takeOf it → exec (takeOf it') s = .next s) ∧
    (s.selected = none → ∀ it, exec (takeOf it) s = .next s))

/-- O25. R8: the mapping of a heartbeat under one span code. -/
def Obligations.MappingUnderOneSpan : Prop :=
  ∀ (s : State) (fc x : Heartbeat), s.ring.cursor = some fc → s.settings.commit = none →
    let d := (x - fc).toNat
    (32768 ≤ d → s.place x = .behind) ∧
    (d < 32768 → 8 ≤ d / 2 ^ s.settings.active.span → s.place x = .beyond) ∧
    (∀ j : Fin 8, d < 32768 → d / 2 ^ s.settings.active.span = j.val →
      s.place x = .within j ∧ (s.slotAt j).val = (s.ring.cursorSlot.val + j.val) % 8) ∧
    ∀ j : Nat, (s.sliceFirst j).toNat = (fc.toNat + j * 2 ^ s.settings.active.span) % 65536

/-- O26. R9, R141, R145: with a commit pending, a heartbeat before the switch heartbeat maps by the old span code and
one at or after it by the new. The switch heartbeat is the first multiple of the larger slice length strictly after
the newest heartbeat; a heartbeat up to the newest keeps its slot when the commit becomes pending; and a release
changes no heartbeat's slot. -/
def Obligations.CommitsKeepTheMapping : Prop :=
  (∀ (s : State) (fc x : Heartbeat) (c : PendingCommit),
    s.ring.cursor = some fc → s.settings.commit = some c →
    let d := (x - fc).toNat
    let dh := (c.switchHeartbeat - fc).toNat
    let old := dh / 2 ^ c.oldSpan
    let offset := if d < dh then d / 2 ^ c.oldSpan
      else old + (x - c.switchHeartbeat).toNat / 2 ^ s.settings.active.span
    (32768 ≤ d → s.place x = .behind) ∧
    (d < 32768 → 8 ≤ offset → s.place x = .beyond) ∧
    (∀ j : Fin 8, d < 32768 → offset = j.val → s.place x = .within j) ∧
    (∀ j : Nat, j < old → (s.sliceFirst j).toNat = (fc.toNat + j * 2 ^ c.oldSpan) % 65536) ∧
    ∀ j : Nat, old ≤ j →
      (s.sliceFirst j).toNat =
        (c.switchHeartbeat.toNat + (j - old) * 2 ^ s.settings.active.span) % 65536) ∧
  ((∀ (n : Heartbeat) (a b : Nat), a ≤ 4 → b ≤ 4 →
    let h := switchAfter n a b
    h.toNat % 2 ^ max a b = 0 ∧ 1 ≤ (h - n).toNat ∧ (h - n).toNat ≤ 2 ^ max a b ∧
    ∀ y : Heartbeat, y.toNat % 2 ^ max a b = 0 → 1 ≤ (y - n).toNat → (h - n).toNat ≤ (y - n).toNat) ∧
  (∀ (s : State) (fc n x : Heartbeat) (c : PendingCommit),
    s.ring.cursor = some fc → s.settings.commit = none →
    s.settings.active.span ≤ 4 → s.settings.staging.span ≤ 4 →
    (n - fc).toNat < 128 → (x - fc).toNat ≤ (n - fc).toNat →
    c.switchHeartbeat = switchAfter n s.settings.active.span s.settings.staging.span →
    c.oldSpan = s.settings.active.span →
    State.place { s with settings := { s.settings with active := s.settings.staging, commit := some c } } x
      = s.place x) ∧
  ∀ (s : State) (c : PendingCommit) (x : Heartbeat),
    s.settings.commit = some c → s.ring.cursor = some c.switchHeartbeat → s.releaseCommit.place x = s.place x)

/-- O27. R6, R7, R10, R16: the first HB_OPEN taken with the cursor unset sets the cursor at the start of its slice,
and opens that slice in the cursor slot, with PARTIAL_START when it is not the slice's first heartbeat, and PARTIAL
for the link itself when it is waited for there (R18). It counts as late exactly when that slot does not wait for the
link afterwards. When it waits for no link, it becomes COMPLETE at once, and an IDLE emitter takes it (R28, R114). No
cause is latched and no slice counted incomplete by it (R42, R43). -/
def Obligations.CursorSetByFirstHeartbeat : Prop :=
  ∀ (s s' : State) (l : LinkId) (x : Heartbeat) (resync : Bool),
    s.beginTaking = some (l, .hbOpen x resync, s') → s.ring.cursor = none → s.settings.commit = none →
    s.settings.active.span ≤ 4 → (∀ i, (s.slot i).state = .free) →
    let fc : Heartbeat := BitVec.ofNat 16 (x.toNat - x.toNat % 2 ^ s.settings.active.span)
    ∃ t, exec .takeHbOpen s = .next t ∧
      t.ring.cursor = some fc ∧ t.ring.cursorSlot = s.ring.cursorSlot ∧ t.ring.newest = some x ∧
      t.intake l = ⟨some x, some x⟩ ∧ (∀ l', l' ≠ l → t.intake l' = s.intake l') ∧
      (t.slot s.ring.cursorSlot).state ≠ .free ∧
      (t.slot s.ring.cursorSlot).first = fc ∧
      (t.slot s.ring.cursorSlot).span = s.settings.active.span ∧
      (t.slot s.ring.cursorSlot).margin = s.settings.active.margin ∧
      (t.slot s.ring.cursorSlot).epoch = s.settings.epoch ∧
      (t.slot s.ring.cursorSlot).flags = { partialStart := decide (x ≠ fc) } ∧
      (t.slot s.ring.cursorSlot).rows = Vector.replicate 96 [] ∧
      (t.slot s.ring.cursorSlot).totals = .zero ∧
      ((t.slot s.ring.cursorSlot).state = .filling →
        (t.slot s.ring.cursorSlot).deadline = (s.openedSlot 0 false).deadline) ∧
      (let o : State := { s' with ring :=
         { s'.ring with
           cursor := some fc
           slots := s'.ring.slots.set s.ring.cursorSlot { s.openedSlot 0 false with epoch := s.settings.epoch } } }
       SlotsSettle o t) ∧ t.emitter.lastEpoch = s.emitter.lastEpoch ∧
      (∀ l', l' ≠ l → t.record s.ring.cursorSlot l' = (s.openedSlot 0 false).links[l']) ∧
      ((s.intake l).position = none →
        let r := (s.openedSlot 0 false).links[l]
        t.record s.ring.cursorSlot l =
          if r.verdict = .pending ∧ x ≠ fc then { r with flags := { r.flags with partialShare := true } } else r) ∧
      (∀ i, i ≠ s.ring.cursorSlot → t.slot i = s.slot i) ∧
      t.control = s.control ∧
      (t.link l).counters =
        { (s.link l).counters with
          lateItems :=
            if (t.slot s.ring.cursorSlot).state = .filling ∧ (t.record s.ring.cursorSlot l).verdict = .pending then
              (s.link l).counters.lateItems
            else satAdd cap32 (s.link l).counters.lateItems 1 } ∧
      t.freeCells = s.freeCells

/-- O28. R10, R11: what each field of a slot is set to as it opens, and each link's verdict and flags from its place
in the expected link set and the state of its receiver. -/
def Obligations.SlotsOpenAsTheTablesSay : Prop :=
  ∀ (s : State) (j : Nat) (starts : Bool),
    let t := s.openedSlot j starts
    let cfg := s.settings.settingsOf (s.epochAt j)
    let cut := ∃ c, s.settings.commit = some c ∧ s.sliceFirst j + BitVec.ofNat 16 (2 ^ cfg.span) = c.switchHeartbeat
    t.state = .filling ∧ t.first = s.sliceFirst j ∧ t.epoch = s.epochAt j ∧ t.span = cfg.span ∧
    (cut → t.margin = 0 ∧ t.flags = { marginCut := true, partialStart := starts }) ∧
    (¬ cut → t.margin = cfg.margin ∧ t.flags = { partialStart := starts }) ∧
    (s.control.live.timeout = 0 → t.deadline = none) ∧
    (s.control.live.timeout ≠ 0 → t.deadline = some s.control.live.timeout) ∧
    (∀ r : RowId, t.rows[r] = []) ∧ t.totals = .zero ∧
    ∀ l : LinkId,
      let r := t.links[l]
      r.closedLast = false ∧ r.margin = .notNeeded ∧ r.pulseCount = 0 ∧ r.droppedCount = 0 ∧
      (cfg.expected.getLsbD l.val = false → r.verdict = .excluded ∧ r.flags = {}) ∧
      (cfg.expected.getLsbD l.val = true →
        match (s.link l).rx.state with
        | .disabled => r.verdict = .excluded ∧ r.flags = {}
        | .held => r.verdict = .excluded ∧ r.flags = { held := true }
        | .search | .training => r.verdict = .missing ∧ r.flags = { notReady := true }
        | .ready | .run | .resync => r.verdict = .pending ∧ r.flags = {})

/-- O29. R7, R10, R12, R16 to R18: an HB_OPEN that maps into the ring opens every FREE slot up to its own when its own
is FREE, and no slot otherwise; then the heartbeats that the link skipped act on its records, or, where its intake
position is unset, this first heartbeat marks its share PARTIAL and ends its wait in the lower slots with NOT_READY.
It sets the link's intake state, moves the newest heartbeat forward, and counts as late exactly when its slot does not
wait for the link afterwards. That a newest heartbeat behind the cursor is replaced is log entry 18. An HB_OPEN behind
the cursor (R19) is counted late and sets the link's intake state, and changes nothing else. A slot that waits for no
link afterwards becomes COMPLETE, and an IDLE emitter takes it at the cursor (R28, R114). MISSING by a GAP or by
NOT_READY does not latch SLICE_LOSS (R42), and a slot completed so is not counted as incomplete (R43). -/
def Obligations.HbOpenTaken : Prop :=
  (∀ (s s' : State) (l : LinkId) (x fc : Heartbeat) (resync : Bool) (j : Fin 8),
    s.beginTaking = some (l, .hbOpen x resync, s') → s.ring.cursor = some fc → s.place x = .within j →
    ∃ o t : State, exec .takeHbOpen s = .next t ∧
      o = { s' with ring := { s'.ring with slots := o.ring.slots } } ∧
      (∀ k : Fin 8, o.slot (s.slotAt k) =
        if k ≤ j ∧ (s.slot (s.slotAt j)).state = .free ∧ (s.slot (s.slotAt k)).state = .free then
          if (s.openedSlot k.val false).hasPending then s.openedSlot k.val false
          else { s.openedSlot k.val false with state := .complete, deadline := none }
        else s.slot (s.slotAt k)) ∧
      (∀ p, (s.intake l).position = some p → ∀ i,
        t.record i l = ((skipped p x).foldl (State.skipHeartbeat l) o).record i l) ∧
      ((s.intake l).position = none → ∀ k : Fin 8,
        let i := s.slotAt k
        let r := o.record i l
        let waits := (o.slot i).state = .filling ∧ r.verdict = .pending
        t.record i l =
          if waits ∧ k = j ∧ x ≠ (o.slot i).first then { r with flags := { r.flags with partialShare := true } }
          else if waits ∧ k < j then
            { r with
              verdict := .missing
              margin := if r.margin = .awaited then .absent else r.margin
              flags := { r.flags with
                notReady := true, marginAbsent := r.flags.marginAbsent || decide (r.margin = .awaited) } }
          else r) ∧
      (∀ i l', l' ≠ l → t.record i l' = o.record i l') ∧
      (∀ i,
        (t.slot i).first = (o.slot i).first ∧ (t.slot i).span = (o.slot i).span ∧
        (t.slot i).margin = (o.slot i).margin ∧ (t.slot i).epoch = (o.slot i).epoch ∧
        (t.slot i).flags = (o.slot i).flags ∧ (t.slot i).rows = (o.slot i).rows ∧
        (t.slot i).totals = (o.slot i).totals ∧
        ((t.slot i).state = .filling ↔
          (o.slot i).state = .filling ∧ ∃ l', (t.record i l').verdict = .pending) ∧
        (t.slot i).deadline =
          (if (o.slot i).state = .filling ∧ (t.slot i).state ≠ .filling then none else (o.slot i).deadline)) ∧
      SlotsSettle o t ∧ t.emitter.lastEpoch = s.emitter.lastEpoch ∧
      ((∀ i, (s.slot i).state = .filling → (s.slot i).flags.incomplete = false) → t.control = s.control) ∧
      t.ring.cursor = some fc ∧ t.ring.cursorSlot = s.ring.cursorSlot ∧
      t.intake l = ⟨some x, some x⟩ ∧ (∀ l', l' ≠ l → t.intake l' = s.intake l') ∧
      t.ring.newest = (match s.ring.newest with
        | none => some x
        | some n =>
          if 32768 ≤ (n - fc).toNat ∨ (n - fc).toNat < (x - fc).toNat then some x else some n) ∧
      (∀ k : Fin 8, k ≤ j → (s.slot (s.slotAt j)).state = .free → (s.slot (s.slotAt k)).state = .free →
        (t.slot (s.slotAt k)).state ≠ .free ∧
        (t.slot (s.slotAt k)).first = s.sliceFirst k.val ∧ (t.slot (s.slotAt k)).epoch = s.epochAt k.val ∧
        (t.slot (s.slotAt k)).span = (s.settings.settingsOf (s.epochAt k.val)).span ∧
        (t.slot (s.slotAt k)).margin = (s.openedSlot k.val false).margin ∧
        (t.slot (s.slotAt k)).flags = (s.openedSlot k.val false).flags) ∧
      (∀ k : Fin 8, j < k ∨ (s.slot (s.slotAt j)).state ≠ .free → (s.slot (s.slotAt k)).state = .free →
        t.slot (s.slotAt k) = s.slot (s.slotAt k)) ∧
      (∀ k : Fin 8, (s.slot (s.slotAt k)).state ≠ .free →
        (t.slot (s.slotAt k)).first = (s.slot (s.slotAt k)).first ∧
        (t.slot (s.slotAt k)).rows = (s.slot (s.slotAt k)).rows ∧
        ∀ l', l' ≠ l → t.record (s.slotAt k) l' = s.record (s.slotAt k) l') ∧
      (t.link l).counters =
        { (s.link l).counters with
          lateItems :=
            if (t.slot (s.slotAt j)).state = .filling ∧ (t.record (s.slotAt j) l).verdict = .pending then
              (s.link l).counters.lateItems
            else satAdd cap32 (s.link l).counters.lateItems 1 } ∧
      t.freeCells = s.freeCells) ∧
  (∀ (s s' : State) (l : LinkId) (x fc : Heartbeat) (resync : Bool),
    s.beginTaking = some (l, .hbOpen x resync, s') → s.ring.cursor = some fc → 32768 ≤ (x - fc).toNat →
    exec .takeHbOpen s = .next ((s'.setIntake l ⟨some x, some x⟩).mapLink l fun k =>
      { k with counters := { k.counters with lateItems := satAdd cap32 k.counters.lateItems 1 } }))

/-- O30. R10, R20, R22, R29, R104, R134, R142: in which slot the own part and the margin part of a link's item in a
heartbeat apply; under which epoch a slice opens; and which settings copy and which bank serve an epoch, with and
without a pending commit. -/
def Obligations.PartsAndEpochs : Prop :=
  (∀ (s : State) (l : LinkId) (x : Heartbeat) (i : SlotId),
    (s.ownPart l x = some i ↔
      ∃ j : Fin 8, s.place x = .within j ∧ i = s.ring.cursorSlot + j ∧
        (s.slot i).state = .filling ∧ (s.record i l).verdict = .pending) ∧
    (s.marginPart l x = some i ↔
      ∃ j : Fin 8, 0 < j.val ∧ s.place x = .within j ∧ s.sliceFirst j.val = x ∧ i = s.ring.cursorSlot + (j - 1) ∧
        (s.slot i).state = .filling ∧ (s.record i l).margin = .awaited)) ∧
  (∀ (s : State) (j : Nat) (e : Epoch), s.settings.commit = none →
    s.epochAt j = s.settings.epoch ∧ s.settings.settingsOf e = s.settings.active ∧
    s.bankOf e = s.padTable.active) ∧
  (∀ (s : State) (c : PendingCommit) (fc : Heartbeat), s.settings.commit = some c → s.ring.cursor = some fc →
    (∀ j : Nat, s.epochAt j =
      if j < (c.switchHeartbeat - fc).toNat / 2 ^ c.oldSpan then c.oldEpoch else s.settings.epoch) ∧
    ((c.switchHeartbeat - fc).toNat % 2 ^ c.oldSpan = 0 → (c.switchHeartbeat - fc).toNat < 32768 →
      s.settings.active.span ≤ 4 → ∀ j : Fin 8,
      s.epochAt j.val =
        if (s.sliceFirst j.val - fc).toNat < (c.switchHeartbeat - fc).toNat then c.oldEpoch
        else s.settings.epoch) ∧
    s.settings.settingsOf c.oldEpoch = c.outgoing ∧ s.bankOf c.oldEpoch = s.padTable.active.other ∧
    ∀ e, e ≠ c.oldEpoch → s.settings.settingsOf e = s.settings.active ∧ s.bankOf e = s.padTable.active) ∧
  Bank.a.other = .b ∧ Bank.b.other = .a ∧
  ∀ t : PadTable, t.entries .a = t.bankA ∧ t.entries .b = t.bankB

/-- O31. R17: the heartbeats that a link skipped between `p` and `x` are those from `p + 1` to `x − 1`, in order, when
`x` lies 2 to 32,767 after `p`, and none otherwise; each ends the link's share of its own slot with GAP and the margin
it would have served as ABSENT. -/
def Obligations.SkippedHeartbeats : Prop :=
  (∀ p x : Heartbeat,
    let g := (x - p).toNat
    (skipped p x).length = (if 2 ≤ g ∧ g ≤ 32767 then g - 1 else 0) ∧
    ∀ (i : Nat) (y : Heartbeat), (skipped p x)[i]? = some y → y = p + 1 + BitVec.ofNat 16 i) ∧
  ∀ (s : State) (l : LinkId) (y : Heartbeat),
    let t := s.skipHeartbeat l y
    (∀ i, s.ownPart l y = some i →
      t.record i l =
        { s.record i l with
          verdict := .missing
          margin := if (s.record i l).margin = .awaited then .absent else (s.record i l).margin
          flags := { (s.record i l).flags with
            gap := true
            marginAbsent := (s.record i l).flags.marginAbsent || decide ((s.record i l).margin = .awaited) } }) ∧
    (∀ i, s.marginPart l y = some i →
      t.record i l =
        { s.record i l with
          verdict := .done
          margin := .absent
          flags := { (s.record i l).flags with marginAbsent := true } }) ∧
    ∀ i l', l' ≠ l ∨ s.ownPart l y ≠ some i ∧ s.marginPart l y ≠ some i → t.record i l' = s.record i l'

/-- O32. R20, R93, R95, R100, R101, R108, R109: a burst with no part applying is late; otherwise the checks of its
channel, its row and its mask, the suspect policy and the row filter decide in this order, each with its count, before
its pulses are filed. The entry of a channel stands at the link's number times 160 plus the channel; a row's window is
the active window that holds it, the only one in a record that passes the commit checks, and it names the curve. -/
def Obligations.BurstTaken : Prop :=
  (∀ (s s' : State) (l : LinkId) (b : Burst), s.beginTaking = some (l, .burst b, s') →
    let late := s'.mapLink l fun k =>
      { k with counters := { k.counters with lateItems := satAdd cap32 k.counters.lateItems 1 } }
    ((s.intake l).openHeartbeat = none → exec .takeBurst s = .next late) ∧
    ∀ x, (s.intake l).openHeartbeat = some x →
      (s.ownPart l x = none → s.marginPart l x = none → exec .takeBurst s = .next late) ∧
      (∃ t, exec .takeBurst s = .next t ∧
        (∀ i, s.ownPart l x ≠ some i → s.marginPart l x ≠ some i → t.slot i = s.slot i) ∧
        t.emitter = s.emitter ∧ t.ring.intake = s.ring.intake) ∧
      ∀ i, s.ownPart l x = some i ∨ s.ownPart l x = none ∧ s.marginPart l x = some i →
        let bad := s'.mapSlot i fun t => { t with totals := { t.totals with bad := satAdd cap32 t.totals.bad 1 } }
        (160 ≤ b.channel.toNat → exec .takeBurst s = .next bad) ∧
        ∀ h : b.channel.toNat < 160,
          let e := (s.padTable.entries (s.bankOf (s.slot i).epoch))[padIndex l ⟨b.channel.toNat, h⟩]
          let cfg := s.settings.settingsOf (s.slot i).epoch
          let suspect := b.checkError || b.truncated
          let marked := if suspect then
              s'.mapRecord i l fun r => { r with flags := { r.flags with checkError := true } }
            else s'
          (96 ≤ e.row.toNat → exec .takeBurst s = .next bad) ∧
          (e.row.toNat < 96 → e.masked = true →
            exec .takeBurst s = .next ((s'.mapSlot i fun t =>
                { t with totals := { t.totals with masked := satAdd cap32 t.totals.masked 1 } }).mapGlobals
              fun g => { g with maskedBursts := satAdd cap32 g.maskedBursts 1 })) ∧
          ∀ hr : e.row.toNat < 96, e.masked = false →
            (suspect = true → cfg.policy = .drop →
              exec .takeBurst s = .next (marked.mapRecord i l fun r =>
                { r with droppedCount := satAdd cap16 r.droppedCount 1 })) ∧
            (suspect = false ∨ cfg.policy = .keep →
              (cfg.windowOf e.row.toNat = none →
                let n := (pieces cfg e (conditionAll cfg e b)).length
                exec .takeBurst s = .next ((marked.mapSlot i fun t =>
                    { t with totals := { t.totals with filtered := satAdd cap32 t.totals.filtered n } }).mapGlobals
                  fun g => { g with filteredPulses := satAdd cap32 g.filteredPulses n })) ∧
              ∀ w, cfg.windowOf e.row.toNat = some w →
                exec .takeBurst s = .next (marked.filePulses
                  ⟨l, x, b.channel, e.pad, ⟨e.row.toNat, hr⟩, suspect⟩ (s.ownPart l x) (s.marginPart l x)
                  ((pieces cfg e (conditionAll cfg e b)).map
                    (formPulse (cfg.curveOf w.curve) b.start (conditionAll cfg e b)))))) ∧
  (∀ (l : LinkId) (channel : Fin 160), (padIndex l channel).val = l.val * 160 + channel.val) ∧
  ∀ (cfg : Settings),
    (∀ row : Nat,
      let holds (w : Window) : Prop := 1 ≤ w.count ∧ w.start ≤ row ∧ row < w.start + w.count
      (cfg.windowOf row = none ↔ ∀ j : Fin 8, ¬ holds cfg.windows[j]) ∧
      (∀ w, cfg.windowOf row = some w → holds w ∧ ∃ j : Fin 8, cfg.windows[j] = w) ∧
      (cfg.firstFault = none → ∀ j : Fin 8, holds cfg.windows[j] → cfg.windowOf row = some cfg.windows[j])) ∧
    cfg.curveOf .a = cfg.curveA ∧ cfg.curveOf .b = cfg.curveB

/-- O33. R47, R49, R50: a pulse of `n` codes takes `1 + ⌈n / 16⌉` cells from the head of the free list, all or none;
stored, it stands at the end of its row chain and grows the totals; dropped, it leaves the free list and every chain,
and is counted. The taking of a burst leaves the free count and the cells held totals of the eight slots with the same
sum (R48). -/
def Obligations.StoredWholeOrDropped : Prop :=
  (∀ (s : State) (i : SlotId) (row : RowId) (p : Pulse) (saturated : Nat),
    let c := 1 + (p.codes.length + 15) / 16
    let t := s.store i row p saturated
    (c ≤ s.freeCells.length →
      ∃ header codeCells, s.freeCells = header :: codeCells ++ t.freeCells ∧ 1 + codeCells.length = c ∧
        (t.slot i).rows = (s.slot i).rows.set row ((s.slot i).rows[row] ++ [⟨p, header, codeCells⟩]) ∧
        (t.slot i).totals =
          { (s.slot i).totals with
            pulses := satAdd cap32 (s.slot i).totals.pulses 1
            cellsHeld := (s.slot i).totals.cellsHeld + c
            samples := satAdd cap32 (s.slot i).totals.samples p.codes.length
            saturated := satAdd cap32 (s.slot i).totals.saturated saturated } ∧
        t.record i p.link =
          { s.record i p.link with pulseCount := satAdd cap16 (s.record i p.link).pulseCount 1 } ∧
        (t.slot i).flags = (s.slot i).flags ∧ t.control = s.control) ∧
    (s.freeCells.length < c →
      t.freeCells = s.freeCells ∧ (t.slot i).rows = (s.slot i).rows ∧
      (t.slot i).totals =
        { (s.slot i).totals with poolDrops := satAdd cap32 (s.slot i).totals.poolDrops 1 } ∧
      t.record i p.link =
        { s.record i p.link with droppedCount := satAdd cap16 (s.record i p.link).droppedCount 1 } ∧
      (t.slot i).flags = { (s.slot i).flags with poolExhausted := true } ∧
      t.control =
        { s.control with
          sliceLoss := true
          globals := { s.control.globals with poolDrops := satAdd cap32 s.control.globals.poolDrops 1 } }) ∧
    (∀ i', i' ≠ i → t.slot i' = s.slot i') ∧ (∀ l, l ≠ p.link → t.record i l = s.record i l)) ∧
  (∀ s t : State, exec .takeBurst s = .next t → cellSum t = cellSum s)

/-- O34. R21, R30, R31, R47, R97: the pulses of a burst are filed in order, each into its own slot at the bins of its
heartbeat and then, when it starts below the margin, as a copy into the receiving slot, each of the two with cells of
its own; their saturated samples are counted once. A margin copy carries the first codes of its original up to the
margin, starts after the slice's own bins and ends within the margin, and carries MARGIN, and TRIMMED when it is
shorter. A pulse of 1 to 64 codes holds 2 to 5 cells. -/
def Obligations.MarginCopies : Prop :=
  (∀ (x : BurstContext) (t : Slot) (p : FormedPulse), p.bin < t.margin →
    let q := copyPulse x t p
    q.pad = x.pad ∧ q.channel = x.channel ∧ q.link = x.link ∧
    q.start = 2 ^ t.span * 512 + p.bin ∧
    q.codes.length = min p.codes.length (t.margin - p.bin) ∧
    q.codes = (p.codes.map Code.code).take (min p.codes.length (t.margin - p.bin)) ∧
    q.start + q.codes.length ≤ 2 ^ t.span * 512 + t.margin ∧
    q.flags.margin = true ∧ q.flags.piece = p.piece ∧ q.flags.suspect = x.suspect ∧
    (q.flags.trimmed = true ↔ q.codes.length < p.codes.length) ∧
    (q.flags.saturated = true ↔
      ∃ c ∈ p.codes.take (min p.codes.length (t.margin - p.bin)), c.saturated = true)) ∧
  (∀ (x : BurstContext) (t : Slot) (p : FormedPulse),
    let q := ownPulse x t p
    q.pad = x.pad ∧ q.channel = x.channel ∧ q.link = x.link ∧
    q.start = (x.heartbeat - t.first).toNat * 512 + p.bin ∧ q.codes = p.codes.map Code.code ∧
    q.flags.margin = false ∧ q.flags.trimmed = false ∧ q.flags.piece = p.piece ∧ q.flags.suspect = x.suspect ∧
    (q.flags.saturated = true ↔ ∃ c ∈ p.codes, c.saturated = true)) ∧
  (∀ (x : BurstContext) (own receiving : Option SlotId) (s : State) (p : FormedPulse),
    let v := match own with
      | none => s
      | some i => s.store i x.row (ownPulse x (s.slot i) p) (saturatedCount p.codes)
    State.filePulse x own receiving s p = match receiving with
      | none => v
      | some i =>
        if p.bin < (v.slot i).margin then
          v.store i x.row (copyPulse x (v.slot i) p) (saturatedCount (p.codes.take ((v.slot i).margin - p.bin)))
        else v) ∧
  (∀ (x : BurstContext) (own receiving : Option SlotId) (ps : List FormedPulse) (s : State),
    let counted := satAdd cap32 s.control.globals.saturatedSamples (ps.map fun p => saturatedCount p.codes).sum
    s.filePulses x own receiving ps =
      ps.foldl (State.filePulse x own receiving)
        { s with control :=
          { s.control with globals := { s.control.globals with saturatedSamples := counted } } }) ∧
  (∀ (x : BurstContext) (i r : SlotId) (ps : List FormedPulse) (s : State), i ≠ r →
    let low := ps.filter fun p => p.bin < (s.slot r).margin
    let needed := (ps.map fun p => cellsFor p.codes.length).sum +
      (low.map fun p => cellsFor (min p.codes.length ((s.slot r).margin - p.bin))).sum
    needed ≤ s.freeCells.length →
    let t := s.filePulses x (some i) (some r) ps
    t.freeCells = s.freeCells.drop needed ∧
    ((t.slot i).rows[x.row]).map StoredPulse.pulse =
      ((s.slot i).rows[x.row]).map StoredPulse.pulse ++ ps.map (ownPulse x (s.slot i)) ∧
    ((t.slot r).rows[x.row]).map StoredPulse.pulse =
      ((s.slot r).rows[x.row]).map StoredPulse.pulse ++ low.map (copyPulse x (s.slot r)) ∧
    (∀ i', i' ≠ i → i' ≠ r → t.slot i' = s.slot i') ∧
    let counted := satAdd cap32 s.control.globals.saturatedSamples (ps.map fun p => saturatedCount p.codes).sum
    t.control = { s.control with globals := { s.control.globals with saturatedSamples := counted } }) ∧
  ∀ n, 1 ≤ n → n ≤ 64 →
    (n ≤ 16 → cellsFor n = 2) ∧ (17 ≤ n → n ≤ 32 → cellsFor n = 3) ∧
    (33 ≤ n → n ≤ 48 → cellsFor n = 4) ∧ (49 ≤ n → cellsFor n = 5)

/-- O35. R22, R28, R114: the taking of an HB_CLOSE, with its own part and its margin part; without a part it is late.
A slot that waits for no link afterwards becomes COMPLETE, and an IDLE emitter takes it at the cursor. -/
def Obligations.HbCloseTaken : Prop :=
  ∀ (s s' : State) (l : LinkId) (c : Close), s.beginTaking = some (l, .hbClose c, s') →
    ((s.intake l).openHeartbeat = none →
      exec .takeHbClose s = .next (s'.mapLink l fun k =>
        { k with counters := { k.counters with lateItems := satAdd cap32 k.counters.lateItems 1 } })) ∧
    ∀ x, (s.intake l).openHeartbeat = some x →
      ∃ t, exec .takeHbClose s = .next t ∧
        t.intake l = { s.intake l with openHeartbeat := none } ∧
        (∀ i, s.ownPart l x = some i →
          let r := s.record i l
          let last := x = (s.slot i).first + BitVec.ofNat 16 (2 ^ (s.slot i).span) - 1
          (t.record i l).flags =
            { r.flags with
              feTruncated := r.flags.feTruncated || c.feTruncated
              countMismatch := r.flags.countMismatch || c.countMismatch || c.implicit } ∧
          (t.record i l).pulseCount = r.pulseCount ∧ (t.record i l).droppedCount = r.droppedCount ∧
          (last → (s.slot i).margin = 0 →
            (t.record i l).verdict = .done ∧ (t.record i l).closedLast = true ∧
            (t.record i l).margin = r.margin) ∧
          (last → (s.slot i).margin ≠ 0 →
            (t.record i l).verdict = .pending ∧ (t.record i l).closedLast = true ∧
            (t.record i l).margin = .awaited) ∧
          (¬ last →
            (t.record i l).verdict = .pending ∧ (t.record i l).closedLast = r.closedLast ∧
            (t.record i l).margin = r.margin)) ∧
        (∀ i, s.marginPart l x = some i →
          t.record i l = { s.record i l with margin := .taken, verdict := .done }) ∧
        (∀ i l', l' ≠ l ∨ s.ownPart l x ≠ some i ∧ s.marginPart l x ≠ some i → t.record i l' = s.record i l') ∧
        (t.link l).counters =
          (if s.ownPart l x = none ∧ s.marginPart l x = none then
            { (s.link l).counters with lateItems := satAdd cap32 (s.link l).counters.lateItems 1 }
          else (s.link l).counters) ∧
        SlotsSettle s t ∧ t.emitter.lastEpoch = s.emitter.lastEpoch ∧
        ((∀ i, (s.slot i).state = .filling → (s.slot i).flags.incomplete = false) → t.control = s.control) ∧
        t.freeCells = s.freeCells

/-- O36. R23, R24, R28, R38, R114: the taking of a LOSS ends the link's share of the slot of its open heartbeat with
INGRESS_LOSS, and the margin that heartbeat would have served as ABSENT; it is never counted late, and keeps the
intake position. The taking of a LINK_DOWN settles the link in every FILLING slot that waits for it, and clears its
intake state. After either, a slot that waits for no link becomes COMPLETE, and an IDLE emitter takes it at the
cursor. -/
def Obligations.LossAndLinkDownTaken : Prop :=
  (∀ (s s' : State) (l : LinkId), s.beginTaking = some (l, .loss, s') →
     ((s.intake l).openHeartbeat = none → exec .takeLoss s = .next s') ∧
     ∀ x, (s.intake l).openHeartbeat = some x →
       ∃ t, exec .takeLoss s = .next t ∧
         t.intake l = { s.intake l with openHeartbeat := none } ∧
         (∀ i, s.ownPart l x = some i →
           t.record i l =
             { s.record i l with
               verdict := .missing
               margin := if (s.record i l).margin = .awaited then .absent else (s.record i l).margin
               flags := { (s.record i l).flags with
                 ingressLoss := true
                 marginAbsent :=
                   (s.record i l).flags.marginAbsent || decide ((s.record i l).margin = .awaited) } }) ∧
         (∀ i, s.marginPart l x = some i →
           t.record i l =
             { s.record i l with
               verdict := .done
               margin := .absent
               flags := { (s.record i l).flags with marginAbsent := true } }) ∧
         (∀ i l', l' ≠ l ∨ s.ownPart l x ≠ some i ∧ s.marginPart l x ≠ some i → t.record i l' = s.record i l') ∧
         SlotsSettle s t ∧ t.emitter.lastEpoch = s.emitter.lastEpoch ∧
         ((∀ i, (s.slot i).state = .filling → (s.slot i).flags.incomplete = false) → t.control = s.control) ∧
         (t.link l).counters = (s.link l).counters ∧ t.freeCells = s.freeCells) ∧
  (∀ (s s' : State) (l : LinkId) (reason : DownReason), s.beginTaking = some (l, .linkDown reason, s') →
     ∃ t, exec .takeLinkDown s = .next t ∧
       t.intake l = ⟨none, none⟩ ∧ (∀ l', l' ≠ l → t.intake l' = s.intake l') ∧
       (∀ i, (s.slot i).state = .filling → (s.record i l).verdict = .pending →
         let r := s.record i l
         (r.closedLast = true →
           t.record i l =
             { r with verdict := .done, margin := .absent, flags := { r.flags with marginAbsent := true } }) ∧
         (r.closedLast = false → reason = .lost →
           t.record i l = { r with verdict := .missing, flags := { r.flags with lost := true } }) ∧
         (r.closedLast = false → reason ≠ .lost →
           t.record i l = { r with verdict := .excluded, flags := { r.flags with held := true } })) ∧
       (∀ i l', l' ≠ l ∨ (s.slot i).state ≠ .filling ∨ (s.record i l).verdict ≠ .pending →
         t.record i l' = s.record i l') ∧
       SlotsSettle s t ∧ t.emitter.lastEpoch = s.emitter.lastEpoch ∧
       ((∀ i, (s.slot i).state = .filling → (s.slot i).flags.incomplete = false) → t.control = s.control) ∧
       (t.link l).counters = (s.link l).counters ∧ t.freeCells = s.freeCells)

/-- O37. R28, R34, R36, R42, R43, R114: the timebase counts every deadline of a FILLING slot down by one a step and
changes nothing else; a deadline of `n` is exhausted after `n` steps, and its expiry then gives every PENDING link of
its slot up, sets INCOMPLETE and completes the slot, latching and counting the loss. That the count stands at 0 until
the expiry is the model's choice (log entry 4), and that DEADLINE_EXPIRY of a slot that is not due leaves the state as
it is, log entry 2. When the slot given up is the cursor slot, an IDLE emitter takes it at once (R114). -/
def Obligations.DeadlinesCountDownAndExpire : Prop :=
  ((∀ s : State, ∃ t, exec .timebaseStep s = .next t ∧
    (∀ i, t.slot i =
      { s.slot i with
        deadline := if (s.slot i).state = .filling then (s.slot i).deadline.map (· - 1) else (s.slot i).deadline }) ∧
    t = { s with ring := { s.ring with slots := t.ring.slots } }) ∧
  ∀ (s : State) (i : SlotId) (n : Nat), (s.slot i).state = .filling → (s.slot i).deadline = some n →
    ∃ t, execAll (List.replicate n .timebaseStep) s = .next t ∧ t.slot i = { s.slot i with deadline := some 0 }) ∧
  (∀ (s : State) (i : SlotId), (∀ i', (s.slot i').state = .filling → (s.slot i').hasPending = true) →
    ((s.slot i).state ≠ .filling ∨ (s.slot i).deadline ≠ some 0 → exec (.deadlineExpiry i) s = .next s) ∧
    ((s.slot i).state = .filling → (s.slot i).deadline = some 0 →
      ∃ t, exec (.deadlineExpiry i) s = .next t ∧
        ((t.slot i).state = .complete ∨ (t.slot i).state = .emitting ∧ i = s.ring.cursorSlot) ∧
        SlotsSettle s t ∧ (t.slot i).deadline = none ∧ (t.slot i).flags = { (s.slot i).flags with incomplete := true } ∧
        (t.slot i).rows = (s.slot i).rows ∧ (t.slot i).totals = (s.slot i).totals ∧
        (∀ l, (s.record i l).verdict = .pending → (s.record i l).closedLast = true →
          t.record i l =
            { s.record i l with
              verdict := .done
              margin := .absent
              flags := { (s.record i l).flags with marginAbsent := true } }) ∧
        (∀ l, (s.record i l).verdict = .pending → (s.record i l).closedLast = false →
          t.record i l = { s.record i l with verdict := .missing }) ∧
        (∀ l, (s.record i l).verdict ≠ .pending → t.record i l = s.record i l) ∧
        t.control =
          { s.control with
            sliceLoss := true
            globals := { s.control.globals with
              slicesIncomplete := satAdd cap32 s.control.globals.slicesIncomplete 1 } } ∧
        (∀ i', i' ≠ i → (s.slot i').state ≠ .complete → t.slot i' = s.slot i') ∧
        (i = s.ring.cursorSlot → s.ring.cursor ≠ none → s.emitter.state = .idle → s.emitter.stopping = none →
          (t.slot i).state = .emitting ∧
          t.emitter =
            { s.emitter with
              state := if s.uplink.paused then .pausedInRecord else .record
              slot := some i
              next := some (if s.emitter.lastEpoch = some (s.slot i).epoch then .head else .epochMark)
              row := (match (s.settings.settingsOf (s.slot i).epoch).order with | .ascending => 0 | .descending => 95)
              continuation := false
              sections := 0, pulsesSent := 0, samplesSent := 0 }) ∧
        (s.ring.cursor = none ∨ s.emitter.state ≠ .idle ∨ s.emitter.stopping ≠ none →
          (t.slot i).state = .complete ∧ t.emitter = s.emitter) ∧
        t.links = s.links ∧ t.freeCells = s.freeCells ∧ t.padTable = s.padTable ∧ t.settings = s.settings ∧
        t.uplink = s.uplink ∧ t.lane = s.lane))

/-! ### Sample conditioning (chapter 6) -/

/-- O38. R83, R84: the intermediate value, its rounded quarter, the limits, that a value is marked as saturated here
exactly when its unlimited value is above 1,023, and that every raw sample of a burst has its conditioned value. -/
def Obligations.ConditionedValues : Prop :=
  (∀ (p : BitVec 12) (b : Int) (r : BitVec 10), -512 ≤ b → b ≤ 511 →
    let v : Int := 4 * r.toNat - p.toNat + b
    let u := unlimitedValue p b r
    let c := (condition p b r).value
    v ≤ 4603 ∧ -4607 ≤ v ∧ 4 * u ≤ v + 2 ∧ v + 2 < 4 * u + 4 ∧ (∀ q : Int, v = 4 * q + 2 → u = q + 1) ∧
    -1152 ≤ u ∧ u ≤ 1151 ∧ (u < 0 → c = 0) ∧ (1023 < u → c = 1023) ∧
    (0 ≤ u → u ≤ 1023 → (c : Int) = u) ∧ c ≤ 1023 ∧
    ((condition p b r).saturated = true ↔ 1023 < u)) ∧
  ∀ (cfg : Settings) (e : PadEntry) (b : Burst),
    (conditionAll cfg e b).length = b.samples.length ∧
    ∀ (i : Nat) (r : BitVec 10), b.samples[i]? = some r →
      (conditionAll cfg e b)[i]? = some (condition e.pedestal cfg.baseline r)

/-- O39. R85: the keep mask compares the limited value with the threshold, keeps every sample under nosuppress or a
threshold of 0, and a burst with an empty keep mask yields no pulse. -/
def Obligations.KeptSamples : Prop :=
  ∀ (cfg : Settings) (e : PadEntry) (cs : List Conditioned),
    (keepMask e cs).length = cs.length ∧
    (∀ (i : Nat) (c : Conditioned), cs[i]? = some c →
      (keepMask e cs)[i]? = some (e.nosuppress || decide (e.threshold.toNat ≤ c.value))) ∧
    (e.nosuppress = true ∨ e.threshold = 0 → ∀ m ∈ keepMask e cs, m = true) ∧
    (∀ (i : Nat) (c : Conditioned), cs[i]? = some c → c.value = 0 → e.nosuppress = false →
      ((keepMask e cs)[i]? = some true ↔ e.threshold = 0)) ∧
    ((∀ m ∈ keepMask e cs, m = false) → pieces cfg e cs = [])

/-- O40. R86, R87: an index is marked when a kept index lies at most the pre-samples after it or the post-samples
before it within the burst. The marked indices form maximal runs, in order; neighbouring runs separated by at most the
merge gap become one run with the gap between them, and with a merge gap of 0 no runs merge. -/
def Obligations.MarkedRuns : Prop :=
  (∀ (pre post : Nat) (kept : List Bool),
    (extend pre post kept).length = kept.length ∧
    ∀ i, (extend pre post kept)[i]? = some true ↔
      i < kept.length ∧ ∃ m : Nat, kept[m]? = some true ∧ m ≤ i + pre ∧ i ≤ m + post) ∧
  (∀ marks : List Bool,
    (∀ r : Run, r ∈ runsFrom 0 none marks ↔
      1 ≤ r.length ∧ (∀ k, k < r.length → marks[r.start + k]? = some true) ∧
      marks[r.start + r.length]? ≠ some true ∧ (r.start = 0 ∨ marks[r.start - 1]? = some false)) ∧
    (runsFrom 0 none marks).Pairwise fun r q => r.start + r.length < q.start) ∧
  ∀ (gap : Nat) (runs : List Run), (∀ r ∈ runs, 1 ≤ r.length) →
    (runs.Pairwise fun r q => r.start + r.length < q.start) →
    (∀ r ∈ mergeRuns gap runs, 1 ≤ r.length) ∧
    ((mergeRuns gap runs).Pairwise fun r q => r.start + r.length + gap < q.start) ∧
    (∀ i : Nat, (∃ r ∈ mergeRuns gap runs, r.start ≤ i ∧ i < r.start + r.length) ↔
      (∃ r ∈ runs, r.start ≤ i ∧ i < r.start + r.length) ∨
      ∃ (k : Nat) (r q : Run), runs[k]? = some r ∧ runs[k + 1]? = some q ∧
        q.start - (r.start + r.length) ≤ gap ∧ r.start + r.length ≤ i ∧ i < q.start) ∧
    (gap = 0 → mergeRuns gap runs = runs)

/-- O41. R88: a run of `L` samples is cut into ⌊L / 64⌋ pieces of 64 and a final one of the remainder; later pieces
carry PIECE; each piece is one pulse of consecutive samples, and none reaches past bin 511. -/
def Obligations.RunsAreCutIntoPieces : Prop :=
  (∀ (a L : Nat), 1 ≤ L → L ≤ 512 →
    let ps := splitRun ⟨a, L⟩
    ps.length = L / 64 + (if L % 64 = 0 then 0 else 1) ∧ (ps.map Piece.length).sum = L ∧
    ∀ (i : Nat) (p : Piece), ps[i]? = some p →
      p.start = a + 64 * i ∧ p.length = (if i < L / 64 then 64 else L % 64) ∧ (p.later = true ↔ 0 < i)) ∧
  (∀ (cfg : Settings) (e : PadEntry) (cs : List Conditioned),
    pieces cfg e cs =
      (mergeRuns cfg.mergeGap (runsFrom 0 none (extend cfg.pre cfg.post (keepMask e cs)))).flatMap splitRun) ∧
  (∀ (cfg : Settings) (e : PadEntry) (cs : List Conditioned) (p : Piece), p ∈ pieces cfg e cs →
    1 ≤ p.length ∧ p.length ≤ 64 ∧ p.start + p.length ≤ cs.length) ∧
  (∀ (v : Curve) (start : Nat) (cs : List Conditioned) (p : Piece), p.start + p.length ≤ cs.length →
    let q := formPulse v start cs p
    q.bin = start + p.start ∧ q.codes.length = p.length ∧ q.piece = p.later ∧
    ∀ i, i < p.length → q.codes[i]? = (cs[p.start + i]?).map (compress v)) ∧
  ∀ (cfg : Settings) (e : PadEntry) (b : Burst) (ps : List FormedPulse),
    b.start + b.samples.length ≤ 512 → conditionBurst cfg e b = .pulses ps →
    ps.length = (pieces cfg e (conditionAll cfg e b)).length ∧ ∀ q ∈ ps, q.bin + q.codes.length ≤ 512

/-- O42. R91, R92: a code lies in 0 to 255; the unlimited code is the conditioned value below the first knee, and
above it what the formulas of two and three segments give; under a valid curve the code does not decrease; a sample is
marked when its unlimited code is above 255, or was marked before. -/
def Obligations.CodesFollowTheCurve : Prop :=
  (∀ (v : Curve) (c : Conditioned),
    (compress v c).code ≤ 255 ∧
    (v.segments = 1 ∨ c.value < v.knee1 → unlimitedCode v c.value = c.value) ∧
    (v.segments = 2 ∨ v.segments = 3 ∧ c.value < v.knee2 → v.knee1 ≤ c.value →
      unlimitedCode v c.value = v.knee1 + (c.value - v.knee1) / 2 ^ v.shift2) ∧
    (v.segments = 3 → v.knee1 ≤ c.value → v.knee2 ≤ c.value →
      unlimitedCode v c.value =
        v.knee1 + (v.knee2 - v.knee1) / 2 ^ v.shift2 + (c.value - v.knee2) / 2 ^ v.shift3) ∧
    (255 < unlimitedCode v c.value → (compress v c).code = 255) ∧
    ((compress v c).saturated = true ↔ c.saturated = true ∨ 255 < unlimitedCode v c.value) ∧
    (unlimitedCode v c.value ≤ 255 → (compress v c).code = unlimitedCode v c.value)) ∧
  ∀ (v : Curve), CurveInRange v → v.refused = false →
    ∀ c d : Conditioned, c.value ≤ d.value → (compress v c).code ≤ (compress v d).code

/-! ### Word layouts (R177) -/

/-- O43. R135, R177: the layout of the settings record and of the pad entry; a record in range and a pad entry are
read back from the words they are written as. Thirteen words of any value are read field by field, and each field out
of its range is limited on its own to the nearest value of the range. -/
def Obligations.RecordsReadBack : Prop :=
  (∀ c : Settings, InRange c → c.words.length = 13 ∧ readSettings c.words = c ∧ c.limited = c) ∧
  (∀ c : Settings, InRange c.limited) ∧
  ∀ es : List PadEntry, readEntries (es.flatMap PadEntry.words) = es ∧
  (∀ c : Settings, InRange c →
    c.words[0]? = some (BitVec.ofNat 32 (c.margin * 2 ^ 16 + c.span)) ∧
    c.words[1]? = some (BitVec.ofNat 32 ((BitVec.ofInt 16 c.baseline).toNat * 2 ^ 16 +
      (decide (c.policy = .drop)).toNat * 2 ^ 15 + c.mergeGap * 2 ^ 8 + c.post * 2 ^ 4 + c.pre)) ∧
    (∀ (k : Nat) (v : Curve), k = 2 ∧ v = c.curveA ∨ k = 3 ∧ v = c.curveB →
      c.words[k]? = some (BitVec.ofNat 32
        (v.segments * 2 ^ 30 + v.knee1 * 2 ^ 20 + v.knee2 * 2 ^ 10 + v.shift2 * 2 ^ 3 + v.shift3))) ∧
    (∀ j : Fin 8, c.words[4 + j.val]? = some (BitVec.ofNat 32
      ((decide (c.windows[j].curve = .b)).toNat * 2 ^ 15 + c.windows[j].count * 2 ^ 8 + c.windows[j].start))) ∧
    c.words[12]? = some (BitVec.ofNat 32
      ((decide (c.order = .descending)).toNat * 2 ^ 31 + c.rowTotal * 2 ^ 24 + c.expected.toNat))) ∧
  (∀ ws : List Word32, ws.length = 13 →
    let w (k : Nat) : Nat := ((ws[k]?).getD 0).toNat
    let c := readSettings ws
    c.margin = w 0 / 2 ^ 16 ∧ c.span = w 0 % 8 ∧
    c.baseline = (BitVec.ofNat 16 (w 1 / 2 ^ 16)).toInt ∧ (c.policy = .drop ↔ w 1 / 2 ^ 15 % 2 = 1) ∧
    c.mergeGap = w 1 / 2 ^ 8 % 16 ∧ c.post = w 1 / 2 ^ 4 % 16 ∧ c.pre = w 1 % 16 ∧
    (∀ (k : Nat) (v : Curve), k = 2 ∧ v = c.curveA ∨ k = 3 ∧ v = c.curveB →
      v.segments = w k / 2 ^ 30 ∧ v.knee1 = w k / 2 ^ 20 % 1024 ∧ v.knee2 = w k / 2 ^ 10 % 1024 ∧
      v.shift2 = w k / 2 ^ 3 % 8 ∧ v.shift3 = w k % 8) ∧
    (∀ j : Fin 8, (c.windows[j].curve = .b ↔ w (4 + j.val) / 2 ^ 15 % 2 = 1) ∧
      c.windows[j].count = w (4 + j.val) / 2 ^ 8 % 128 ∧ c.windows[j].start = w (4 + j.val) % 128) ∧
    (c.order = .descending ↔ w 12 / 2 ^ 31 = 1) ∧ c.rowTotal = w 12 / 2 ^ 24 % 128 ∧
    c.expected = BitVec.ofNat 24 (w 12)) ∧
  (∀ c : Settings,
    let d := c.limited
    let knee (n : Nat) : Nat := if n = 0 then 1 else if 1022 < n then 1022 else n
    let shift (n : Nat) : Nat := if n = 0 then 1 else if 4 < n then 4 else n
    d.margin = (if 511 < c.margin then 511 else c.margin) ∧ d.span = (if 4 < c.span then 4 else c.span) ∧
    d.baseline = (if c.baseline < -512 then -512 else if 511 < c.baseline then 511 else c.baseline) ∧
    d.pre = (if 3 < c.pre then 3 else c.pre) ∧ d.post = (if 7 < c.post then 7 else c.post) ∧
    d.mergeGap = (if 3 < c.mergeGap then 3 else c.mergeGap) ∧ d.policy = c.policy ∧
    (∀ v v' : Curve, v = c.curveA ∧ v' = d.curveA ∨ v = c.curveB ∧ v' = d.curveB →
      v'.segments = (if v.segments = 0 then 1 else if 3 < v.segments then 3 else v.segments) ∧
      v'.knee1 = knee v.knee1 ∧ v'.knee2 = knee v.knee2 ∧ v'.shift2 = shift v.shift2 ∧ v'.shift3 = shift v.shift3) ∧
    (∀ j : Fin 8, d.windows[j].start = (if 95 < c.windows[j].start then 95 else c.windows[j].start) ∧
      d.windows[j].count = (if 96 < c.windows[j].count then 96 else c.windows[j].count) ∧
      d.windows[j].curve = c.windows[j].curve) ∧
    d.rowTotal = (if 96 < c.rowTotal then 96 else c.rowTotal) ∧ d.order = c.order ∧ d.expected = c.expected) ∧
  ∀ e : PadEntry, e.words =
    [BitVec.ofNat 32 (e.nosuppress.toNat * 2 ^ 28 + e.masked.toNat * 2 ^ 27 + e.row.toNat * 2 ^ 20 +
      e.threshold.toNat * 2 ^ 12 + e.pedestal.toNat), BitVec.ofNat 32 e.pad.toNat]

/-! ### Emission (chapter 8) -/

/-- O44. R117, R118, R123, R127: the end of an EPOCH_MARK sets the last emitted epoch and makes HEAD the next frame;
the end of a HEAD makes it ROW when some row chain holds a pulse, and TAIL otherwise. Ring, pool, tables and links
stay as they are. With no restart waiting each end is a frame boundary: the pause takes effect, and the arbiter
chooses. That the emitter does not pause at the boundary at which a restart is due, and that the choice then waits, is
log entry 6. -/
def Obligations.EpochMarkAndHeadSent : Prop :=
  ∀ (s : State) (i : SlotId) (f : UplinkFrame),
    (s.sending .epochMark = some (i, f) →
      ∃ t, exec .epochMarkSent s = .next t ∧
        t.emitter = { s.emitter with
          lastEpoch := some (s.slot i).epoch
          next := some .head
          state := if s.uplink.paused ∧ s.emitter.stopping = none ∧ s.emitter.state = .record then .pausedInRecord
            else s.emitter.state } ∧
        t.ring = s.ring ∧ t.freeCells = s.freeCells ∧ t.padTable = s.padTable ∧ t.settings = s.settings ∧
        t.links = s.links ∧ t.control = s.control ∧ t.lane = s.lane ∧
        let u : State := { s with emitter :=
          { s.emitter with lastEpoch := some (s.slot i).epoch, next := some .head } }
        (s.emitter.stopping = none → t = u.pauseAtBoundary.arbitrate) ∧
        (s.emitter.stopping ≠ none → t = { u with uplink := { u.uplink with tx := .boundary } })) ∧
    (s.sending .head = some (i, f) →
      ∃ t, exec .headSent s = .next t ∧
        t.emitter.lastEpoch = s.emitter.lastEpoch ∧ t.emitter.slot = some i ∧
        ((∃ r : RowId, (s.slot i).rows[r] ≠ []) → t.emitter.next = some .row) ∧
        ((∀ r : RowId, (s.slot i).rows[r] = []) → t.emitter.next = some .tail) ∧
        t.ring = s.ring ∧ t.freeCells = s.freeCells ∧ t.padTable = s.padTable ∧ t.settings = s.settings ∧
        t.links = s.links ∧ t.control = s.control ∧ t.lane = s.lane ∧
        let u : State := { s with emitter := { s.emitter with next := t.emitter.next } }
        (s.emitter.stopping = none → t = u.pauseAtBoundary.arbitrate) ∧
        (s.emitter.stopping ≠ none → t = { u with uplink := { u.uplink with tx := .boundary } }))

/-- O45. R51, R119, R120, R123, R127, R129: at the end of a ROW frame its pulses leave their chain and their cells
join the tail of the free list in order; the next frame is ROW while its row or a later one still holds pulses, and
TAIL otherwise. While a restart waits nothing is returned, and the emitter's step is the same. A ROW frame takes from the head of its chain as many whole
pulses as fit in 255 words. The row position stays, with the continuation flag set, while the frame's chain holds
pulses, so that the next ROW frame carries CONT_ROW; otherwise it moves to the next row of the order with the flag
cleared, and then, with no restart waiting, the pause takes effect and the arbiter chooses. That past the last row the
position stays is log entry 19. The boundary that waits for the restart is log entry 6, and the emitter's step with a
restart waiting log entry 7. -/
def Obligations.RowSent : Prop :=
  (∀ (s : State) (i : SlotId) (f : UplinkFrame), s.sending .row = some (i, f) → s.emitter.stopping = none →
    let row := s.emitter.row
    let chain := (s.slot i).rows[row]
    let back := (chain.take f.pulses).flatMap StoredPulse.cells
    ∃ t, exec .rowSent s = .next t ∧
      t.freeCells = s.freeCells ++ back ∧
      t.slot i =
        { s.slot i with
          rows := (s.slot i).rows.set row (chain.drop f.pulses)
          totals := { (s.slot i).totals with cellsHeld := (s.slot i).totals.cellsHeld - back.length } } ∧
      (∀ i', i' ≠ i → t.slot i' = s.slot i') ∧
      (∃ u : State, t = u.pauseAtBoundary.arbitrate ∧
        u = { s with ring := t.ring, freeCells := t.freeCells, emitter := u.emitter } ∧
        RowFrameEnds (s.orderOf i) (s.slot i) (chain.drop f.pulses) s.emitter u.emitter ∧
        t.emitter.next = u.emitter.next ∧
        (chain.drop f.pulses ≠ [] → s.emitter.state = .record → s.uplink.paused = false → s.uplink.opening = 0 →
          s.uplink.port = none →
          let ps := fitting 254 (chain.drop f.pulses)
          t.uplink = { s.uplink with tx := .frame (uplinkFrame .row u.attention (s.slot i).first
            (rowPayload (satAdd 4095 s.emitter.sections 1) true row ps) ps.length) })) ∧
      t.ring = { s.ring with slots := t.ring.slots } ∧ t.settings = s.settings ∧ t.padTable = s.padTable ∧
      t.links = s.links ∧ t.control = s.control ∧ t.lane = s.lane) ∧
  (∀ (s : State) (i : SlotId) (f : UplinkFrame), s.sending .row = some (i, f) → s.emitter.stopping ≠ none →
    ∃ t, exec .rowSent s = .next t ∧
      t = { s with emitter := t.emitter, uplink := { s.uplink with tx := .boundary } } ∧
      RowFrameEnds (s.orderOf i) (s.slot i) ((s.slot i).rows[s.emitter.row].drop f.pulses) s.emitter t.emitter) ∧
  ∀ (room : Nat) (chain : List StoredPulse),
    ∃ left, chain = fitting room chain ++ left ∧ ((fitting room chain).map pulseSize).sum ≤ room ∧
      ∀ p ps, left = p :: ps → room < ((fitting room chain).map pulseSize).sum + pulseSize p

/-- O46. R6, R7, R114, R122, R145, R160: at the end of a TAIL frame the slot is emptied, the cursor advances past its
slice, the newest heartbeat is corrected, a commit whose switch heartbeat is reached is released, with the last
emitted epoch corrected, and the emitter is IDLE or has taken the next slot: its first frame is an EPOCH_MARK when the
last emitted epoch is none or differs from the slot's, and a HEAD otherwise, its row position the first row of the
slot's row order, and its counts 0. The uplink arbiter chooses at this boundary: over the state after the taking, or,
where the boundary comes first, with no record to send. While a restart waits only the count
and the boundary remain. The boundary that waits for the restart is log entry 6; both orders of the boundary and the
taking hold (log entry 10). -/
def Obligations.TailSent : Prop :=
  ∀ (s : State) (i : SlotId) (f : UplinkFrame) (first : Bool), s.sending .tail = some (i, f) →
    let fc := (s.slot i).first + BitVec.ofNat 16 (2 ^ (s.slot i).span)
    let released := ∃ c, s.settings.commit = some c ∧ c.switchHeartbeat = fc
    let nextSlot := s.ring.cursorSlot + 1
    let counted := { s.control with globals := { s.control.globals with
      slicesEmitted := satAdd cap32 s.control.globals.slicesEmitted 1 } }
    (s.emitter.stopping ≠ none →
      exec (.tailSent first) s = .next { s with control := counted, uplink := { s.uplink with tx := .boundary } }) ∧
    (s.emitter.stopping = none →
      ∃ t, exec (.tailSent first) s = .next t ∧
        t.control = counted ∧ t.slot i = .free ∧
        t.ring.cursor = some fc ∧ t.ring.cursorSlot = s.ring.cursorSlot + 1 ∧
        t.ring.newest = (match s.ring.newest with
          | none => none
          | some n => if 32768 ≤ (n - fc).toNat then some (fc - 1) else some n) ∧
        t.ring.intake = s.ring.intake ∧ t.ring.arbiter = s.ring.arbiter ∧ t.lane = s.lane ∧
        (∀ i', i' ≠ i → i' ≠ s.ring.cursorSlot + 1 → t.slot i' = s.slot i') ∧
        (s.ring.cursorSlot + 1 ≠ i → (s.slot (s.ring.cursorSlot + 1)).state = .complete →
          t.slot (s.ring.cursorSlot + 1) = { s.slot (s.ring.cursorSlot + 1) with state := .emitting } ∧
          t.emitter.slot = some (s.ring.cursorSlot + 1) ∧ t.emitter.state ≠ .idle) ∧
        (s.ring.cursorSlot + 1 ≠ i → (s.slot (s.ring.cursorSlot + 1)).state ≠ .complete →
          t.slot (s.ring.cursorSlot + 1) = s.slot (s.ring.cursorSlot + 1) ∧
          t.emitter.slot = none ∧ t.emitter.state = .idle ∧ t.emitter.next = none) ∧
        (released →
          t.settings = { s.settings with commit := none, staging := s.settings.active } ∧
          t.padTable = { s.padTable with stale := true }) ∧
        (¬ released → t.settings = s.settings ∧ t.padTable = s.padTable) ∧
        (∀ c, s.settings.commit = some c → c.switchHeartbeat = fc →
          s.emitter.lastEpoch = some s.settings.epoch → t.emitter.lastEpoch = some c.oldEpoch) ∧
        (¬ released ∨ s.emitter.lastEpoch ≠ some s.settings.epoch →
          t.emitter.lastEpoch = s.emitter.lastEpoch) ∧
        (nextSlot ≠ i → (s.slot nextSlot).state = .complete →
          t.emitter =
            { s.emitter with
              state := if s.uplink.paused then .pausedInRecord else .record
              slot := some nextSlot
              lastEpoch := t.emitter.lastEpoch
              next := some (if t.emitter.lastEpoch = some (s.slot nextSlot).epoch then .head else .epochMark)
              row := (match (t.settings.settingsOf (s.slot nextSlot).epoch).order with
                | .ascending => 0
                | .descending => 95)
              continuation := false
              sections := 0, pulsesSent := 0, samplesSent := 0 }) ∧
        (nextSlot ≠ i → (s.slot nextSlot).state ≠ .complete →
          t.emitter =
            { s.emitter with state := .idle, slot := none, next := none, lastEpoch := t.emitter.lastEpoch }) ∧
        (first = false → t = ({ t with uplink := s.uplink } : State).arbitrate) ∧
        (first = true → s.uplink.opening = 0 → s.uplink.port = none → t.uplink = { s.uplink with tx := .train }) ∧
        (first = false → s.uplink.opening = 0 → s.uplink.port = none → s.uplink.paused = false → nextSlot ≠ i →
          (s.slot nextSlot).state = .complete →
          ∃ g, t.uplink = { s.uplink with tx := .frame g } ∧ t.emitter.next = some g.kind) ∧
        (0 < s.uplink.opening → t.uplink = { s.uplink with tx := .train }) ∧
        (s.uplink.opening = 0 → ∀ r, s.uplink.port = some r →
          t.uplink = { s.uplink with
            port := none, tx := .frame (uplinkFrame .reply t.attention r.tag r.payload 0) }) ∧
        (s.uplink.opening = 0 → s.uplink.port = none → s.uplink.paused = true ∨ t.emitter.state = .idle →
          t.uplink = { s.uplink with tx := .train }) ∧
        t.freeCells = s.freeCells ∧ t.links = s.links)

/-- O47. R123, R124, R127, R155: the ends of TRAIN words and REPLY frames are boundaries (those of record frames stand
with their frames above); the arbiter chooses a waiting REPLY, else the record's next frame, else a TRAIN word, and
TRAIN words alone in the opening run; the holder hands its reply to a free port. Both orders of the hand-over and the
choice hold (log entry 10). That REPLY_HANDOVER with nothing to hand over, or to no free port, leaves the state as it
is, is log entry 2; that the row position moves as a ROW frame is formed, log entry 19. -/
def Obligations.UplinkBoundaries : Prop :=
  ∀ s : State,
    (s.uplink.tx = .train →
      exec .trainWordSent s =
        .next { s with uplink := { s.uplink with opening := s.uplink.opening - 1 } }.pauseAtBoundary.arbitrate) ∧
    (∀ f first, s.uplink.tx = .frame f → f.kind = .reply → first = false ∨ s.control.holder = none ∨ s.uplink.port ≠ none →
      exec (.replySent first) s =
        .next { s with uplink := { s.uplink with tx := .train } }.pauseAtBoundary.arbitrate) ∧
    (∀ f r, s.uplink.tx = .frame f → f.kind = .reply → s.uplink.port = none → s.control.holder = some r →
      exec (.replySent true) s =
        .next { s with
          uplink := { s.uplink with tx := .train, port := some r }
          control := { s.control with holder := none } }.pauseAtBoundary.arbitrate) ∧
    (∀ r, s.control.holder = some r → s.uplink.port = none → (∀ f, s.uplink.tx = .frame f → f.kind ≠ .reply) →
      exec .replyHandover s =
        .next { s with
          uplink := { s.uplink with port := some r }
          control := { s.control with holder := none } }) ∧
    (s.control.holder = none ∨ s.uplink.port ≠ none ∨ (∃ f, s.uplink.tx = .frame f ∧ f.kind = .reply) →
      exec .replyHandover s = .next s) ∧
    s.pauseAtBoundary =
      (if s.uplink.paused = true ∧ s.emitter.state = .record then
        { s with emitter := { s.emitter with state := .pausedInRecord } } else s) ∧
    (0 < s.uplink.opening → s.arbitrate = { s with uplink := { s.uplink with tx := .train } }) ∧
    (s.uplink.opening = 0 → ∀ r, s.uplink.port = some r →
      s.arbitrate = { s with uplink := { s.uplink with
        port := none, tx := .frame (uplinkFrame .reply s.attention r.tag r.payload 0) } }) ∧
    (s.uplink.opening = 0 → s.uplink.port = none →
      s.emitter.state ≠ .record ∨ s.emitter.stopping ≠ none ∨ s.uplink.paused = true →
      s.arbitrate = { s with uplink := { s.uplink with tx := .train } }) ∧
    (s.uplink.opening = 0 → s.uplink.port = none → s.emitter.state = .record → s.emitter.stopping = none →
      s.uplink.paused = false → ∀ i, s.emitter.slot = some i →
      let t := s.slot i
      (s.emitter.next = some .epochMark →
        s.arbitrate = { s with uplink := { s.uplink with
          tx := .frame (uplinkFrame .epochMark s.attention (t.epoch.setWidth 16)
            (epochMarkPayload t s.emitter.lastEpoch.isNone (s.settings.settingsOf t.epoch)) 0) } }) ∧
      (s.emitter.next = some .head →
        s.arbitrate = { s with uplink := { s.uplink with
          tx := .frame (uplinkFrame .head s.attention t.first (headPayload t (s.orderOf i)) 0) } }) ∧
      (s.emitter.next = some .tail →
        s.arbitrate = { s with uplink := { s.uplink with
          tx := .frame (uplinkFrame .tail s.attention t.first (tailPayload s.emitter t.totals) 0) } }) ∧
      ∀ row, s.emitter.next = some .row → t.nextRow (s.orderOf i) s.emitter.row = some row →
        let ps := fitting 254 t.rows[row]
        let n := satAdd 4095 s.emitter.sections 1
        let continued := decide (s.emitter.row = row) && s.emitter.continuation
        s.arbitrate = { s with
          emitter := { s.emitter with
            row := row, continuation := continued, sections := n
            pulsesSent := s.emitter.pulsesSent + ps.length
            samplesSent := s.emitter.samplesSent + (ps.map fun p => p.pulse.codes.length).sum }
          uplink := { s.uplink with
            tx := .frame (uplinkFrame .row s.attention t.first (rowPayload n continued row ps) ps.length) } })

/-- O48. R116, R172 to R174: the lane words of an uplink frame, and the words of its header, its check, and the
payloads of the record frames, field by field. -/
def Obligations.UplinkFrameWords : Prop :=
  (∀ (kind : FrameKind) (attention : Bool) (kindField : Word16) (payload : List Word32) (n : Nat),
    payload.length ≤ 255 →
    let code := match kind with
      | .epochMark => 1
      | .head => 2
      | .row => 3
      | .tail => 4
      | .reply => 5
    let f := uplinkFrame kind attention kindField payload n
    f.kind = kind ∧ f.payload = payload ∧ f.pulses = n ∧
    f.header = BitVec.ofNat 32
      (code * 2 ^ 28 + attention.toNat * 2 ^ 27 + payload.length * 2 ^ 16 + kindField.toNat) ∧
    f.check = BitVec.ofNat 32 (crc (halves (f.header :: payload))).toNat ∧
    f.laneWords.length = 1 + 2 * (payload.length + 2) ∧
    f.laneWords[0]? = some (.control (BitVec.ofNat 16 (0xF000 + code))) ∧
    (∀ (k : Nat) (w : Word32), (f.header :: payload ++ [f.check])[k]? = some w →
      f.laneWords[2 * k + 1]? = some (.data (BitVec.ofNat 16 (w.toNat / 65536))) ∧
      f.laneWords[2 * k + 2]? = some (.data (BitVec.ofNat 16 w.toNat))) ∧
    (Transmitter.frame f).laneWords = f.laneWords ∧ Transmitter.train.laneWords = [.control 0xC5C5#16]) ∧
  (∀ (t : Slot) (runStart : Bool) (cfg : Settings), epochMarkPayload t runStart cfg =
    BitVec.ofNat 32 (t.first.toNat * 2 ^ 16 + runStart.toNat * 2 ^ 8 + t.epoch.toNat) :: cfg.words) ∧
  (∀ (t : Slot) (order : RowOrder), t.span ≤ 4 → t.margin ≤ 511 → t.totals.pulses < 2 ^ 24 →
    let ws := headPayload t order
    ws.length = 51 ∧
    ws[0]? = some (BitVec.ofNat 32 (t.first.toNat * 2 ^ 16 + t.epoch.toNat * 2 ^ 8 +
      (decide (order = .descending)).toNat * 2 ^ 4 + t.span)) ∧
    ws[1]? = some (BitVec.ofNat 32 (t.flags.partialStart.toNat * 2 ^ 20 + t.flags.poolExhausted.toNat * 2 ^ 19 +
      t.flags.forced.toNat * 2 ^ 18 + t.flags.marginCut.toNat * 2 ^ 17 + t.flags.incomplete.toNat * 2 ^ 16 +
      t.margin)) ∧
    ws[2]? = some (BitVec.ofNat 32 t.totals.pulses) ∧
    ∀ l : LinkId, t.links[l].pulseCount ≤ 65535 → t.links[l].droppedCount ≤ 65535 →
      let r := t.links[l]
      let verdict := match r.verdict with
        | .pending => 0
        | .done => 1
        | .missing => 2
        | .excluded => 3
      ws[3 + 2 * l.val]? = some (BitVec.ofNat 32 (r.flags.marginAbsent.toNat * 2 ^ 25 +
        r.flags.checkError.toNat * 2 ^ 24 + r.flags.countMismatch.toNat * 2 ^ 23 + r.flags.feTruncated.toNat * 2 ^ 22 +
        r.flags.partialShare.toNat * 2 ^ 21 + r.flags.held.toNat * 2 ^ 20 + r.flags.notReady.toNat * 2 ^ 19 +
        r.flags.ingressLoss.toNat * 2 ^ 18 + r.flags.lost.toNat * 2 ^ 17 + r.flags.gap.toNat * 2 ^ 16 +
        l.val * 2 ^ 8 + verdict)) ∧
      ws[4 + 2 * l.val]? = some (BitVec.ofNat 32 (r.pulseCount * 2 ^ 16 + r.droppedCount))) ∧
  (∀ (e : Emitter) (t : Totals), e.sections ≤ 4095 → tailPayload e t =
    [e.sections, e.pulsesSent, e.samplesSent, t.saturated, t.filtered, t.masked, t.poolDrops, t.bad].map
      (BitVec.ofNat 32)) ∧
  (∀ (n : Nat) (continued : Bool) (row : RowId) (ps : List StoredPulse), n ≤ 4095 → rowPayload n continued row ps =
    BitVec.ofNat 32 (n * 2 ^ 16 + continued.toNat * 2 ^ 15 + row.val) :: ps.flatMap fun p => pulseWords p.pulse) ∧
  ∀ p : Pulse, p.start < 2 ^ 14 → p.codes.length ≤ 64 → (∀ c ∈ p.codes, c ≤ 255) →
    let ws := pulseWords p
    ws.length = 2 + (p.codes.length + 3) / 4 ∧
    ws[0]? = some (BitVec.ofNat 32 (p.pad.toNat * 2 ^ 24 + p.channel.toNat * 2 ^ 16 + p.link.val * 2 ^ 8 +
      p.flags.trimmed.toNat * 16 + p.flags.saturated.toNat * 8 + p.flags.suspect.toNat * 4 +
      p.flags.piece.toNat * 2 + p.flags.margin.toNat)) ∧
    ws[1]? = some (BitVec.ofNat 32 (p.start * 2 ^ 16 + p.codes.length)) ∧
    ∀ k, k < 4 * ((p.codes.length + 3) / 4) →
      ∃ w, ws[2 + k / 4]? = some w ∧ w.toNat / 2 ^ (24 - 8 * (k % 4)) % 256 = (p.codes[k]?).getD 0

/-! ### Control lane (chapter 10) -/

/-- O49. R126, R151, R152, R153: how the return-lane receiver takes training words, code errors, loss of signal, flow
words and words between frames in each of its states; a word between frames is discarded without count, and enters the
error window. That the fourth error inside a request frame discards it once is log entry 9; how a frame's words stand
in the command is log entry 5; that the signal timer shows 0 after a word and 640 after a loss, log entry 12; and
which command carries the words between frames, log entry 20; and that it leaves the state as it is when it is given a
TRAIN word, log entry 2. -/
def Obligations.ReturnLaneWords : Prop :=
  ∀ s : State,
    (∀ ws, exec (.returnLaneCodeError (some ws)) s = exec (.returnLaneCodeError none) (s.requestWordsArrive ws)) ∧
    (∀ ws, exec (.returnLaneSignalLoss (some ws)) s = exec (.returnLaneSignalLoss none) (s.requestWordsArrive ws)) ∧
    (s.lane.frame = none → s.discardFrame = s) ∧
    (s.lane.frame ≠ none → s.discardFrame =
      { s with
        lane := { s.lane with frame := none }
        control := { s.control with globals := { s.control.globals with
          requestsDiscarded := satAdd cap32 s.control.globals.requestsDiscarded 1 } } }) ∧
    (s.lane.state = .search →
      (∀ pos, exec (.returnLaneAlignmentFound pos) s = .next { s with lane :=
        { s.lane with
          state := .training, alignment := some pos, trainingCount := 1, errorWindow := [], signalTimer := 0 } }) ∧
      exec .returnLaneTrainWord s = .next s ∧ exec .pause s = .next s ∧ exec .resume s = .next s ∧
      (∀ ws, exec (.returnLaneCodeError ws) s = .next s) ∧ (∀ ws, exec (.returnLaneSignalLoss ws) s = .next s) ∧
      ∀ w, exec (.returnLaneTrainingCountReset w) s = .next s) ∧
    exec (.returnLaneTrainingCountReset (.control 0xC5C5#16)) s = .next s ∧
    (s.lane.state = .training →
      (s.lane.trainingCount + 1 < 64 →
        exec .returnLaneTrainWord s = .next { s with lane :=
          { s.lane with
            trainingCount := s.lane.trainingCount + 1
            errorWindow := ageWindow 1 s.lane.errorWindow, signalTimer := 0 } }) ∧
      (s.lane.trainingCount + 1 = 64 →
        exec .returnLaneTrainWord s = .next { s with lane :=
          { s.lane with
            state := .aligned, trainingCount := 64
            errorWindow := ageWindow 1 s.lane.errorWindow, signalTimer := 0 } }) ∧
      (∀ c, c = .pause ∨ c = .resume ∨ (∃ w, w ≠ .control 0xC5C5#16 ∧ c = .returnLaneTrainingCountReset w) →
        exec c s = .next { s with lane :=
          { s.lane with
            trainingCount := 0, errorWindow := ageWindow 1 s.lane.errorWindow, signalTimer := 0 } }) ∧
      exec (.returnLaneCodeError none) s = .next { s with lane :=
        { s.lane with state := .search, alignment := none, trainingCount := 0, frame := none } }) ∧
    (s.lane.state = .aligned →
      (∀ paused : Bool, exec (if paused then .pause else .resume) s = .next { s with
        lane := { s.lane with errorWindow := ageWindow 1 s.lane.errorWindow, signalTimer := 0 }
        uplink := { s.uplink with paused := paused }
        emitter := { s.emitter with
          state := if paused = false ∧ s.emitter.state = .pausedInRecord then .record else s.emitter.state } }) ∧
      exec .returnLaneTrainWord s =
        .next (State.discardFrame { s with
          lane := { s.lane with errorWindow := ageWindow 1 s.lane.errorWindow, signalTimer := 0 } }) ∧
      (∀ c : Word16, c ≠ 0xC5C5#16 → c ≠ 0xE000#16 → c ≠ 0xE800#16 → c ≠ 0xE900#16 →
        exec (.returnLaneTrainingCountReset (.control c)) s = exec .returnLaneTrainWord s) ∧
      exec (.returnLaneTrainingCountReset (.control 0xE800#16)) s = exec .pause s ∧
      exec (.returnLaneTrainingCountReset (.control 0xE900#16)) s = exec .resume s ∧
      (∀ u, exec .returnLaneTrainWord s = .next u →
        exec (.returnLaneTrainingCountReset (.control 0xE000#16)) s =
          .next { u with lane := { u.lane with frame := some [] } }) ∧
      (s.lane.frame = none → ∀ d, exec (.returnLaneTrainingCountReset (.data d)) s = .next { s with
        lane := { s.lane with errorWindow := ageWindow 1 s.lane.errorWindow, signalTimer := 0 } }) ∧
      (s.lane.frame ≠ none → ∀ d,
        exec (.returnLaneTrainingCountReset (.data d)) s = exec (.requestFrame [d] none) s) ∧
      ∃ t, exec (.returnLaneCodeError none) s = .next t ∧
        t.lane.frame = none ∧
        t.lane.errorWindow = 0 :: ageWindow 1 s.lane.errorWindow ∧
        (t.lane.errorWindow.length < 4 → t.lane.state = .aligned ∧ t.lane.alignment = s.lane.alignment) ∧
        (4 ≤ t.lane.errorWindow.length →
          t.lane.state = .search ∧ t.lane.alignment = none ∧ t.lane.trainingCount = 0) ∧
        t.control.globals.requestsDiscarded =
          (if s.lane.frame = none then s.control.globals.requestsDiscarded
          else satAdd cap32 s.control.globals.requestsDiscarded 1) ∧
        t = { s with lane := t.lane, control := t.control } ∧
        t.control = { s.control with globals :=
          { s.control.globals with requestsDiscarded := t.control.globals.requestsDiscarded } }) ∧
    (s.lane.state ≠ .search →
      ∃ t, exec (.returnLaneSignalLoss none) s = .next t ∧
        t.lane =
          { s.lane with
            state := .search, alignment := none, trainingCount := 0, signalTimer := 640, frame := none } ∧
        t.control = (if s.lane.frame = none then s.control else
          { s.control with globals := { s.control.globals with
              requestsDiscarded := satAdd cap32 s.control.globals.requestsDiscarded 1 } }) ∧
        t = { s with lane := t.lane, control := t.control })

/-- O50. R153, R154, R157, R172: a complete request frame with a matching check is admitted at the tail of the queue,
or discarded with CONTROL_OVERRUN and the overrun flag when four requests stand there; one with another check, or cut
short, is discarded and counted. The words of a frame in progress are continued by those that follow. Every word
enters the error window. In SEARCH a request frame is lost without trace, and in TRAINING its words set the training
count to 0 (R151), but that a TRAIN word that cuts it counts. How a frame's words stand in the command is log entry 5,
and that the signal timer shows 0 after a word, log entry 12. -/
def Obligations.RequestFrames : Prop :=
  (∀ (s : State) (ws : List Word16) (cut : Option Word16),
    (s.lane.state = .search → exec (.requestFrame ws cut) s = .next s) ∧
    (s.lane.state = .training →
      exec (.requestFrame ws cut) s = .next { s with lane :=
        { s.lane with
          trainingCount := if cut = some 0xC5C5#16 then 1 else 0
          errorWindow := ageWindow (ws.length + if cut = none then 1 else 2) s.lane.errorWindow
          signalTimer := 0 } })) ∧
  (∀ (s : State) (before ws : List Word16) (cut : Option Word16),
    s.lane.state = .aligned → s.lane.frame = some before →
    ∃ t u, exec (.requestFrame ws cut) s = .next t ∧
      exec (.requestFrame (before ++ ws) cut) { s with lane := { s.lane with frame := none } } = .next u ∧
      t = { u with lane :=
        { u.lane with
          errorWindow := ageWindow (ws.length + if cut = none then 0 else 1) s.lane.errorWindow
          signalTimer := 0 } }) ∧
  ∀ (s : State), s.lane.state = .aligned → s.lane.frame = none →
    let discarded := satAdd cap32 s.control.globals.requestsDiscarded 1
    (∀ (code : BitVec 8) (tag : Word16) (payload : List Word32) (check : Word32), payload.length ≤ 255 →
      let header : Word32 := BitVec.ofNat 32 (code.toNat * 2 ^ 24 + payload.length * 2 ^ 16 + tag.toNat)
      let sum := crc (halves (header :: payload))
      ∃ t, exec (.requestFrame (halves (header :: payload ++ [check])) none) s = .next t ∧
        t.lane = { s.lane with
          errorWindow := ageWindow (2 * payload.length + 5) s.lane.errorWindow, signalTimer := 0 } ∧
        (BitVec.ofNat 16 check.toNat = sum → s.control.queue.length ≤ 3 →
          t.control = { s.control with queue := s.control.queue ++ [⟨code, tag, payload⟩] }) ∧
        (BitVec.ofNat 16 check.toNat = sum → 4 ≤ s.control.queue.length →
          t.control =
            { s.control with
              overrun := true, controlOverrun := true
              globals := { s.control.globals with requestsDiscarded := discarded } }) ∧
        (BitVec.ofNat 16 check.toNat ≠ sum →
          t.control = { s.control with globals := { s.control.globals with requestsDiscarded := discarded } }) ∧
        t = { s with lane := t.lane, control := t.control }) ∧
    ∀ (ws : List Word16) (c : Word16), requestInProgress ws = true → c ≠ 0xE800#16 → c ≠ 0xE900#16 →
      ∃ t, exec (.requestFrame ws (some c)) s = .next t ∧
        t.lane = { s.lane with
          frame := if c = 0xE000#16 then some [] else none
          errorWindow := ageWindow (ws.length + 2) s.lane.errorWindow, signalTimer := 0 } ∧
        t.control = { s.control with globals := { s.control.globals with requestsDiscarded := discarded } } ∧
        t = { s with lane := t.lane, control := t.control }

/-- O51. R106, R136, R158, R159, R160, R176: what the reading requests answer, field by field for READ_STATUS and
READ_LINKS; READ_LINKS clears the delta bits that it reports, and nothing else changes. -/
def Obligations.ReadingRequests : Prop :=
  ∀ (s : State) (q : Request) (rest : List Request), s.control.queue = q :: rest → s.control.holder = none →
    (q.code = 0x01#8 → ∀ w, q.payload = [w] →
      (w = 0 → exec .readSettings s = .next (replied q rest .ok false s.settings.staging.words s)) ∧
      (w = 1 → exec .readSettings s = .next (replied q rest .ok false s.settings.active.words s)) ∧
      (w ≠ 0 → w ≠ 1 → exec .readSettings s = .next (replied q rest .badArgument false [] s))) ∧
    (q.code = 0x03#8 → ∀ w : Word32, q.payload = [w] →
      let first := w.toNat % 4096
      let count := w.toNat / 65536 % 64
      let bank : Bank := if w.getLsbD 24 then .b else .a
      (count = 0 ∨ 32 < count ∨ 3839 < first ∨ 3840 < first + count →
        exec .readPad s = .next (replied q rest .badArgument false [] s)) ∧
      (1 ≤ count → count ≤ 32 → first + count ≤ 3840 →
        ∃ words, exec .readPad s = .next (replied q rest .ok false words s) ∧
          words.length = 2 * count ∧
          ∀ (k : Nat) (hk : first + k < 3840), k < count →
            (words.drop (2 * k)).take 2 = ((s.padTable.entries bank)[first + k]).words)) ∧
    (q.code = 0x07#8 → q.payload = [] →
      ∃ words, exec .readStatus s = .next (replied q rest .ok false words s) ∧ words.length = 12 ∧
        words[0]? = some (BitVec.ofNat 32 (s.ring.cursor.isSome.toNat * 2 ^ 31 + s.ring.cursorSlot.val * 2 ^ 16 +
          (s.ring.cursor.getD 0).toNat)) ∧
        words[1]? = some (BitVec.ofNat 32 (s.ring.newest.isSome.toNat * 2 ^ 31 + (s.ring.newest.getD 0).toNat)) ∧
        words[2]? = some (match s.settings.commit with
          | none => 0
          | some c => BitVec.ofNat 32 (2 ^ 31 + c.switchHeartbeat.toNat)) ∧
        (s.freeCells.length ≤ 16384 →
          words[3]? = some (BitVec.ofNat 32 (s.freeCells.length * 2 ^ 16 + s.emitter.stopping.isSome.toNat * 2 ^ 12 +
            s.uplink.paused.toNat * 2 ^ 11 + s.padTable.stale.toNat * 2 ^ 10 +
            s.padTable.copyNext.isSome.toNat * 2 ^ 9 + (decide (s.padTable.active = .b)).toNat * 2 ^ 8 +
            s.settings.epoch.toNat))) ∧
        ∀ j : Fin 8,
          let state := match (s.slot j).state with
            | .free => 0
            | .filling => 1
            | .complete => 2
            | .emitting => 3
          words[4 + j.val]? =
            some (BitVec.ofNat 32 ((s.slot j).first.toNat * 2 ^ 16 + (s.slot j).epoch.toNat * 2 ^ 8 + state))) ∧
    (q.code = 0x08#8 → q.payload = [] →
      ∃ (t : State) (words : List Word32), exec .readLinks s = .next (replied q rest .ok false words t) ∧
        words.length = 24 ∧
        (∀ l : LinkId, (s.link l).queue.fill ≤ 2048 →
          let k := s.link l
          let state := match k.rx.state with
            | .disabled => 0
            | .search => 1
            | .training => 2
            | .ready => 3
            | .run => 4
            | .resync => 5
            | .held => 6
          words[l.val]? = some (BitVec.ofNat 32 (k.queue.fill * 2 ^ 16 + k.queue.dropMode.toNat * 2 ^ 7 +
            k.delta.resync.toNat * 2 ^ 6 + k.delta.lost.toNat * 2 ^ 5 + k.delta.stateChanged.toNat * 2 ^ 4 + state))) ∧
        (∀ l, t.link l = { s.link l with delta := ⟨false, false, false⟩ }) ∧ t = { s with links := t.links }) ∧
    (q.code = 0x09#8 → ∀ w : Word32, q.payload = [w] →
      (∀ l : LinkId, w.toNat % 256 = l.val →
        let c := (s.link l).counters
        exec .readCounters s = .next (replied q rest .ok false
          ([c.codeErrors, c.alignmentLosses, c.burstsAccepted, c.checkErrors, c.framingErrors, c.gaps, c.disorders,
            c.ingressDrops, c.lateItems].map (BitVec.ofNat 32)) s)) ∧
      (w.toNat % 256 = 24 →
        let g := s.control.globals
        exec .readCounters s = .next (replied q rest .ok false
          ([g.slicesEmitted, g.slicesIncomplete, g.poolDrops, g.filteredPulses, g.maskedBursts, g.saturatedSamples,
            g.requestsDiscarded].map (BitVec.ofNat 32)) s)) ∧
      (24 < w.toNat % 256 → exec .readCounters s = .next (replied q rest .badArgument false [] s)))

/-- O52. R107, R135, R147, R148, R161: what the writing requests and the bank copy change. A WRITE_PAD with a count of
0 or above 32, a first index or a range past entry 3,839, or a payload length that does not fit its count is
BAD_ARGUMENT and writes nothing; the bits of its words that belong to no field are ignored. That COPY_BANK_DONE before
the end of the copy leaves the state as it is, is log entry 2. -/
def Obligations.WritingRequests : Prop :=
  (∀ (s : State) (q : Request) (rest : List Request), s.control.queue = q :: rest → s.control.holder = none →
    (q.code = 0x02#8 → s.settings.commit = none → q.payload.length = 13 →
      let written := readSettings q.payload
      exec .writeSettings s =
        .next (replied q rest .ok (decide (written.limited ≠ written)) []
          { s with settings := { s.settings with staging := written.limited } })) ∧
    (q.code = 0x04#8 → s.settings.commit = none → s.padTable.copyNext = none →
      ∀ (w : Word32) (es : List PadEntry), q.payload = w :: es.flatMap PadEntry.words →
      w.toNat / 65536 % 64 = es.length → 1 ≤ es.length → es.length ≤ 32 → w.toNat % 4096 + es.length ≤ 3840 →
        ∃ t, exec .writePad s = .next (replied q rest .ok false [] t) ∧
          (∀ i : Fin 3840, (t.padTable.entries s.padTable.active.other)[i] =
            (if w.toNat % 4096 ≤ i.val then
              (es[i.val - w.toNat % 4096]?).getD (s.padTable.entries s.padTable.active.other)[i]
            else (s.padTable.entries s.padTable.active.other)[i])) ∧
          t.padTable.entries s.padTable.active = s.padTable.entries s.padTable.active ∧
          t.padTable.active = s.padTable.active ∧ t.padTable.stale = s.padTable.stale ∧
          t.padTable.copyNext = none ∧ t = { s with padTable := t.padTable }) ∧
    (q.code = 0x04#8 → s.settings.commit = none → s.padTable.copyNext = none →
      (q.payload = [] → exec .writePad s = .next (replied q rest .badArgument false [] s)) ∧
      ∀ (w : Word32) (ws : List Word32), q.payload = w :: ws →
        let first := w.toNat % 4096
        let count := w.toNat / 65536 % 64
        (count = 0 ∨ 32 < count ∨ 3839 < first ∨ 3840 < first + count ∨ ws.length ≠ 2 * count →
          exec .writePad s = .next (replied q rest .badArgument false [] s)) ∧
        (1 ≤ count → count ≤ 32 → first + count ≤ 3840 → ws.length = 2 * count →
          ∃ t, exec .writePad s = .next (replied q rest .ok false [] t) ∧
            (∀ (k : Nat) (hk : first + k < 3840) (a b : Word32), ws[2 * k]? = some a → ws[2 * k + 1]? = some b →
              (t.padTable.entries s.padTable.active.other)[first + k] =
                { pedestal := BitVec.ofNat 12 a.toNat
                  threshold := BitVec.ofNat 8 (a.toNat / 2 ^ 12)
                  row := BitVec.ofNat 7 (a.toNat / 2 ^ 20)
                  pad := BitVec.ofNat 8 b.toNat
                  masked := a.getLsbD 27
                  nosuppress := a.getLsbD 28 }) ∧
            (∀ i : Fin 3840, i.val < first ∨ first + count ≤ i.val →
              (t.padTable.entries s.padTable.active.other)[i] =
                (s.padTable.entries s.padTable.active.other)[i]) ∧
            t = { s with padTable := t.padTable })) ∧
    (q.code = 0x05#8 → s.settings.commit = none → s.padTable.copyNext = none → q.payload = [] →
      exec .copyBank s =
        .next (replied q rest .ok false [] { s with padTable := { s.padTable with copyNext := some 0 } })) ∧
    (q.code = 0x0A#8 → q.payload = [] →
      ∃ t, exec .clearCounters s = .next (replied q rest .ok false [] t) ∧
        (∀ l, t.link l = { s.link l with counters := .zero }) ∧
        t = { s with links := t.links, control := { s.control with globals := .zero } })) ∧
  (∀ (s : State) (i : Fin 3840), s.padTable.copyNext = some i.val →
    ∃ t, exec .copyEntryMoved s = .next t ∧
      (∀ j : Fin 3840, (t.padTable.entries s.padTable.active.other)[j] =
        if j = i then (s.padTable.entries s.padTable.active)[i]
        else (s.padTable.entries s.padTable.active.other)[j]) ∧
      t.padTable.entries s.padTable.active = s.padTable.entries s.padTable.active ∧
      t.padTable.copyNext = some (i.val + 1) ∧ t.padTable.stale = s.padTable.stale ∧
      t.padTable.active = s.padTable.active ∧ t = { s with padTable := t.padTable }) ∧
  (∀ s : State, s.padTable.copyNext = some 0 →
    ∃ t, execAll (List.replicate 3840 .copyEntryMoved ++ [.copyBankDone]) s = .next t ∧
      t.padTable.bankA = (s.padTable.entries s.padTable.active) ∧
      t.padTable.bankB = (s.padTable.entries s.padTable.active) ∧
      t.padTable.active = s.padTable.active ∧ t.padTable.copyNext = none ∧ t.padTable.stale = false) ∧
  ∀ s : State,
    (s.padTable.copyNext = some 3840 →
      exec .copyBankDone s = .next { s with padTable := { s.padTable with copyNext := none, stale := false } }) ∧
    (s.padTable.copyNext ≠ some 3840 → exec .copyBankDone s = .next s)

/-- O53. R55, R63, R76, R162, R175: SET_LIVE writes the five live settings, limits the low-water level, and disables
or enables the links whose membership changes. That a disabled receiver has no word alignment is log entry 13. -/
def Obligations.SetLiveWritesTheLiveSettings : Prop :=
  ∀ (s : State) (q : Request) (rest : List Request) (a b c : Word32),
    s.control.queue = q :: rest → s.control.holder = none → q.code = 0x0C#8 → q.payload = [a, b, c] →
    let live : Live :=
      { enable := BitVec.ofNat 24 a.toNat
        congestion := BitVec.ofNat 2 (a.toNat / 2 ^ 28)
        lowWater := min 16383 (b.toNat % 65536)
        timeout := b.toNat / 65536
        causeMask := BitVec.ofNat 6 c.toNat }
    ∃ t, exec .setLive s = .next (replied q rest .ok (decide (16383 < b.toNat % 65536)) [] t) ∧
      t = { s with links := t.links, control := { s.control with live := live } } ∧
      ∀ l : LinkId,
        let was := s.control.live.enable.getLsbD l.val
        let is := live.enable.getLsbD l.val
        (was = is → t.link l = s.link l) ∧
        (was = true → is = false →
          ((s.link l).rx.state = .held ∨ (s.link l).rx.state = .disabled → t.link l = s.link l) ∧
          ((s.link l).rx.state ≠ .held → (s.link l).rx.state ≠ .disabled →
            (t.link l).rx.state = .disabled ∧ (t.link l).rx.alignment = none ∧ (t.link l).rx.frame = none ∧
            (t.link l).rx.trainingCount = 0 ∧ (t.link l).rx.lastHeartbeat = none ∧
            (t.link l).rx.heartbeatOpen = false ∧ (t.link l).rx.burstsSinceOpen = 0 ∧
            (t.link l).delta = { (s.link l).delta with stateChanged := true } ∧
            (t.link l).queue = ⟨[.linkDown .disabled], false⟩ ∧
            (t.link l).counters =
              { (s.link l).counters with
                ingressDrops :=
                  satAdd cap32 (s.link l).counters.ingressDrops (s.link l).queue.items.length })) ∧
        (was = false → is = true →
          ((s.link l).rx.state = .disabled →
            t.link l =
              { s.link l with
                rx := { (s.link l).rx with state := .search }
                delta := { (s.link l).delta with stateChanged := true } }) ∧
          ((s.link l).rx.state ≠ .disabled → t.link l = s.link l))

/-- O54. R138 to R141, R143, R145: a COMMIT with a failing check is replied REJECTED with the first failing check and
latches CONFIG_REJECT (no active window, a window out of range, overlapping windows, a wrong row total, a refused
curve, in this order); with the cursor unset it is applied at once; otherwise it becomes pending at the switch
heartbeat, or is released at once there, with the last emitted epoch corrected. A slot whose margin it cuts may
complete by that, and an IDLE emitter then takes the cursor slot (R114). -/
def Obligations.CommitOutcomes : Prop :=
  (∀ (s : State) (q : Request) (rest : List Request), s.control.queue = q :: rest → s.control.holder = none →
     q.code = 0x06#8 → q.payload = [] → s.settings.commit = none → s.padTable.copyNext = none →
     let epoch := s.settings.epoch + 1
     (∀ f, s.settings.staging.firstFault = some f →
       exec .commit s = .next (replied q rest .rejected false [BitVec.ofNat 32 f.code]
         { s with control := { s.control with configReject := some f } })) ∧
     (s.settings.staging.firstFault = none → s.ring.cursor = none →
       exec .commit s = .next (replied q rest .ok false [BitVec.ofNat 32 epoch.toNat]
         { s with
           settings := { s.settings with active := s.settings.staging, epoch := epoch }
           padTable := { s.padTable with active := s.padTable.active.other, stale := true } })) ∧
     ∀ fc n, s.settings.staging.firstFault = none → s.ring.cursor = some fc → s.ring.newest = some n →
       let h := switchAfter n s.settings.active.span s.settings.staging.span
       ∃ t, exec .commit s = .next (replied q rest .ok false
           [BitVec.ofNat 32 (h.toNat * 65536 + 256 + epoch.toNat)] t) ∧
         t.settings.epoch = epoch ∧ t.settings.active = s.settings.staging ∧ t.settings.staging = s.settings.staging ∧
         t.padTable.active = s.padTable.active.other ∧
         t.padTable.bankA = s.padTable.bankA ∧ t.padTable.bankB = s.padTable.bankB ∧
         (h = fc → t.settings.commit = none ∧ t.padTable.stale = true) ∧
         (h ≠ fc →
           t.settings.commit = some
             { switchHeartbeat := h, oldSpan := s.settings.active.span, oldEpoch := s.settings.epoch
               outgoing := s.settings.active } ∧
           t.padTable.stale = s.padTable.stale) ∧
         (∀ (i : SlotId) (j : Fin 8), i = s.slotAt j → (s.slot i).state ≠ .free →
           let cut := (h - fc).toNat / 2 ^ s.settings.active.span = j.val + 1
           (t.slot i).first = (s.slot i).first ∧ (t.slot i).epoch = (s.slot i).epoch ∧
           (t.slot i).rows = (s.slot i).rows ∧
           (cut → (t.slot i).margin = 0 ∧ (t.slot i).flags = { (s.slot i).flags with marginCut := true }) ∧
           (¬ cut → (t.slot i).margin = (s.slot i).margin ∧ (t.slot i).flags = (s.slot i).flags) ∧
           ∀ l, t.record i l =
             if cut ∧ (s.slot i).state = .filling ∧ (s.record i l).margin = .awaited then
               { s.record i l with verdict := .done, margin := .notNeeded }
             else s.record i l) ∧
         t.ring.cursor = some fc ∧ t.ring.newest = some n ∧ t.ring.cursorSlot = s.ring.cursorSlot ∧
         t.ring.intake = s.ring.intake ∧ t.links = s.links ∧ t.freeCells = s.freeCells ∧ t.uplink = s.uplink ∧
         t.lane = s.lane ∧
         SlotsSettle s t ∧
         (h = fc → s.emitter.lastEpoch = some epoch → t.emitter.lastEpoch = some s.settings.epoch) ∧
         (h ≠ fc ∨ s.emitter.lastEpoch ≠ some epoch → t.emitter.lastEpoch = s.emitter.lastEpoch) ∧
         t.control = { s.control with sliceLoss := t.control.sliceLoss, globals := t.control.globals }) ∧
  (∀ c : Settings,
    let holds (j : Fin 8) (row : Nat) : Prop := c.windows[j].start ≤ row ∧ row < c.windows[j].start + c.windows[j].count
    let refused (v : Curve) : Prop := v.segments = 3 ∧ (v.knee2 ≤ v.knee1 ∨ v.shift3 < v.shift2)
    let noWindow := ∀ j : Fin 8, c.windows[j].count = 0
    let range := ∃ j : Fin 8, 1 ≤ c.windows[j].count ∧ 96 < c.windows[j].start + c.windows[j].count
    let overlap := ∃ j k : Fin 8, j ≠ k ∧ ∃ row, holds j row ∧ holds k row
    let total := ((List.finRange 8).map fun j => c.windows[j].count).sum ≠ c.rowTotal
    let curve := refused c.curveA ∨ refused c.curveB
    (c.firstFault = some .noWindow ↔ noWindow) ∧
    (c.firstFault = some .windowRange ↔ ¬ noWindow ∧ range) ∧
    (c.firstFault = some .windowOverlap ↔ ¬ noWindow ∧ ¬ range ∧ overlap) ∧
    (c.firstFault = some .windowTotal ↔ ¬ noWindow ∧ ¬ range ∧ ¬ overlap ∧ total) ∧
    (c.firstFault = some .curve ↔ ¬ noWindow ∧ ¬ range ∧ ¬ overlap ∧ ¬ total ∧ curve)) ∧
  [CommitFault.noWindow, .windowRange, .windowOverlap, .windowTotal, .curve].map CommitFault.code = [1, 2, 3, 4, 5]

/-- O55. R64: HOLD_LINK and RELEASE_LINK, for every state of the receiver and every link number. That a held receiver
has no word alignment is log entry 13. -/
def Obligations.HoldAndRelease : Prop :=
  ∀ (s : State) (q : Request) (rest : List Request) (w : Word32),
    s.control.queue = q :: rest → s.control.holder = none → q.payload = [w] →
    (q.code = 0x0D#8 →
      (23 < w.toNat % 256 → exec .holdLink s = .next (replied q rest .badArgument false [] s)) ∧
      ∀ l : LinkId, w.toNat % 256 = l.val →
        ∃ t, exec .holdLink s = .next (replied q rest .ok false [] t) ∧
          t = { s with links := s.links.set l (t.link l) } ∧
          ((s.link l).rx.state = .held → t.link l = s.link l) ∧
          ((s.link l).rx.state ≠ .held →
            (t.link l).rx.state = .held ∧ (t.link l).rx.alignment = none ∧ (t.link l).rx.frame = none ∧
            (t.link l).rx.trainingCount = 0 ∧ (t.link l).rx.lastHeartbeat = none ∧
            (t.link l).rx.heartbeatOpen = false ∧ (t.link l).rx.burstsSinceOpen = 0 ∧
            (t.link l).delta = { (s.link l).delta with stateChanged := true } ∧
            (t.link l).queue = ⟨[.linkDown .held], false⟩ ∧
            (t.link l).counters =
              { (s.link l).counters with
                ingressDrops :=
                  satAdd cap32 (s.link l).counters.ingressDrops (s.link l).queue.items.length })) ∧
    (q.code = 0x0E#8 →
      (23 < w.toNat % 256 → exec .releaseLink s = .next (replied q rest .badArgument false [] s)) ∧
      ∀ l : LinkId, w.toNat % 256 = l.val →
        ∃ t, exec .releaseLink s = .next (replied q rest .ok false [] t) ∧
          t = { s with links := s.links.set l (t.link l) } ∧
          ((s.link l).rx.state ≠ .held → t.link l = s.link l) ∧
          ((s.link l).rx.state = .held →
            t.link l =
              { s.link l with
                rx := { (s.link l).rx with
                  state := if s.control.live.enable.getLsbD l.val then .search else .disabled }
                delta := { (s.link l).delta with stateChanged := true } }))

/-- O56. R28, R37, R114, R163: FORCE_CLOSE gives up the oldest FILLING slot, sets FORCED and INCOMPLETE, completes it
and reports its first heartbeat; with no FILLING slot it is replied NONE and changes nothing. An IDLE emitter takes
the slot at once when it is the cursor slot. -/
def Obligations.ForceCloseGivesUpTheOldestSlot : Prop :=
  ∀ (s : State) (q : Request) (rest : List Request),
    s.control.queue = q :: rest → s.control.holder = none → q.code = 0x0F#8 → q.payload = [] →
    (∀ i, (s.slot i).state = .filling → (s.slot i).hasPending = true) →
    ((∀ i, (s.slot i).state ≠ .filling) → exec .forceClose s = .next (replied q rest .none false [] s)) ∧
    ∀ j : Fin 8, (s.slot (s.slotAt j)).state = .filling →
      (∀ k : Fin 8, k < j → (s.slot (s.slotAt k)).state ≠ .filling) →
      let i := s.slotAt j
      ∃ t, exec .forceClose s =
          .next (replied q rest .ok false [BitVec.ofNat 32 (s.slot i).first.toNat] t) ∧
        ((t.slot i).state = .complete ∨ (t.slot i).state = .emitting ∧ j = 0) ∧
        SlotsSettle s t ∧ t.emitter.lastEpoch = s.emitter.lastEpoch ∧ (t.slot i).deadline = none ∧
        (t.slot i).flags = { (s.slot i).flags with incomplete := true, forced := true } ∧
        (t.slot i).rows = (s.slot i).rows ∧
        (∀ l, (s.record i l).verdict = .pending → (s.record i l).closedLast = true →
          t.record i l =
            { s.record i l with
              verdict := .done
              margin := .absent
              flags := { (s.record i l).flags with marginAbsent := true } }) ∧
        (∀ l, (s.record i l).verdict = .pending → (s.record i l).closedLast = false →
          t.record i l = { s.record i l with verdict := .missing }) ∧
        (∀ l, (s.record i l).verdict ≠ .pending → t.record i l = s.record i l) ∧
        t.control =
          { s.control with
            sliceLoss := true
            globals := { s.control.globals with
              slicesIncomplete := satAdd cap32 s.control.globals.slicesIncomplete 1 } } ∧
        (∀ i', i' ≠ i → (s.slot i').state ≠ .complete → t.slot i' = s.slot i') ∧
        t.links = s.links ∧ t.freeCells = s.freeCells ∧ t.padTable = s.padTable ∧ t.settings = s.settings ∧
        t.uplink = s.uplink ∧ t.lane = s.lane

/-- O57. R128, R167, R168, R176: QUERY_CAUSE answers the enabled pending cause of highest priority with its detail and
the set of all pending causes, and clears a latched cause that it returns; with none it answers NONE, and its detail
field is a free value (log entry 3). When each cause is pending and enabled, what its detail is, and that a header's
attention flag shows whether an enabled cause is pending. That the set is the one before the clearing is log entry 8.
-/
def Obligations.QueryCauseReturnsTheTopCause : Prop :=
  (∀ (s : State) (q : Request) (rest : List Request),
    s.control.queue = q :: rest → s.control.holder = none → q.code = 0x0B#8 → q.payload = [] →
    (∀ c : Cause, s.isEnabled c = true → s.isPending c = true →
      (∀ d : Cause, d.priority < c.priority → s.isEnabled d = true → s.isPending d = false) →
      ∃ word, exec .queryCause s =
          .next (replied q rest .ok false [word] { s with control :=
            { s.control with
              configReject := if c = .configReject then none else s.control.configReject
              sliceLoss := if c = .sliceLoss then false else s.control.sliceLoss
              controlOverrun := if c = .controlOverrun then false else s.control.controlOverrun } }) ∧
        word.toNat % 8 = c.priority ∧
        (∀ d : Cause, word.getLsbD (7 + d.priority) = s.isPending d) ∧
        word.toNat / 65536 = s.causeDetail c % 65536) ∧
    ((∀ c : Cause, s.isEnabled c = true → s.isPending c = false) →
      ∃ word, exec .queryCause s =
          .next (replied q rest .none false [word] { s with freeDraws := s.freeDraws + 1 }) ∧
        word.toNat % 8 = 0 ∧
        (∀ d : Cause, word.getLsbD (7 + d.priority) = s.isPending d) ∧
        word.toNat / 65536 = (Config.noCauseDetail s.freeDraws).toNat)) ∧
  ∀ s : State,
    (s.isPending .linkChange = true ↔
      ∃ l, (s.link l).delta.stateChanged = true ∨ (s.link l).delta.lost = true ∨ (s.link l).delta.resync = true) ∧
    (s.isPending .congestion = true ↔
      ∃ l, congestionLevel s.control.live.congestion ≤ (s.link l).queue.fill) ∧
    (s.isPending .poolLow = true ↔ s.freeCells.length < s.control.live.lowWater) ∧
    (s.isPending .configReject = true ↔ s.control.configReject ≠ none) ∧
    s.isPending .sliceLoss = s.control.sliceLoss ∧ s.isPending .controlOverrun = s.control.controlOverrun ∧
    [Cause.configReject, .linkChange, .sliceLoss, .congestion, .poolLow, .controlOverrun].map Cause.priority =
      [1, 2, 3, 4, 5, 6] ∧
    (∀ c : Cause, s.isEnabled c = s.control.live.causeMask.getLsbD (c.priority - 1)) ∧
    (s.attention = true ↔ ∃ c : Cause, s.isEnabled c = true ∧ s.isPending c = true) ∧
    (∀ f, s.control.configReject = some f → s.causeDetail .configReject = f.code) ∧
    (∀ l : LinkId,
      (s.link l).delta ≠ ⟨false, false, false⟩ → (∀ l', l' < l → (s.link l').delta = ⟨false, false, false⟩) →
      s.causeDetail .linkChange = l.val) ∧
    (∀ l : LinkId, congestionLevel s.control.live.congestion ≤ (s.link l).queue.fill →
      (∀ l', l' < l → (s.link l').queue.fill < congestionLevel s.control.live.congestion) →
      s.causeDetail .congestion = l.val) ∧
    s.causeDetail .sliceLoss = 0 ∧ s.causeDetail .controlOverrun = 0 ∧
    s.causeDetail .poolLow = s.freeCells.length ∧
    [0#2, 1#2, 2#2, 3#2].map congestionLevel = [512, 1024, 1536, 1920]

/-- O58. R142, R147, R155, R156, R176: a request with an unknown code is replied BAD_REQUEST; WRITE_SETTINGS,
WRITE_PAD, COPY_BANK and COMMIT are refused with BUSY before anything else is looked at; another payload length is
BAD_ARGUMENT, for the other requests also while a commit is pending or a copy runs; and none is executed while the
holder holds a reply, the queue is empty or the head request is of another code. Every reply begins with the status
word: the code as received, OVERRUN, CLAMPED, and the status. That a command whose event cannot occur leaves the state
as it is, is log entry 2. -/
def Obligations.RefusedRequests : Prop :=
  (∀ s : State,
    (∀ (q : Request) (rest : List Request), s.control.queue = q :: rest → s.control.holder = none →
      (q.code = 0 ∨ 0x12 ≤ q.code.toNat → exec .badRequest s = .next (replied q rest .badRequest false [] s)) ∧
      (s.settings.commit ≠ none ∧ (q.code = 0x02#8 ∨ q.code = 0x04#8 ∨ q.code = 0x05#8 ∨ q.code = 0x06#8) ∨
          s.padTable.copyNext ≠ none ∧ (q.code = 0x04#8 ∨ q.code = 0x05#8 ∨ q.code = 0x06#8) →
        ∃ c, requestOf q.code = some c ∧ exec c s = .next (replied q rest .busy false [] s)) ∧
      ((q.code = 0x02#8 → s.settings.commit = none) →
        (q.code = 0x05#8 ∨ q.code = 0x06#8 → s.settings.commit = none ∧ s.padTable.copyNext = none) →
        ∀ n, payloadLength q.code = some n → q.payload.length ≠ n →
        ∃ c, requestOf q.code = some c ∧ exec c s = .next (replied q rest .badArgument false [] s)) ∧
      (∀ (code : BitVec 8) (c : Instr), requestOf code = some c → q.code ≠ code → exec c s = .next s) ∧
      (requestOf q.code ≠ none → exec .badRequest s = .next s)) ∧
    (s.control.holder ≠ none ∨ s.control.queue = [] →
      ∀ (code : BitVec 8) (c : Instr), requestOf code = some c ∨ c = .badRequest → exec c s = .next s)) ∧
  (∀ (q : Request) (rest : List Request) (st : Status) (clamped : Bool) (words : List Word32) (s : State),
    (replied q rest st clamped words s).control.holder =
      some ⟨q.tag, BitVec.ofNat 32 (q.code.toNat * 2 ^ 24 + s.control.overrun.toNat * 2 ^ 9 + clamped.toNat * 2 ^ 8 +
        st.code) :: words⟩) ∧
  [Status.ok, .busy, .rejected, .badArgument, .none, .badRequest].map Status.code = [0, 1, 2, 3, 4, 5]

/-- O59. R164 to R166: RUN_RESTART and SOFT_RESET set the stopping flag at their execution, a SOFT_RESET among two
deciding; a SOFT_RESET discards the queued requests unanswered. -/
def Obligations.RestartRequestsSetStopping : Prop :=
  ∀ (s : State) (q : Request) (rest : List Request), s.control.queue = q :: rest → s.control.holder = none →
    q.payload = [] →
    (q.code = 0x10#8 →
      exec .runRestart s = .next (replied q rest .ok false [] { s with emitter :=
        { s.emitter with
          stopping := if s.emitter.stopping = some .soft then some .soft else some .run } })) ∧
    (q.code = 0x11#8 →
      exec .softReset s = .next (replied q [] .ok false [] { s with emitter :=
        { s.emitter with stopping := some .soft } }))

/-- O60. R25, R54, R56, R79, R112, R113, R129 to R131, R134, R146, R149, R150, R162, R164 to R166, R170: the values
after a pin reset, spelled out, and after a RUN_RESTART or a SOFT_RESET has taken effect; neither takes effect while a
record frame is being sent, or without having been executed. The reset values that the manual does not give are log
entry 14, and the choice at the boundary where a restart was due log entry 6. That a restart's effect without a
waiting restart leaves the state as it is, is log entry 2; that a pin reset keeps the queue of commands, which is the
model's own, log entry 1, and the count of free values log entry 3; that a SOFT_RESET clears SLICE_LOSS and the
counters also after a FORCE_CLOSE in the interval before it, log entry 21; that a link left DISABLED or in SEARCH has
no word alignment, log entry 13. At the boundary at which the restart was due the arbiter chooses after the effect: a
waiting REPLY, or a TRAIN word (R123). -/
def Obligations.ValuesAfterResetsAndRestarts : Prop :=
  (∀ s : State, exec .pinReset s = .next { State.reset with pending := s.pending, freeDraws := s.freeDraws }) ∧
  (∀ s : State, ∃ t, exec .pinReset s = .next t ∧ t.pending = s.pending ∧ t.freeDraws = s.freeDraws ∧
    (∀ l : LinkId,
      (t.link l).rx =
        { state := .search, alignment := none, trainingCount := 0, errorWindow := [], signalTimer := 0
          lastHeartbeat := none, heartbeatOpen := false, burstsSinceOpen := 0, skipping := false, frame := none } ∧
      (t.link l).delta = ⟨false, false, false⟩ ∧ (t.link l).counters = ⟨0, 0, 0, 0, 0, 0, 0, 0, 0⟩ ∧
      (t.link l).queue = ⟨[], false⟩ ∧ t.intake l = ⟨none, none⟩) ∧
    t.ring.cursor = none ∧ t.ring.cursorSlot = 0 ∧ t.ring.newest = none ∧ t.ring.arbiter = 23 ∧
    (∀ i : SlotId,
      (t.slot i).state = .free ∧ (t.slot i).first = 0 ∧ (t.slot i).span = 0 ∧ (t.slot i).margin = 0 ∧
      (t.slot i).epoch = 0 ∧ (t.slot i).deadline = none ∧
      (t.slot i).flags = ⟨false, false, false, false, false⟩ ∧ (t.slot i).totals = ⟨0, 0, 0, 0, 0, 0, 0, 0⟩ ∧
      (∀ r : RowId, (t.slot i).rows[r] = []) ∧
      ∀ l : LinkId, t.record i l =
        ⟨.excluded, false, .notNeeded, ⟨false, false, false, false, false, false, false, false, false, false⟩, 0, 0⟩) ∧
    t.freeCells = List.range' 0 16384 ∧
    (∀ i : Fin 3840,
      t.padTable.bankA[i] =
        { pedestal := 0, threshold := 0, row := 0, pad := 0, masked := true, nosuppress := false } ∧
      t.padTable.bankB[i] =
        { pedestal := 0, threshold := 0, row := 0, pad := 0, masked := true, nosuppress := false }) ∧
    t.padTable.active = .a ∧ t.padTable.stale = false ∧ t.padTable.copyNext = none ∧
    t.settings.staging = t.settings.active ∧ t.settings.commit = none ∧ t.settings.epoch = 0 ∧
    (let c := t.settings.active
     c.span = 0 ∧ c.margin = 0 ∧ c.baseline = 0 ∧ c.pre = 0 ∧ c.post = 0 ∧ c.mergeGap = 0 ∧ c.policy = .keep ∧
     (∀ v : Curve, v = c.curveA ∨ v = c.curveB →
       v.segments = 1 ∧ v.knee1 = 1 ∧ v.knee2 = 1022 ∧ v.shift2 = 1 ∧ v.shift3 = 1) ∧
     (∀ j : Fin 8, c.windows[j].start = 0 ∧ c.windows[j].count = (if j = 0 then 96 else 0) ∧
       c.windows[j].curve = .a) ∧
     c.rowTotal = 96 ∧ c.order = .ascending ∧ ∀ l : LinkId, c.expected.getLsbD l.val = true) ∧
    t.emitter =
      { state := .idle, slot := none, lastEpoch := none, next := none, row := 0, continuation := false
        sections := 0, pulsesSent := 0, samplesSent := 0, stopping := none } ∧
    t.uplink = { tx := .train, opening := 64, port := none, paused := false } ∧
    t.lane =
      { state := .search, alignment := none, trainingCount := 0, errorWindow := [], signalTimer := 0, frame := none } ∧
    t.control.queue = [] ∧ t.control.holder = none ∧ t.control.overrun = false ∧ t.control.configReject = none ∧
    t.control.sliceLoss = false ∧ t.control.controlOverrun = false ∧
    t.control.globals = ⟨0, 0, 0, 0, 0, 0, 0⟩ ∧ (∀ l : LinkId, t.control.live.enable.getLsbD l.val = true) ∧
    t.control.live.congestion = 2 ∧ t.control.live.lowWater = 1024 ∧ t.control.live.timeout = 1000 ∧
    ∀ p : Fin 6, t.control.live.causeMask.getLsbD p.val = true) ∧
  ∀ (s : State) (kind : RestartKind),
    let effect : Instr := match kind with
      | .run => .runRestartTakesEffect
      | .soft => .softResetTakesEffect
    (s.emitter.stopping ≠ some kind ∨ (∃ f, s.uplink.tx = .frame f ∧ f.kind ≠ .reply) →
      exec effect s = .next s) ∧
    (s.emitter.stopping = some kind → (∀ f, s.uplink.tx = .frame f → f.kind = .reply) →
      ∃ t, exec effect s = .next t ∧
        t.ring = .reset ∧ t.freeCells = List.range' 0 16384 ∧ t.emitter = .reset ∧
        t.settings.active = s.settings.active ∧ t.settings.epoch = s.settings.epoch ∧ t.settings.commit = none ∧
        (s.settings.commit = none →
          t.settings.staging = s.settings.staging ∧ t.padTable.stale = s.padTable.stale) ∧
        (s.settings.commit ≠ none →
          t.settings.staging = s.settings.active ∧ t.padTable.stale = true) ∧
        t.padTable.bankA = s.padTable.bankA ∧ t.padTable.bankB = s.padTable.bankB ∧
        t.padTable.active = s.padTable.active ∧
        t.padTable.copyNext = (if kind = .soft then none else s.padTable.copyNext) ∧
        t.uplink.paused = (if kind = .soft then false else s.uplink.paused) ∧
        t.uplink.opening = s.uplink.opening ∧ t.lane = s.lane ∧
        (s.uplink.tx ≠ .boundary → t.uplink.tx = s.uplink.tx ∧ t.uplink.port = s.uplink.port) ∧
        (s.uplink.tx = .boundary →
          (0 < s.uplink.opening → t.uplink.tx = .train ∧ t.uplink.port = s.uplink.port) ∧
          (s.uplink.opening = 0 → ∀ r, s.uplink.port = some r →
            t.uplink.tx = .frame (uplinkFrame .reply t.attention r.tag r.payload 0) ∧ t.uplink.port = none) ∧
          (s.uplink.opening = 0 → s.uplink.port = none → t.uplink.tx = .train ∧ t.uplink.port = none)) ∧
        t.control =
          (if kind = .soft then
            { s.control with
              overrun := false, configReject := none, sliceLoss := false, controlOverrun := false
              globals := .zero }
          else s.control) ∧
        ∀ l : LinkId,
          (t.link l).queue = ⟨[], false⟩ ∧
          (t.link l).rx.lastHeartbeat = none ∧ (t.link l).rx.heartbeatOpen = false ∧
          (t.link l).rx.burstsSinceOpen = 0 ∧ (t.link l).rx.frame = none ∧
          (kind = .run →
            ((s.link l).rx.state = .run ∨ (s.link l).rx.state = .resync →
              (t.link l).rx.state = .ready ∧
              (t.link l).delta = { (s.link l).delta with stateChanged := true }) ∧
            ((s.link l).rx.state ≠ .run → (s.link l).rx.state ≠ .resync →
              (t.link l).rx.state = (s.link l).rx.state ∧ (t.link l).delta = (s.link l).delta) ∧
            (t.link l).counters = (s.link l).counters ∧
            (t.link l).rx.trainingCount = (s.link l).rx.trainingCount ∧
            (t.link l).rx.errorWindow = (s.link l).rx.errorWindow ∧
            (t.link l).rx.alignment = (s.link l).rx.alignment) ∧
          (kind = .soft →
            (t.link l).rx.state = (if s.control.live.enable.getLsbD l.val then .search else .disabled) ∧
            (t.link l).delta = ⟨false, false, false⟩ ∧ (t.link l).counters = .zero ∧
            (t.link l).rx.trainingCount = 0 ∧ (t.link l).rx.errorWindow = [] ∧
            (t.link l).rx.alignment = none))
end

