-- ==== Sys2Proof/Laws/State.lean ====
section
/-! SUPPORT. What each named update of the state leaves in each field, so that no proof unfolds a record update; and how links,
slots, link records and intake states are read after they are written. -/

namespace Sys2Proof.Machine

open Sys2Proof

/-! ### One lemma for each field of each update -/

@[simp] theorem State.mapLink_links (l : LinkId) (f : Link → Link) (s : State) :
    (s.mapLink l f).links = s.links.set l (f s.links[l]) := rfl
@[simp] theorem State.mapLink_ring (l : LinkId) (f : Link → Link) (s : State) :
    (s.mapLink l f).ring = s.ring := rfl
@[simp] theorem State.mapLink_freeCells (l : LinkId) (f : Link → Link) (s : State) :
    (s.mapLink l f).freeCells = s.freeCells := rfl
@[simp] theorem State.mapLink_padTable (l : LinkId) (f : Link → Link) (s : State) :
    (s.mapLink l f).padTable = s.padTable := rfl
@[simp] theorem State.mapLink_settings (l : LinkId) (f : Link → Link) (s : State) :
    (s.mapLink l f).settings = s.settings := rfl
@[simp] theorem State.mapLink_emitter (l : LinkId) (f : Link → Link) (s : State) :
    (s.mapLink l f).emitter = s.emitter := rfl
@[simp] theorem State.mapLink_uplink (l : LinkId) (f : Link → Link) (s : State) :
    (s.mapLink l f).uplink = s.uplink := rfl
@[simp] theorem State.mapLink_lane (l : LinkId) (f : Link → Link) (s : State) :
    (s.mapLink l f).lane = s.lane := rfl
@[simp] theorem State.mapLink_control (l : LinkId) (f : Link → Link) (s : State) :
    (s.mapLink l f).control = s.control := rfl
@[simp] theorem State.mapLink_freeDraws (l : LinkId) (f : Link → Link) (s : State) :
    (s.mapLink l f).freeDraws = s.freeDraws := rfl
@[simp] theorem State.mapLink_pending (l : LinkId) (f : Link → Link) (s : State) :
    (s.mapLink l f).pending = s.pending := rfl

@[simp] theorem State.mapLinks_links (f : LinkId → Link → Link) (s : State) :
    (s.mapLinks f).links = Vector.ofFn fun l => f l s.links[l] := by
  simp only [State.mapLinks]
@[simp] theorem State.mapLinks_ring (f : LinkId → Link → Link) (s : State) :
    (s.mapLinks f).ring = s.ring := by
  simp only [State.mapLinks]
@[simp] theorem State.mapLinks_freeCells (f : LinkId → Link → Link) (s : State) :
    (s.mapLinks f).freeCells = s.freeCells := by
  simp only [State.mapLinks]
@[simp] theorem State.mapLinks_padTable (f : LinkId → Link → Link) (s : State) :
    (s.mapLinks f).padTable = s.padTable := by
  simp only [State.mapLinks]
@[simp] theorem State.mapLinks_settings (f : LinkId → Link → Link) (s : State) :
    (s.mapLinks f).settings = s.settings := by
  simp only [State.mapLinks]
@[simp] theorem State.mapLinks_emitter (f : LinkId → Link → Link) (s : State) :
    (s.mapLinks f).emitter = s.emitter := by
  simp only [State.mapLinks]
@[simp] theorem State.mapLinks_uplink (f : LinkId → Link → Link) (s : State) :
    (s.mapLinks f).uplink = s.uplink := by
  simp only [State.mapLinks]
@[simp] theorem State.mapLinks_lane (f : LinkId → Link → Link) (s : State) :
    (s.mapLinks f).lane = s.lane := by
  simp only [State.mapLinks]
@[simp] theorem State.mapLinks_control (f : LinkId → Link → Link) (s : State) :
    (s.mapLinks f).control = s.control := by
  simp only [State.mapLinks]
@[simp] theorem State.mapLinks_freeDraws (f : LinkId → Link → Link) (s : State) :
    (s.mapLinks f).freeDraws = s.freeDraws := by
  simp only [State.mapLinks]
@[simp] theorem State.mapLinks_pending (f : LinkId → Link → Link) (s : State) :
    (s.mapLinks f).pending = s.pending := by
  simp only [State.mapLinks]

@[simp] theorem State.mapSlot_links (i : SlotId) (f : Slot → Slot) (s : State) :
    (s.mapSlot i f).links = s.links := rfl
@[simp] theorem State.mapSlot_ring (i : SlotId) (f : Slot → Slot) (s : State) :
    (s.mapSlot i f).ring = { s.ring with slots := s.ring.slots.set i (f s.ring.slots[i]) } := rfl
@[simp] theorem State.mapSlot_freeCells (i : SlotId) (f : Slot → Slot) (s : State) :
    (s.mapSlot i f).freeCells = s.freeCells := rfl
@[simp] theorem State.mapSlot_padTable (i : SlotId) (f : Slot → Slot) (s : State) :
    (s.mapSlot i f).padTable = s.padTable := rfl
@[simp] theorem State.mapSlot_settings (i : SlotId) (f : Slot → Slot) (s : State) :
    (s.mapSlot i f).settings = s.settings := rfl
@[simp] theorem State.mapSlot_emitter (i : SlotId) (f : Slot → Slot) (s : State) :
    (s.mapSlot i f).emitter = s.emitter := rfl
@[simp] theorem State.mapSlot_uplink (i : SlotId) (f : Slot → Slot) (s : State) :
    (s.mapSlot i f).uplink = s.uplink := rfl
@[simp] theorem State.mapSlot_lane (i : SlotId) (f : Slot → Slot) (s : State) :
    (s.mapSlot i f).lane = s.lane := rfl
@[simp] theorem State.mapSlot_control (i : SlotId) (f : Slot → Slot) (s : State) :
    (s.mapSlot i f).control = s.control := rfl
@[simp] theorem State.mapSlot_freeDraws (i : SlotId) (f : Slot → Slot) (s : State) :
    (s.mapSlot i f).freeDraws = s.freeDraws := rfl
@[simp] theorem State.mapSlot_pending (i : SlotId) (f : Slot → Slot) (s : State) :
    (s.mapSlot i f).pending = s.pending := rfl

@[simp] theorem State.mapRecord_links (i : SlotId) (l : LinkId) (f : LinkRecord → LinkRecord) (s : State) :
    (s.mapRecord i l f).links = s.links := rfl
@[simp] theorem State.mapRecord_ring (i : SlotId) (l : LinkId) (f : LinkRecord → LinkRecord) (s : State) :
    (s.mapRecord i l f).ring = (s.mapSlot i (Slot.mapRecord l f)).ring := rfl
@[simp] theorem State.mapRecord_freeCells (i : SlotId) (l : LinkId) (f : LinkRecord → LinkRecord) (s : State) :
    (s.mapRecord i l f).freeCells = s.freeCells := rfl
@[simp] theorem State.mapRecord_padTable (i : SlotId) (l : LinkId) (f : LinkRecord → LinkRecord) (s : State) :
    (s.mapRecord i l f).padTable = s.padTable := rfl
@[simp] theorem State.mapRecord_settings (i : SlotId) (l : LinkId) (f : LinkRecord → LinkRecord) (s : State) :
    (s.mapRecord i l f).settings = s.settings := rfl
@[simp] theorem State.mapRecord_emitter (i : SlotId) (l : LinkId) (f : LinkRecord → LinkRecord) (s : State) :
    (s.mapRecord i l f).emitter = s.emitter := rfl
@[simp] theorem State.mapRecord_uplink (i : SlotId) (l : LinkId) (f : LinkRecord → LinkRecord) (s : State) :
    (s.mapRecord i l f).uplink = s.uplink := rfl
@[simp] theorem State.mapRecord_lane (i : SlotId) (l : LinkId) (f : LinkRecord → LinkRecord) (s : State) :
    (s.mapRecord i l f).lane = s.lane := rfl
@[simp] theorem State.mapRecord_control (i : SlotId) (l : LinkId) (f : LinkRecord → LinkRecord) (s : State) :
    (s.mapRecord i l f).control = s.control := rfl
@[simp] theorem State.mapRecord_freeDraws (i : SlotId) (l : LinkId) (f : LinkRecord → LinkRecord) (s : State) :
    (s.mapRecord i l f).freeDraws = s.freeDraws := rfl
@[simp] theorem State.mapRecord_pending (i : SlotId) (l : LinkId) (f : LinkRecord → LinkRecord) (s : State) :
    (s.mapRecord i l f).pending = s.pending := rfl

@[simp] theorem State.setIntake_links (l : LinkId) (t : Intake) (s : State) :
    (s.setIntake l t).links = s.links := rfl
@[simp] theorem State.setIntake_ring (l : LinkId) (t : Intake) (s : State) :
    (s.setIntake l t).ring = { s.ring with intake := s.ring.intake.set l t } := rfl
@[simp] theorem State.setIntake_freeCells (l : LinkId) (t : Intake) (s : State) :
    (s.setIntake l t).freeCells = s.freeCells := rfl
@[simp] theorem State.setIntake_padTable (l : LinkId) (t : Intake) (s : State) :
    (s.setIntake l t).padTable = s.padTable := rfl
@[simp] theorem State.setIntake_settings (l : LinkId) (t : Intake) (s : State) :
    (s.setIntake l t).settings = s.settings := rfl
@[simp] theorem State.setIntake_emitter (l : LinkId) (t : Intake) (s : State) :
    (s.setIntake l t).emitter = s.emitter := rfl
@[simp] theorem State.setIntake_uplink (l : LinkId) (t : Intake) (s : State) :
    (s.setIntake l t).uplink = s.uplink := rfl
@[simp] theorem State.setIntake_lane (l : LinkId) (t : Intake) (s : State) :
    (s.setIntake l t).lane = s.lane := rfl
@[simp] theorem State.setIntake_control (l : LinkId) (t : Intake) (s : State) :
    (s.setIntake l t).control = s.control := rfl
@[simp] theorem State.setIntake_freeDraws (l : LinkId) (t : Intake) (s : State) :
    (s.setIntake l t).freeDraws = s.freeDraws := rfl
@[simp] theorem State.setIntake_pending (l : LinkId) (t : Intake) (s : State) :
    (s.setIntake l t).pending = s.pending := rfl

@[simp] theorem State.mapGlobals_links (f : GlobalCounters → GlobalCounters) (s : State) :
    (s.mapGlobals f).links = s.links := rfl
@[simp] theorem State.mapGlobals_ring (f : GlobalCounters → GlobalCounters) (s : State) :
    (s.mapGlobals f).ring = s.ring := rfl
@[simp] theorem State.mapGlobals_freeCells (f : GlobalCounters → GlobalCounters) (s : State) :
    (s.mapGlobals f).freeCells = s.freeCells := rfl
@[simp] theorem State.mapGlobals_padTable (f : GlobalCounters → GlobalCounters) (s : State) :
    (s.mapGlobals f).padTable = s.padTable := rfl
@[simp] theorem State.mapGlobals_settings (f : GlobalCounters → GlobalCounters) (s : State) :
    (s.mapGlobals f).settings = s.settings := rfl
@[simp] theorem State.mapGlobals_emitter (f : GlobalCounters → GlobalCounters) (s : State) :
    (s.mapGlobals f).emitter = s.emitter := rfl
@[simp] theorem State.mapGlobals_uplink (f : GlobalCounters → GlobalCounters) (s : State) :
    (s.mapGlobals f).uplink = s.uplink := rfl
@[simp] theorem State.mapGlobals_lane (f : GlobalCounters → GlobalCounters) (s : State) :
    (s.mapGlobals f).lane = s.lane := rfl
@[simp] theorem State.mapGlobals_control (f : GlobalCounters → GlobalCounters) (s : State) :
    (s.mapGlobals f).control = { s.control with globals := f s.control.globals } := rfl
@[simp] theorem State.mapGlobals_freeDraws (f : GlobalCounters → GlobalCounters) (s : State) :
    (s.mapGlobals f).freeDraws = s.freeDraws := rfl
@[simp] theorem State.mapGlobals_pending (f : GlobalCounters → GlobalCounters) (s : State) :
    (s.mapGlobals f).pending = s.pending := rfl

@[simp] theorem State.latchSliceLoss_links (s : State) :
    (s.latchSliceLoss).links = s.links := rfl
@[simp] theorem State.latchSliceLoss_ring (s : State) :
    (s.latchSliceLoss).ring = s.ring := rfl
@[simp] theorem State.latchSliceLoss_freeCells (s : State) :
    (s.latchSliceLoss).freeCells = s.freeCells := rfl
@[simp] theorem State.latchSliceLoss_padTable (s : State) :
    (s.latchSliceLoss).padTable = s.padTable := rfl
@[simp] theorem State.latchSliceLoss_settings (s : State) :
    (s.latchSliceLoss).settings = s.settings := rfl
@[simp] theorem State.latchSliceLoss_emitter (s : State) :
    (s.latchSliceLoss).emitter = s.emitter := rfl
@[simp] theorem State.latchSliceLoss_uplink (s : State) :
    (s.latchSliceLoss).uplink = s.uplink := rfl
@[simp] theorem State.latchSliceLoss_lane (s : State) :
    (s.latchSliceLoss).lane = s.lane := rfl
@[simp] theorem State.latchSliceLoss_control (s : State) :
    (s.latchSliceLoss).control = { s.control with sliceLoss := true } := rfl
@[simp] theorem State.latchSliceLoss_freeDraws (s : State) :
    (s.latchSliceLoss).freeDraws = s.freeDraws := rfl
@[simp] theorem State.latchSliceLoss_pending (s : State) :
    (s.latchSliceLoss).pending = s.pending := rfl

@[simp] theorem State.countLate_links (l : LinkId) (s : State) :
    (s.countLate l).links = (s.mapLink l (Link.mapCounters fun c => { c with lateItems := satAdd cap32 c.lateItems 1 })).links := rfl
@[simp] theorem State.countLate_ring (l : LinkId) (s : State) :
    (s.countLate l).ring = s.ring := rfl
@[simp] theorem State.countLate_freeCells (l : LinkId) (s : State) :
    (s.countLate l).freeCells = s.freeCells := rfl
@[simp] theorem State.countLate_padTable (l : LinkId) (s : State) :
    (s.countLate l).padTable = s.padTable := rfl
@[simp] theorem State.countLate_settings (l : LinkId) (s : State) :
    (s.countLate l).settings = s.settings := rfl
@[simp] theorem State.countLate_emitter (l : LinkId) (s : State) :
    (s.countLate l).emitter = s.emitter := rfl
@[simp] theorem State.countLate_uplink (l : LinkId) (s : State) :
    (s.countLate l).uplink = s.uplink := rfl
@[simp] theorem State.countLate_lane (l : LinkId) (s : State) :
    (s.countLate l).lane = s.lane := rfl
@[simp] theorem State.countLate_control (l : LinkId) (s : State) :
    (s.countLate l).control = s.control := rfl
@[simp] theorem State.countLate_freeDraws (l : LinkId) (s : State) :
    (s.countLate l).freeDraws = s.freeDraws := rfl
@[simp] theorem State.countLate_pending (l : LinkId) (s : State) :
    (s.countLate l).pending = s.pending := rfl

@[simp] theorem State.mapLane_links (f : ReturnLane → ReturnLane) (s : State) :
    (s.mapLane f).links = s.links := rfl
@[simp] theorem State.mapLane_ring (f : ReturnLane → ReturnLane) (s : State) :
    (s.mapLane f).ring = s.ring := rfl
@[simp] theorem State.mapLane_freeCells (f : ReturnLane → ReturnLane) (s : State) :
    (s.mapLane f).freeCells = s.freeCells := rfl
@[simp] theorem State.mapLane_padTable (f : ReturnLane → ReturnLane) (s : State) :
    (s.mapLane f).padTable = s.padTable := rfl
@[simp] theorem State.mapLane_settings (f : ReturnLane → ReturnLane) (s : State) :
    (s.mapLane f).settings = s.settings := rfl
@[simp] theorem State.mapLane_emitter (f : ReturnLane → ReturnLane) (s : State) :
    (s.mapLane f).emitter = s.emitter := rfl
@[simp] theorem State.mapLane_uplink (f : ReturnLane → ReturnLane) (s : State) :
    (s.mapLane f).uplink = s.uplink := rfl
@[simp] theorem State.mapLane_lane (f : ReturnLane → ReturnLane) (s : State) :
    (s.mapLane f).lane = f s.lane := rfl
@[simp] theorem State.mapLane_control (f : ReturnLane → ReturnLane) (s : State) :
    (s.mapLane f).control = s.control := rfl
@[simp] theorem State.mapLane_freeDraws (f : ReturnLane → ReturnLane) (s : State) :
    (s.mapLane f).freeDraws = s.freeDraws := rfl
@[simp] theorem State.mapLane_pending (f : ReturnLane → ReturnLane) (s : State) :
    (s.mapLane f).pending = s.pending := rfl

@[simp] theorem State.countDiscarded_links (s : State) :
    (s.countDiscarded).links = s.links := rfl
@[simp] theorem State.countDiscarded_ring (s : State) :
    (s.countDiscarded).ring = s.ring := rfl
@[simp] theorem State.countDiscarded_freeCells (s : State) :
    (s.countDiscarded).freeCells = s.freeCells := rfl
@[simp] theorem State.countDiscarded_padTable (s : State) :
    (s.countDiscarded).padTable = s.padTable := rfl
@[simp] theorem State.countDiscarded_settings (s : State) :
    (s.countDiscarded).settings = s.settings := rfl
@[simp] theorem State.countDiscarded_emitter (s : State) :
    (s.countDiscarded).emitter = s.emitter := rfl
@[simp] theorem State.countDiscarded_uplink (s : State) :
    (s.countDiscarded).uplink = s.uplink := rfl
@[simp] theorem State.countDiscarded_lane (s : State) :
    (s.countDiscarded).lane = s.lane := rfl
@[simp] theorem State.countDiscarded_control (s : State) :
    (s.countDiscarded).control = { s.control with globals := { s.control.globals with requestsDiscarded := satAdd cap32 s.control.globals.requestsDiscarded 1 } } := rfl
@[simp] theorem State.countDiscarded_freeDraws (s : State) :
    (s.countDiscarded).freeDraws = s.freeDraws := rfl
@[simp] theorem State.countDiscarded_pending (s : State) :
    (s.countDiscarded).pending = s.pending := rfl

@[simp] theorem State.transmit_links (k : FrameKind) (w : Word16) (ws : List Word32) (n : Nat) (s : State) :
    (s.transmit k w ws n).links = s.links := rfl
@[simp] theorem State.transmit_ring (k : FrameKind) (w : Word16) (ws : List Word32) (n : Nat) (s : State) :
    (s.transmit k w ws n).ring = s.ring := rfl
@[simp] theorem State.transmit_freeCells (k : FrameKind) (w : Word16) (ws : List Word32) (n : Nat) (s : State) :
    (s.transmit k w ws n).freeCells = s.freeCells := rfl
@[simp] theorem State.transmit_padTable (k : FrameKind) (w : Word16) (ws : List Word32) (n : Nat) (s : State) :
    (s.transmit k w ws n).padTable = s.padTable := rfl
@[simp] theorem State.transmit_settings (k : FrameKind) (w : Word16) (ws : List Word32) (n : Nat) (s : State) :
    (s.transmit k w ws n).settings = s.settings := rfl
@[simp] theorem State.transmit_emitter (k : FrameKind) (w : Word16) (ws : List Word32) (n : Nat) (s : State) :
    (s.transmit k w ws n).emitter = s.emitter := rfl
@[simp] theorem State.transmit_uplink (k : FrameKind) (w : Word16) (ws : List Word32) (n : Nat) (s : State) :
    (s.transmit k w ws n).uplink = { s.uplink with tx := .frame (uplinkFrame k s.attention w ws n) } := rfl
@[simp] theorem State.transmit_lane (k : FrameKind) (w : Word16) (ws : List Word32) (n : Nat) (s : State) :
    (s.transmit k w ws n).lane = s.lane := rfl
@[simp] theorem State.transmit_control (k : FrameKind) (w : Word16) (ws : List Word32) (n : Nat) (s : State) :
    (s.transmit k w ws n).control = s.control := rfl
@[simp] theorem State.transmit_freeDraws (k : FrameKind) (w : Word16) (ws : List Word32) (n : Nat) (s : State) :
    (s.transmit k w ws n).freeDraws = s.freeDraws := rfl
@[simp] theorem State.transmit_pending (k : FrameKind) (w : Word16) (ws : List Word32) (n : Nat) (s : State) :
    (s.transmit k w ws n).pending = s.pending := rfl

@[simp] theorem State.transmitTrain_links (s : State) :
    (s.transmitTrain).links = s.links := rfl
@[simp] theorem State.transmitTrain_ring (s : State) :
    (s.transmitTrain).ring = s.ring := rfl
@[simp] theorem State.transmitTrain_freeCells (s : State) :
    (s.transmitTrain).freeCells = s.freeCells := rfl
@[simp] theorem State.transmitTrain_padTable (s : State) :
    (s.transmitTrain).padTable = s.padTable := rfl
@[simp] theorem State.transmitTrain_settings (s : State) :
    (s.transmitTrain).settings = s.settings := rfl
@[simp] theorem State.transmitTrain_emitter (s : State) :
    (s.transmitTrain).emitter = s.emitter := rfl
@[simp] theorem State.transmitTrain_uplink (s : State) :
    (s.transmitTrain).uplink = { s.uplink with tx := .train } := rfl
@[simp] theorem State.transmitTrain_lane (s : State) :
    (s.transmitTrain).lane = s.lane := rfl
@[simp] theorem State.transmitTrain_control (s : State) :
    (s.transmitTrain).control = s.control := rfl
@[simp] theorem State.transmitTrain_freeDraws (s : State) :
    (s.transmitTrain).freeDraws = s.freeDraws := rfl
@[simp] theorem State.transmitTrain_pending (s : State) :
    (s.transmitTrain).pending = s.pending := rfl

@[simp] theorem State.countEmitted_links (s : State) :
    (s.countEmitted).links = s.links := rfl
@[simp] theorem State.countEmitted_ring (s : State) :
    (s.countEmitted).ring = s.ring := rfl
@[simp] theorem State.countEmitted_freeCells (s : State) :
    (s.countEmitted).freeCells = s.freeCells := rfl
@[simp] theorem State.countEmitted_padTable (s : State) :
    (s.countEmitted).padTable = s.padTable := rfl
@[simp] theorem State.countEmitted_settings (s : State) :
    (s.countEmitted).settings = s.settings := rfl
@[simp] theorem State.countEmitted_emitter (s : State) :
    (s.countEmitted).emitter = s.emitter := rfl
@[simp] theorem State.countEmitted_uplink (s : State) :
    (s.countEmitted).uplink = s.uplink := rfl
@[simp] theorem State.countEmitted_lane (s : State) :
    (s.countEmitted).lane = s.lane := rfl
@[simp] theorem State.countEmitted_control (s : State) :
    (s.countEmitted).control = { s.control with globals := { s.control.globals with slicesEmitted := satAdd cap32 s.control.globals.slicesEmitted 1 } } := rfl
@[simp] theorem State.countEmitted_freeDraws (s : State) :
    (s.countEmitted).freeDraws = s.freeDraws := rfl
@[simp] theorem State.countEmitted_pending (s : State) :
    (s.countEmitted).pending = s.pending := rfl

@[simp] theorem State.emptySlot_links (i : SlotId) (s : State) :
    (s.emptySlot i).links = s.links := rfl
@[simp] theorem State.emptySlot_ring (i : SlotId) (s : State) :
    (s.emptySlot i).ring = (s.mapSlot i fun _ => .free).ring := rfl
@[simp] theorem State.emptySlot_freeCells (i : SlotId) (s : State) :
    (s.emptySlot i).freeCells = s.freeCells := rfl
@[simp] theorem State.emptySlot_padTable (i : SlotId) (s : State) :
    (s.emptySlot i).padTable = s.padTable := rfl
@[simp] theorem State.emptySlot_settings (i : SlotId) (s : State) :
    (s.emptySlot i).settings = s.settings := rfl
@[simp] theorem State.emptySlot_emitter (i : SlotId) (s : State) :
    (s.emptySlot i).emitter = s.emitter := rfl
@[simp] theorem State.emptySlot_uplink (i : SlotId) (s : State) :
    (s.emptySlot i).uplink = s.uplink := rfl
@[simp] theorem State.emptySlot_lane (i : SlotId) (s : State) :
    (s.emptySlot i).lane = s.lane := rfl
@[simp] theorem State.emptySlot_control (i : SlotId) (s : State) :
    (s.emptySlot i).control = s.control := rfl
@[simp] theorem State.emptySlot_freeDraws (i : SlotId) (s : State) :
    (s.emptySlot i).freeDraws = s.freeDraws := rfl
@[simp] theorem State.emptySlot_pending (i : SlotId) (s : State) :
    (s.emptySlot i).pending = s.pending := rfl

@[simp] theorem State.giveUp_links (i : SlotId) (s : State) :
    (s.giveUp i).links = s.links := rfl
@[simp] theorem State.giveUp_ring (i : SlotId) (s : State) :
    (s.giveUp i).ring = (s.mapSlot i fun t => { t.mapRecords LinkRecord.giveUp with flags := { t.flags with incomplete := true } }).ring := rfl
@[simp] theorem State.giveUp_freeCells (i : SlotId) (s : State) :
    (s.giveUp i).freeCells = s.freeCells := rfl
@[simp] theorem State.giveUp_padTable (i : SlotId) (s : State) :
    (s.giveUp i).padTable = s.padTable := rfl
@[simp] theorem State.giveUp_settings (i : SlotId) (s : State) :
    (s.giveUp i).settings = s.settings := rfl
@[simp] theorem State.giveUp_emitter (i : SlotId) (s : State) :
    (s.giveUp i).emitter = s.emitter := rfl
@[simp] theorem State.giveUp_uplink (i : SlotId) (s : State) :
    (s.giveUp i).uplink = s.uplink := rfl
@[simp] theorem State.giveUp_lane (i : SlotId) (s : State) :
    (s.giveUp i).lane = s.lane := rfl
@[simp] theorem State.giveUp_control (i : SlotId) (s : State) :
    (s.giveUp i).control = s.control := rfl
@[simp] theorem State.giveUp_freeDraws (i : SlotId) (s : State) :
    (s.giveUp i).freeDraws = s.freeDraws := rfl
@[simp] theorem State.giveUp_pending (i : SlotId) (s : State) :
    (s.giveUp i).pending = s.pending := rfl

@[simp] theorem State.setStopping_links (k : RestartKind) (s : State) :
    (s.setStopping k).links = s.links := rfl
@[simp] theorem State.setStopping_ring (k : RestartKind) (s : State) :
    (s.setStopping k).ring = s.ring := rfl
@[simp] theorem State.setStopping_freeCells (k : RestartKind) (s : State) :
    (s.setStopping k).freeCells = s.freeCells := rfl
@[simp] theorem State.setStopping_padTable (k : RestartKind) (s : State) :
    (s.setStopping k).padTable = s.padTable := rfl
@[simp] theorem State.setStopping_settings (k : RestartKind) (s : State) :
    (s.setStopping k).settings = s.settings := rfl
@[simp] theorem State.setStopping_emitter (k : RestartKind) (s : State) :
    (s.setStopping k).emitter = { s.emitter with stopping := if s.emitter.stopping = some .soft then some .soft else some k } := rfl
@[simp] theorem State.setStopping_uplink (k : RestartKind) (s : State) :
    (s.setStopping k).uplink = s.uplink := rfl
@[simp] theorem State.setStopping_lane (k : RestartKind) (s : State) :
    (s.setStopping k).lane = s.lane := rfl
@[simp] theorem State.setStopping_control (k : RestartKind) (s : State) :
    (s.setStopping k).control = s.control := rfl
@[simp] theorem State.setStopping_freeDraws (k : RestartKind) (s : State) :
    (s.setStopping k).freeDraws = s.freeDraws := rfl
@[simp] theorem State.setStopping_pending (k : RestartKind) (s : State) :
    (s.setStopping k).pending = s.pending := rfl

@[simp] theorem State.endCommit_links (s : State) :
    (s.endCommit).links = s.links := rfl
@[simp] theorem State.endCommit_ring (s : State) :
    (s.endCommit).ring = s.ring := rfl
@[simp] theorem State.endCommit_freeCells (s : State) :
    (s.endCommit).freeCells = s.freeCells := rfl
@[simp] theorem State.endCommit_padTable (s : State) :
    (s.endCommit).padTable = { s.padTable with stale := true } := rfl
@[simp] theorem State.endCommit_settings (s : State) :
    (s.endCommit).settings = { s.settings with commit := none, staging := s.settings.active } := rfl
@[simp] theorem State.endCommit_emitter (s : State) :
    (s.endCommit).emitter = s.emitter := rfl
@[simp] theorem State.endCommit_uplink (s : State) :
    (s.endCommit).uplink = s.uplink := rfl
@[simp] theorem State.endCommit_lane (s : State) :
    (s.endCommit).lane = s.lane := rfl
@[simp] theorem State.endCommit_control (s : State) :
    (s.endCommit).control = s.control := rfl
@[simp] theorem State.endCommit_freeDraws (s : State) :
    (s.endCommit).freeDraws = s.freeDraws := rfl
@[simp] theorem State.endCommit_pending (s : State) :
    (s.endCommit).pending = s.pending := rfl

@[simp] theorem State.bringIntoForce_links (s : State) :
    (s.bringIntoForce).links = s.links := rfl
@[simp] theorem State.bringIntoForce_ring (s : State) :
    (s.bringIntoForce).ring = s.ring := rfl
@[simp] theorem State.bringIntoForce_freeCells (s : State) :
    (s.bringIntoForce).freeCells = s.freeCells := rfl
@[simp] theorem State.bringIntoForce_padTable (s : State) :
    (s.bringIntoForce).padTable = { s.padTable with active := s.padTable.active.other } := rfl
@[simp] theorem State.bringIntoForce_settings (s : State) :
    (s.bringIntoForce).settings = { s.settings with active := s.settings.staging, epoch := s.settings.epoch + 1 } := rfl
@[simp] theorem State.bringIntoForce_emitter (s : State) :
    (s.bringIntoForce).emitter = s.emitter := rfl
@[simp] theorem State.bringIntoForce_uplink (s : State) :
    (s.bringIntoForce).uplink = s.uplink := rfl
@[simp] theorem State.bringIntoForce_lane (s : State) :
    (s.bringIntoForce).lane = s.lane := rfl
@[simp] theorem State.bringIntoForce_control (s : State) :
    (s.bringIntoForce).control = s.control := rfl
@[simp] theorem State.bringIntoForce_freeDraws (s : State) :
    (s.bringIntoForce).freeDraws = s.freeDraws := rfl
@[simp] theorem State.bringIntoForce_pending (s : State) :
    (s.bringIntoForce).pending = s.pending := rfl

@[simp] theorem State.formReply_links (q : Request) (a : Answer) (s : State) :
    (s.formReply q a).links = s.links := rfl
@[simp] theorem State.formReply_ring (q : Request) (a : Answer) (s : State) :
    (s.formReply q a).ring = s.ring := rfl
@[simp] theorem State.formReply_freeCells (q : Request) (a : Answer) (s : State) :
    (s.formReply q a).freeCells = s.freeCells := rfl
@[simp] theorem State.formReply_padTable (q : Request) (a : Answer) (s : State) :
    (s.formReply q a).padTable = s.padTable := rfl
@[simp] theorem State.formReply_settings (q : Request) (a : Answer) (s : State) :
    (s.formReply q a).settings = s.settings := rfl
@[simp] theorem State.formReply_emitter (q : Request) (a : Answer) (s : State) :
    (s.formReply q a).emitter = s.emitter := rfl
@[simp] theorem State.formReply_uplink (q : Request) (a : Answer) (s : State) :
    (s.formReply q a).uplink = s.uplink := rfl
@[simp] theorem State.formReply_lane (q : Request) (a : Answer) (s : State) :
    (s.formReply q a).lane = s.lane := rfl
@[simp] theorem State.formReply_control (q : Request) (a : Answer) (s : State) :
    (s.formReply q a).control = { s.control with overrun := false, holder := some ⟨q.tag, statusWord q.code s.control.overrun a.clamped a.status :: a.words⟩ } := rfl
@[simp] theorem State.formReply_freeDraws (q : Request) (a : Answer) (s : State) :
    (s.formReply q a).freeDraws = s.freeDraws := rfl
@[simp] theorem State.formReply_pending (q : Request) (a : Answer) (s : State) :
    (s.formReply q a).pending = s.pending := rfl

/-! ### Links -/

@[simp] theorem State.link_mapLink (l : LinkId) (f : Link → Link) (s : State) :
    (s.mapLink l f).link l = f (s.link l) := by
  simp [State.link, State.mapLink]

@[simp] theorem State.link_mapLink_ne {l l' : LinkId} (h : l' ≠ l) (f : Link → Link) (s : State) :
    (s.mapLink l f).link l' = s.link l' := by
  simp only [State.link, State.mapLink]
  exact Vector.getElem_set_ne l.isLt l'.isLt fun e => h (Fin.ext e.symm)

theorem State.link_mapLink_ite (l l' : LinkId) (f : Link → Link) (s : State) :
    (s.mapLink l f).link l' = if l' = l then f (s.link l) else s.link l' := by
  split
  · next h => subst h; simp
  · next h => simp [h]

@[simp] theorem State.link_mapLinks (f : LinkId → Link → Link) (s : State) (l : LinkId) :
    (s.mapLinks f).link l = f l (s.link l) := by
  simp [State.link, State.mapLinks]

/-- Changing a link into itself changes nothing. -/
theorem State.mapLink_self {l : LinkId} {f : Link → Link} {s : State} (h : f (s.link l) = s.link l) :
    s.mapLink l f = s := by
  have h' : f s.links[l.val] = s.links[l.val] := h
  simp [State.mapLink, h']

/-- Two changes of one link are one change. -/
@[simp] theorem State.mapLink_mapLink (l : LinkId) (f g : Link → Link) (s : State) :
    (s.mapLink l f).mapLink l g = s.mapLink l fun k => g (f k) := by
  simp [State.mapLink]

/-- Two changes of one link with the same outcome are the same change. -/
theorem State.mapLink_congr {l : LinkId} {f g : Link → Link} {s : State} (h : f (s.link l) = g (s.link l)) :
    s.mapLink l f = s.mapLink l g := by
  have h' : f s.links[l.val] = g s.links[l.val] := h
  simp [State.mapLink, h']

@[simp] theorem State.link_mapSlot (i : SlotId) (f : Slot → Slot) (s : State) (l : LinkId) :
    (s.mapSlot i f).link l = s.link l := rfl

@[simp] theorem State.link_mapRecord (i : SlotId) (k : LinkId) (f : LinkRecord → LinkRecord) (s : State) (l : LinkId) :
    (s.mapRecord i k f).link l = s.link l := rfl

@[simp] theorem State.link_setIntake (k : LinkId) (t : Intake) (s : State) (l : LinkId) :
    (s.setIntake k t).link l = s.link l := rfl

@[simp] theorem State.link_mapGlobals (f : GlobalCounters → GlobalCounters) (s : State) (l : LinkId) :
    (s.mapGlobals f).link l = s.link l := rfl

/-! ### Slots and link records -/

@[simp] theorem State.slot_mapSlot (i : SlotId) (f : Slot → Slot) (s : State) :
    (s.mapSlot i f).slot i = f (s.slot i) := by
  simp [State.slot, State.mapSlot]

@[simp] theorem State.slot_mapSlot_ne {i i' : SlotId} (h : i' ≠ i) (f : Slot → Slot) (s : State) :
    (s.mapSlot i f).slot i' = s.slot i' := by
  simp only [State.slot, State.mapSlot]
  exact Vector.getElem_set_ne i.isLt i'.isLt fun e => h (Fin.ext e.symm)

theorem State.slot_mapSlot_ite (i i' : SlotId) (f : Slot → Slot) (s : State) :
    (s.mapSlot i f).slot i' = if i' = i then f (s.slot i) else s.slot i' := by
  split
  · next h => subst h; simp
  · next h => simp [h]

@[simp] theorem State.slot_mapLink (l : LinkId) (f : Link → Link) (s : State) (i : SlotId) :
    (s.mapLink l f).slot i = s.slot i := rfl

@[simp] theorem State.slot_mapLinks (f : LinkId → Link → Link) (s : State) (i : SlotId) :
    (s.mapLinks f).slot i = s.slot i := by
  simp only [State.slot, State.mapLinks_ring]

@[simp] theorem State.slot_setIntake (l : LinkId) (t : Intake) (s : State) (i : SlotId) :
    (s.setIntake l t).slot i = s.slot i := rfl

@[simp] theorem State.slot_mapGlobals (f : GlobalCounters → GlobalCounters) (s : State) (i : SlotId) :
    (s.mapGlobals f).slot i = s.slot i := rfl

@[simp] theorem State.slot_latchSliceLoss (s : State) (i : SlotId) : s.latchSliceLoss.slot i = s.slot i := rfl

@[simp] theorem Slot.mapRecord_links (l : LinkId) (f : LinkRecord → LinkRecord) (t : Slot) :
    (t.mapRecord l f).links[l] = f t.links[l] := by
  simp [Slot.mapRecord]

theorem Slot.mapRecord_links_ne {l l' : LinkId} (h : l' ≠ l) (f : LinkRecord → LinkRecord) (t : Slot) :
    (t.mapRecord l f).links[l'] = t.links[l'] := by
  simp only [Slot.mapRecord]
  exact Vector.getElem_set_ne l.isLt l'.isLt fun e => h (Fin.ext e.symm)

@[simp] theorem Slot.mapRecords_links (f : LinkRecord → LinkRecord) (t : Slot) (l : LinkId) :
    (t.mapRecords f).links[l] = f t.links[l] := by
  simp [Slot.mapRecords]

@[simp] theorem State.record_mapRecord (i : SlotId) (l : LinkId) (f : LinkRecord → LinkRecord) (s : State) :
    (s.mapRecord i l f).record i l = f (s.record i l) := by
  simp only [State.record, State.mapRecord, State.slot_mapSlot, Slot.mapRecord_links]

/-- A link record other than the one changed reads as before. -/
theorem State.record_mapRecord_ne {i i' : SlotId} {l l' : LinkId} (h : i' ≠ i ∨ l' ≠ l)
    (f : LinkRecord → LinkRecord) (s : State) : (s.mapRecord i l f).record i' l' = s.record i' l' := by
  by_cases hi : i' = i
  · subst hi
    have hl : l' ≠ l := h.resolve_left (by simp)
    simp only [State.record, State.mapRecord, State.slot_mapSlot, Slot.mapRecord_links_ne hl]
  · simp only [State.record, State.mapRecord, State.slot_mapSlot_ne hi]

@[simp] theorem State.record_mapLink (k : LinkId) (f : Link → Link) (s : State) (i : SlotId) (l : LinkId) :
    (s.mapLink k f).record i l = s.record i l := rfl

@[simp] theorem State.record_setIntake (k : LinkId) (t : Intake) (s : State) (i : SlotId) (l : LinkId) :
    (s.setIntake k t).record i l = s.record i l := rfl

@[simp] theorem State.record_mapGlobals (f : GlobalCounters → GlobalCounters) (s : State) (i : SlotId) (l : LinkId) :
    (s.mapGlobals f).record i l = s.record i l := rfl

/-! ### Intake states -/

@[simp] theorem State.intake_setIntake (l : LinkId) (t : Intake) (s : State) : (s.setIntake l t).intake l = t := by
  simp [State.intake, State.setIntake]

@[simp] theorem State.intake_setIntake_ne {l l' : LinkId} (h : l' ≠ l) (t : Intake) (s : State) :
    (s.setIntake l t).intake l' = s.intake l' := by
  simp only [State.intake, State.setIntake]
  exact Vector.getElem_set_ne l.isLt l'.isLt fun e => h (Fin.ext e.symm)

@[simp] theorem State.intake_mapLink (k : LinkId) (f : Link → Link) (s : State) (l : LinkId) :
    (s.mapLink k f).intake l = s.intake l := rfl

@[simp] theorem State.intake_mapSlot (i : SlotId) (f : Slot → Slot) (s : State) (l : LinkId) :
    (s.mapSlot i f).intake l = s.intake l := rfl

@[simp] theorem State.intake_mapRecord (i : SlotId) (k : LinkId) (f : LinkRecord → LinkRecord) (s : State) (l : LinkId) :
    (s.mapRecord i k f).intake l = s.intake l := rfl

/-! ### The slots at the offsets from the cursor -/

/-- Different offsets name different slots (R2). -/
theorem State.slotAt_injective (s : State) : Function.Injective s.slotAt := by
  intro j k h
  exact add_left_cancel h

/-- Every slot stands at one offset (R2). -/
theorem State.slotAt_surjective (s : State) (i : SlotId) : ∃ j, s.slotAt j = i :=
  ⟨i - s.ring.cursorSlot, by simp [State.slotAt]⟩

end Sys2Proof.Machine
end

