-- ==== Sys2Proof/Laws/Ops.lean ====
section
/-! SUPPORT. What the shared operations over the slots can do: completion, the emitter's taking, the giving up of a slot,
the cell pool. -/

namespace Sys2Proof.Machine

open Sys2Proof

/-! ### Completion and the emitter's taking leave the other parts alone -/

@[simp] theorem State.completeSlot_frame (i : SlotId) (s : State) :
    (s.completeSlot i).links = s.links ∧ (s.completeSlot i).freeCells = s.freeCells ∧
    (s.completeSlot i).padTable = s.padTable ∧ (s.completeSlot i).settings = s.settings ∧
    (s.completeSlot i).emitter = s.emitter ∧ (s.completeSlot i).uplink = s.uplink ∧
    (s.completeSlot i).lane = s.lane ∧ (s.completeSlot i).freeDraws = s.freeDraws ∧
    (s.completeSlot i).pending = s.pending := by
  unfold State.completeSlot
  split <;> exact ⟨rfl, rfl, rfl, rfl, rfl, rfl, rfl, rfl, rfl⟩

/-- Completion changes the slot it completes: state and deadline. -/
@[simp] theorem State.slot_completeSlot (i : SlotId) (s : State) :
    (s.completeSlot i).slot i = { s.slot i with state := .complete, deadline := none } := by
  unfold State.completeSlot
  split <;> simp

@[simp] theorem State.slot_completeSlot_ne {i i' : SlotId} (h : i' ≠ i) (s : State) :
    (s.completeSlot i).slot i' = s.slot i' := by
  unfold State.completeSlot
  split <;> simp [h]

/-- Completion of a slot leaves the rest of the ring as it is. -/
theorem State.completeSlot_ring (i : SlotId) (s : State) :
    (s.completeSlot i).ring =
      { s.ring with slots :=
        s.ring.slots.set i { s.ring.slots[i] with state := .complete, deadline := none } } := by
  unfold State.completeSlot
  split <;> rfl

/-- An examination completes a FILLING slot without a PENDING link, and nothing else. -/
theorem State.examine_cases (i : SlotId) (s : State) :
    ((s.slot i).state = .filling ∧ (s.slot i).hasPending = false ∧ s.examine i = s.completeSlot i) ∨
    (((s.slot i).state ≠ .filling ∨ (s.slot i).hasPending = true) ∧ s.examine i = s) := by
  unfold State.examine
  split
  · next h => exact .inl ⟨h.1, h.2, rfl⟩
  · next h =>
    refine .inr ⟨?_, rfl⟩
    by_cases hs : (s.slot i).state = .filling
    · exact .inr (by simpa [hs] using h)
    · exact .inl hs

@[simp] theorem State.examine_frame (i : SlotId) (s : State) :
    (s.examine i).links = s.links ∧ (s.examine i).freeCells = s.freeCells ∧
    (s.examine i).padTable = s.padTable ∧ (s.examine i).settings = s.settings ∧
    (s.examine i).emitter = s.emitter ∧ (s.examine i).uplink = s.uplink ∧ (s.examine i).lane = s.lane ∧
    (s.examine i).freeDraws = s.freeDraws ∧ (s.examine i).pending = s.pending := by
  obtain ⟨-, -, h⟩ | ⟨-, h⟩ := s.examine_cases i <;> simp [h]

theorem State.slot_examine_ne {i i' : SlotId} (h : i' ≠ i) (s : State) : (s.examine i).slot i' = s.slot i' := by
  obtain ⟨-, -, e⟩ | ⟨-, e⟩ := s.examine_cases i <;> simp [e, h]

/-- What a completed slot keeps: everything but its state and its deadline. -/
theorem State.slot_examine (i i' : SlotId) (s : State) :
    ∃ st d, (s.examine i).slot i' = { s.slot i' with state := st, deadline := d } := by
  by_cases h : i' = i
  · subst h
    obtain ⟨-, -, e⟩ | ⟨-, e⟩ := s.examine_cases i'
    · exact ⟨_, _, by rw [e, State.slot_completeSlot]⟩
    · exact ⟨_, _, by rw [e]⟩
  · exact ⟨_, _, by rw [State.slot_examine_ne h]⟩

/-- The cursor, the newest heartbeat, the intake states and the arbiter's pointer stay as they are at an examination. -/
@[simp] theorem State.examine_ring (i : SlotId) (s : State) :
    (s.examine i).ring.cursor = s.ring.cursor ∧ (s.examine i).ring.cursorSlot = s.ring.cursorSlot ∧
    (s.examine i).ring.newest = s.ring.newest ∧ (s.examine i).ring.intake = s.ring.intake ∧
    (s.examine i).ring.arbiter = s.ring.arbiter := by
  obtain ⟨-, -, h⟩ | ⟨-, h⟩ := s.examine_cases i <;> simp [h, State.completeSlot_ring]

/-- What holds of a state and is kept by each single examination is kept by the examination of all slots. -/
theorem State.examineAll_induction {P : State → Prop} (step : ∀ s i, P s → P (s.examine i)) {s : State} (h : P s) :
    P s.examineAll := by
  unfold State.examineAll
  generalize List.finRange 8 = is
  induction is generalizing s with
  | nil => exact h
  | cons i is ih => exact ih (step s i h)

/-- What an examination of all slots changes: states and deadlines of slots, the latched loss and its count. -/
theorem State.examineAll_frame (s : State) :
    s.examineAll.links = s.links ∧ s.examineAll.freeCells = s.freeCells ∧ s.examineAll.padTable = s.padTable ∧
    s.examineAll.settings = s.settings ∧ s.examineAll.emitter = s.emitter ∧ s.examineAll.uplink = s.uplink ∧
    s.examineAll.lane = s.lane ∧ s.examineAll.freeDraws = s.freeDraws ∧ s.examineAll.pending = s.pending ∧
    s.examineAll.ring.cursor = s.ring.cursor ∧ s.examineAll.ring.cursorSlot = s.ring.cursorSlot ∧
    s.examineAll.ring.newest = s.ring.newest ∧ s.examineAll.ring.intake = s.ring.intake ∧
    s.examineAll.ring.arbiter = s.ring.arbiter := by
  refine State.examineAll_induction (P := fun t =>
    t.links = s.links ∧ t.freeCells = s.freeCells ∧ t.padTable = s.padTable ∧
    t.settings = s.settings ∧ t.emitter = s.emitter ∧ t.uplink = s.uplink ∧
    t.lane = s.lane ∧ t.freeDraws = s.freeDraws ∧ t.pending = s.pending ∧
    t.ring.cursor = s.ring.cursor ∧ t.ring.cursorSlot = s.ring.cursorSlot ∧
    t.ring.newest = s.ring.newest ∧ t.ring.intake = s.ring.intake ∧
    t.ring.arbiter = s.ring.arbiter) (fun t i h => ?_) (by simp)
  simpa using h

/-- The examination of all slots changes no slot but in its state and its deadline. -/
theorem State.slot_examineAll (s : State) (i : SlotId) :
    ∃ st d, s.examineAll.slot i = { s.slot i with state := st, deadline := d } := by
  refine State.examineAll_induction (P := fun t => ∃ st d, t.slot i = { s.slot i with state := st, deadline := d })
    (fun t k h => ?_) ⟨_, _, rfl⟩
  obtain ⟨st, d, h⟩ := h
  obtain ⟨st', d', h'⟩ := t.slot_examine k i
  exact ⟨st', d', by rw [h', h]⟩

/-- The emitter takes the COMPLETE cursor slot, or nothing changes (R114). -/
theorem State.emitterTakes_cases (s : State) :
    (s.emitter.state = .idle ∧ s.emitter.stopping = none ∧ s.ring.cursor ≠ none ∧
      (s.slot s.ring.cursorSlot).state = .complete ∧
      s.emitterTakes =
        { s.mapSlot s.ring.cursorSlot fun t => { t with state := .emitting } with emitter :=
          { s.emitter with
            state := if s.uplink.paused then .pausedInRecord else .record
            slot := some s.ring.cursorSlot
            next := some (if s.emitter.lastEpoch = some (s.slot s.ring.cursorSlot).epoch then .head else .epochMark)
            row := (s.settings.settingsOf (s.slot s.ring.cursorSlot).epoch).order.firstRow
            continuation := false, sections := 0, pulsesSent := 0, samplesSent := 0 } }) ∨
    (¬ (s.emitter.state = .idle ∧ s.emitter.stopping = none ∧ s.ring.cursor ≠ none ∧
        (s.slot s.ring.cursorSlot).state = .complete) ∧ s.emitterTakes = s) := by
  unfold State.emitterTakes
  dsimp only
  split
  · next h => exact .inl ⟨h.1, h.2.1, h.2.2.1, h.2.2.2, rfl⟩
  · next h => exact .inr ⟨h, rfl⟩

@[simp] theorem State.emitterTakes_frame (s : State) :
    s.emitterTakes.links = s.links ∧ s.emitterTakes.freeCells = s.freeCells ∧
    s.emitterTakes.padTable = s.padTable ∧ s.emitterTakes.settings = s.settings ∧
    s.emitterTakes.uplink = s.uplink ∧ s.emitterTakes.lane = s.lane ∧ s.emitterTakes.control = s.control ∧
    s.emitterTakes.freeDraws = s.freeDraws ∧ s.emitterTakes.pending = s.pending ∧
    s.emitterTakes.ring.cursor = s.ring.cursor ∧ s.emitterTakes.ring.cursorSlot = s.ring.cursorSlot ∧
    s.emitterTakes.ring.newest = s.ring.newest ∧ s.emitterTakes.ring.intake = s.ring.intake ∧
    s.emitterTakes.ring.arbiter = s.ring.arbiter ∧ s.emitterTakes.emitter.lastEpoch = s.emitter.lastEpoch ∧
    s.emitterTakes.emitter.stopping = s.emitter.stopping := by
  obtain ⟨-, -, -, -, h⟩ | ⟨-, h⟩ := s.emitterTakes_cases <;> simp [h]

/-- The emitter's taking changes no slot but in its state. -/
theorem State.slot_emitterTakes (s : State) (i : SlotId) :
    ∃ st, s.emitterTakes.slot i = { s.slot i with state := st } := by
  obtain ⟨-, -, -, -, h⟩ | ⟨-, h⟩ := s.emitterTakes_cases
  · by_cases hi : i = s.ring.cursorSlot
    · refine ⟨.emitting, ?_⟩
      rw [h, hi]
      exact State.slot_mapSlot _ (fun t => { t with state := .emitting }) s
    · refine ⟨(s.slot i).state, ?_⟩
      rw [h]
      exact State.slot_mapSlot_ne hi (fun t => { t with state := .emitting }) s
  · exact ⟨_, by rw [h]⟩

/-- What `settle` leaves as it is. -/
@[simp] theorem State.settle_frame (s : State) :
    s.settle.links = s.links ∧ s.settle.freeCells = s.freeCells ∧ s.settle.padTable = s.padTable ∧
    s.settle.settings = s.settings ∧ s.settle.uplink = s.uplink ∧ s.settle.lane = s.lane ∧
    s.settle.freeDraws = s.freeDraws ∧ s.settle.pending = s.pending ∧ s.settle.ring.cursor = s.ring.cursor ∧
    s.settle.ring.cursorSlot = s.ring.cursorSlot ∧ s.settle.ring.newest = s.ring.newest ∧
    s.settle.ring.intake = s.ring.intake ∧ s.settle.ring.arbiter = s.ring.arbiter := by
  simp [State.settle, s.examineAll_frame]

/-- `settle` changes no slot but in its state and its deadline. -/
theorem State.slot_settle (s : State) (i : SlotId) :
    ∃ st d, s.settle.slot i = { s.slot i with state := st, deadline := d } := by
  obtain ⟨st, h⟩ := s.examineAll.slot_emitterTakes i
  obtain ⟨st', d, h'⟩ := s.slot_examineAll i
  exact ⟨st, d, by rw [State.settle, h, h']⟩

/-- `settle` changes no link record. -/
@[simp] theorem State.record_settle (s : State) (i : SlotId) (l : LinkId) : s.settle.record i l = s.record i l := by
  obtain ⟨st, d, h⟩ := s.slot_settle i
  simp [State.record, h]

/-! ### The beginning of a taking (R13) -/

/-- A taking begins with the selected link's head item: the item leaves its queue and the pointer moves to the link (R13). -/
theorem State.beginTaking_eq_some {s s' : State} {l : LinkId} {it : Item} :
    s.beginTaking = some (l, it, s') ↔
      s.selected = some l ∧ ∃ rest, (s.link l).queue.items = it :: rest ∧
        s' = { s.mapLink l (fun k => { k with queue := { k.queue with items := rest } }) with
          ring := { s.ring with arbiter := l } } := by
  unfold State.beginTaking
  constructor
  · intro h
    split at h
    · cases h
    · next k hk =>
      split at h
      · cases h
      · next i rest hq =>
        simp only [Option.some.injEq, Prod.mk.injEq] at h
        obtain ⟨rfl, rfl, rfl⟩ := h
        exact ⟨hk, rest, hq, rfl⟩
  · rintro ⟨hs, rest, hq, rfl⟩
    simp only [hs, hq]
    rfl

/-! ### The cell pool (R46 to R51) -/

/-- An allocation takes cells from the head of the free list, as many as are asked for. -/
theorem takeCells_eq_some {c : Nat} {free xs rest : List Nat} :
    takeCells c free = some (xs, rest) ↔ free = xs ++ rest ∧ xs.length = c := by
  induction c generalizing free xs with
  | zero =>
    simp only [takeCells, Option.some.injEq, Prod.mk.injEq, List.length_eq_zero_iff]
    constructor
    · rintro ⟨rfl, rfl⟩; simp
    · rintro ⟨rfl, rfl⟩; simp
  | succ c ih =>
    cases free with
    | nil =>
      simp only [takeCells, reduceCtorEq, false_iff, not_and]
      intro h hl
      have := congrArg List.length h
      simp at this
      omega
    | cons a free =>
      cases xs with
      | nil => simp [takeCells]
      | cons x xs =>
        simp only [takeCells, Option.map_eq_some_iff, Prod.mk.injEq, List.cons.injEq, List.cons_append,
          List.length_cons, Nat.add_right_cancel_iff]
        constructor
        · rintro ⟨⟨ys, zs⟩, h, ⟨rfl, rfl⟩, rfl⟩
          have := ih.1 h
          exact ⟨⟨rfl, this.1⟩, this.2⟩
        · rintro ⟨⟨rfl, h⟩, hl⟩
          exact ⟨(xs, rest), ih.2 ⟨h, hl⟩, ⟨rfl, rfl⟩, rfl⟩

/-- An allocation fails exactly when too few cells are free. -/
theorem takeCells_eq_none {c : Nat} {free : List Nat} : takeCells c free = none ↔ free.length < c := by
  induction c generalizing free with
  | zero => simp [takeCells]
  | succ c ih =>
    cases free with
    | nil => simp [takeCells]
    | cons a free => simp [takeCells, ih]

/-- A pulse is stored with cells from the head of the free list, or dropped when too few are free (R49, R50). -/
theorem State.store_cases (i : SlotId) (row : RowId) (p : Pulse) (n : Nat) (s : State) :
    (∃ header codeCells free, s.freeCells = header :: (codeCells ++ free) ∧
      1 + codeCells.length = cellsFor p.codes.length ∧
      s.store i row p n = { s with freeCells := free }.appendStored i row ⟨p, header, codeCells⟩ n) ∨
    (s.freeCells.length < cellsFor p.codes.length ∧ s.store i row p n = s.dropPulse i p.link) := by
  unfold State.store
  split
  · next header codeCells free h =>
    have := takeCells_eq_some.1 h
    refine .inl ⟨header, codeCells, free, by simpa using this.1, ?_, rfl⟩
    have := this.2
    simp only [List.length_cons] at this
    omega
  · next h =>
    refine .inr ⟨takeCells_eq_none.1 ?_, rfl⟩
    cases hx : takeCells (cellsFor p.codes.length) s.freeCells with
    | none => rfl
    | some r =>
      obtain ⟨xs, free⟩ := r
      have hl := (takeCells_eq_some.1 hx).2
      cases xs with
      | nil =>
        simp only [cellsFor, List.length_nil] at hl
        omega
      | cons x xs => exact absurd hx (h x xs free)

/-- What the storing of a pulse leaves as it is. -/
@[simp] theorem State.store_frame (i : SlotId) (row : RowId) (p : Pulse) (n : Nat) (s : State) :
    (s.store i row p n).links = s.links ∧ (s.store i row p n).padTable = s.padTable ∧
    (s.store i row p n).settings = s.settings ∧ (s.store i row p n).emitter = s.emitter ∧
    (s.store i row p n).uplink = s.uplink ∧ (s.store i row p n).lane = s.lane ∧
    (s.store i row p n).freeDraws = s.freeDraws ∧ (s.store i row p n).pending = s.pending ∧
    (s.store i row p n).ring.cursor = s.ring.cursor ∧ (s.store i row p n).ring.cursorSlot = s.ring.cursorSlot ∧
    (s.store i row p n).ring.newest = s.ring.newest ∧ (s.store i row p n).ring.intake = s.ring.intake ∧
    (s.store i row p n).ring.arbiter = s.ring.arbiter := by
  obtain ⟨_, _, _, -, -, h⟩ | ⟨-, h⟩ := s.store_cases i row p n <;>
    simp [h, State.appendStored, State.dropPulse]

/-- The storing of a pulse changes its own slot alone. -/
theorem State.slot_store_ne {i i' : SlotId} (h : i' ≠ i) (row : RowId) (p : Pulse) (n : Nat) (s : State) :
    (s.store i row p n).slot i' = s.slot i' := by
  obtain ⟨_, _, _, -, -, e⟩ | ⟨-, e⟩ := s.store_cases i row p n
  · rw [e]; exact State.slot_mapSlot_ne h _ _
  · rw [e]; simp [State.dropPulse, h]

end Sys2Proof.Machine
end

