-- ==== Sys2Proof/Laws/Emission.lean ====
section
/-! SUPPORT. What the shared operations of emitter, uplink port, return lane and control unit can do. -/

namespace Sys2Proof.Machine

open Sys2Proof

/-! ### Frame boundaries (R123, R127) -/

/-- The record frame of a kind that is being sent, with its slot. -/
theorem State.sending_eq_some {s : State} {kind : FrameKind} {i : SlotId} {f : UplinkFrame} :
    s.sending kind = some (i, f) ↔ s.uplink.tx = .frame f ∧ s.emitter.slot = some i ∧ f.kind = kind := by
  unfold State.sending
  split
  · next g j h1 h2 =>
    simp only [h1, h2, Option.ite_none_right_eq_some, Option.some.injEq, Prod.mk.injEq, Transmitter.frame.injEq]
    constructor
    · rintro ⟨h, rfl, rfl⟩; exact ⟨rfl, rfl, h⟩
    · rintro ⟨rfl, rfl, h⟩; exact ⟨h, rfl, rfl⟩
  · next h =>
    simp only [reduceCtorEq, false_iff, not_and]
    intro h1 h2
    exact absurd h2 (h f i h1)

/-- The pause at a boundary changes the emitter's state alone (R127). -/
@[simp] theorem State.pauseAtBoundary_frame (s : State) :
    s.pauseAtBoundary.links = s.links ∧ s.pauseAtBoundary.ring = s.ring ∧
    s.pauseAtBoundary.freeCells = s.freeCells ∧ s.pauseAtBoundary.padTable = s.padTable ∧
    s.pauseAtBoundary.settings = s.settings ∧ s.pauseAtBoundary.uplink = s.uplink ∧
    s.pauseAtBoundary.lane = s.lane ∧ s.pauseAtBoundary.control = s.control ∧
    s.pauseAtBoundary.freeDraws = s.freeDraws ∧ s.pauseAtBoundary.pending = s.pending ∧
    s.pauseAtBoundary.emitter.slot = s.emitter.slot ∧ s.pauseAtBoundary.emitter.next = s.emitter.next ∧
    s.pauseAtBoundary.emitter.lastEpoch = s.emitter.lastEpoch ∧
    s.pauseAtBoundary.emitter.stopping = s.emitter.stopping := by
  unfold State.pauseAtBoundary
  split <;> simp

/-- The forming of a ROW frame changes the emitter's counts and the transmitter alone (R119). -/
@[simp] theorem State.transmitRow_frame (i : SlotId) (s : State) :
    (s.transmitRow i).links = s.links ∧ (s.transmitRow i).ring = s.ring ∧
    (s.transmitRow i).freeCells = s.freeCells ∧ (s.transmitRow i).padTable = s.padTable ∧
    (s.transmitRow i).settings = s.settings ∧ (s.transmitRow i).lane = s.lane ∧
    (s.transmitRow i).control = s.control ∧ (s.transmitRow i).freeDraws = s.freeDraws ∧
    (s.transmitRow i).pending = s.pending ∧ (s.transmitRow i).emitter.state = s.emitter.state ∧
    (s.transmitRow i).emitter.slot = s.emitter.slot ∧ (s.transmitRow i).emitter.next = s.emitter.next ∧
    (s.transmitRow i).emitter.lastEpoch = s.emitter.lastEpoch ∧
    (s.transmitRow i).emitter.stopping = s.emitter.stopping ∧
    (s.transmitRow i).uplink.opening = s.uplink.opening ∧ (s.transmitRow i).uplink.port = s.uplink.port ∧
    (s.transmitRow i).uplink.paused = s.uplink.paused := by
  unfold State.transmitRow
  split <;> simp [Emitter.formRow]

/-- The forming of a record frame changes the emitter's counts and the transmitter alone (R115). -/
@[simp] theorem State.transmitRecord_frame (i : SlotId) (kind : FrameKind) (s : State) :
    (s.transmitRecord i kind).links = s.links ∧ (s.transmitRecord i kind).ring = s.ring ∧
    (s.transmitRecord i kind).freeCells = s.freeCells ∧ (s.transmitRecord i kind).padTable = s.padTable ∧
    (s.transmitRecord i kind).settings = s.settings ∧ (s.transmitRecord i kind).lane = s.lane ∧
    (s.transmitRecord i kind).control = s.control ∧ (s.transmitRecord i kind).freeDraws = s.freeDraws ∧
    (s.transmitRecord i kind).pending = s.pending ∧ (s.transmitRecord i kind).emitter.state = s.emitter.state ∧
    (s.transmitRecord i kind).emitter.slot = s.emitter.slot ∧
    (s.transmitRecord i kind).emitter.next = s.emitter.next ∧
    (s.transmitRecord i kind).emitter.lastEpoch = s.emitter.lastEpoch ∧
    (s.transmitRecord i kind).emitter.stopping = s.emitter.stopping ∧
    (s.transmitRecord i kind).uplink.opening = s.uplink.opening ∧
    (s.transmitRecord i kind).uplink.port = s.uplink.port ∧
    (s.transmitRecord i kind).uplink.paused = s.uplink.paused := by
  cases kind <;> simp [State.transmitRecord]

/-- What the uplink arbiter's choice leaves as it is (R123). -/
@[simp] theorem State.arbitrate_frame (s : State) :
    s.arbitrate.links = s.links ∧ s.arbitrate.ring = s.ring ∧ s.arbitrate.freeCells = s.freeCells ∧
    s.arbitrate.padTable = s.padTable ∧ s.arbitrate.settings = s.settings ∧ s.arbitrate.lane = s.lane ∧
    s.arbitrate.control = s.control ∧ s.arbitrate.freeDraws = s.freeDraws ∧ s.arbitrate.pending = s.pending ∧
    s.arbitrate.emitter.state = s.emitter.state ∧ s.arbitrate.emitter.slot = s.emitter.slot ∧
    s.arbitrate.emitter.next = s.emitter.next ∧ s.arbitrate.emitter.lastEpoch = s.emitter.lastEpoch ∧
    s.arbitrate.emitter.stopping = s.emitter.stopping ∧ s.arbitrate.uplink.opening = s.uplink.opening ∧
    s.arbitrate.uplink.paused = s.uplink.paused := by
  unfold State.arbitrate
  split
  · simp
  · split
    · simp
    · split <;> simp

/-- What a frame boundary leaves as it is. -/
@[simp] theorem State.boundary_frame (s : State) :
    s.boundary.links = s.links ∧ s.boundary.ring = s.ring ∧ s.boundary.freeCells = s.freeCells ∧
    s.boundary.padTable = s.padTable ∧ s.boundary.settings = s.settings ∧ s.boundary.lane = s.lane ∧
    s.boundary.control = s.control ∧ s.boundary.freeDraws = s.freeDraws ∧ s.boundary.pending = s.pending ∧
    s.boundary.emitter.slot = s.emitter.slot ∧ s.boundary.emitter.next = s.emitter.next ∧
    s.boundary.emitter.lastEpoch = s.emitter.lastEpoch ∧ s.boundary.emitter.stopping = s.emitter.stopping ∧
    s.boundary.uplink.opening = s.uplink.opening ∧ s.boundary.uplink.paused = s.uplink.paused := by
  simp [State.boundary]

/-- What the boundary at the end of an emitter frame leaves as it is. -/
@[simp] theorem State.recordBoundary_frame (s : State) :
    s.recordBoundary.links = s.links ∧ s.recordBoundary.ring = s.ring ∧
    s.recordBoundary.freeCells = s.freeCells ∧ s.recordBoundary.padTable = s.padTable ∧
    s.recordBoundary.settings = s.settings ∧ s.recordBoundary.lane = s.lane ∧
    s.recordBoundary.control = s.control ∧ s.recordBoundary.freeDraws = s.freeDraws ∧
    s.recordBoundary.pending = s.pending ∧ s.recordBoundary.emitter.slot = s.emitter.slot ∧
    s.recordBoundary.emitter.next = s.emitter.next ∧ s.recordBoundary.emitter.lastEpoch = s.emitter.lastEpoch ∧
    s.recordBoundary.emitter.stopping = s.emitter.stopping ∧
    s.recordBoundary.uplink.opening = s.uplink.opening ∧ s.recordBoundary.uplink.paused = s.uplink.paused := by
  unfold State.recordBoundary
  split <;> simp

/-- With no restart waiting, the end of an emitter frame is a boundary as any other (R123, R127). -/
theorem State.recordBoundary_of_running {s : State} (h : s.emitter.stopping = none) :
    s.recordBoundary = s.pauseAtBoundary.arbitrate := by
  simp only [State.recordBoundary, h, State.boundary]

/-- While a restart waits, the transmitter stands at the boundary, and nothing else changes (R129). -/
theorem State.recordBoundary_of_stopping {s : State} (h : s.emitter.stopping ≠ none) :
    s.recordBoundary = { s with uplink := { s.uplink with tx := .boundary } } := by
  unfold State.recordBoundary
  split
  · next h' => exact absurd h' h
  · rfl

/-! ### Release of a commit (R145) -/

/-- A pending commit whose switch heartbeat is the cursor's ends, or nothing changes (R145). -/
theorem State.releaseCommit_cases (s : State) :
    (∃ c, s.settings.commit = some c ∧ s.ring.cursor = some c.switchHeartbeat ∧
      s.releaseCommit =
        { s.endCommit with emitter :=
          { s.emitter with lastEpoch :=
            if s.emitter.lastEpoch = some s.settings.epoch then some c.oldEpoch else s.emitter.lastEpoch } }) ∨
    ((∀ c, s.settings.commit = some c → s.ring.cursor ≠ some c.switchHeartbeat) ∧ s.releaseCommit = s) := by
  unfold State.releaseCommit
  split
  · next c fc h1 h2 =>
    split
    · next h => exact .inl ⟨c, h1, by rw [h2, h], rfl⟩
    · next h =>
      refine .inr ⟨?_, rfl⟩
      intro c' h' e
      rw [h1, Option.some.injEq] at h'
      subst h'
      rw [h2, Option.some.injEq] at e
      exact h e.symm
  · next h =>
    refine .inr ⟨?_, rfl⟩
    intro c h' e
    exact h c _ h' e

/-! ### Execution of requests (R155) -/

/-- A request is executed when its code is accepted and the reply holder is empty (R155). -/
theorem State.execute_head {s : State} {takes : BitVec 8 → Bool} {act : Request → State → State × Answer} {q : Request}
    {rest : List Request} (hq : s.control.queue = q :: rest) (hh : s.control.holder = none)
    (ht : takes q.code = true) :
    s.execute takes act =
      (act q { s with control := { s.control with queue := rest } }).1.formReply q
        (act q { s with control := { s.control with queue := rest } }).2 := by
  simp only [State.execute, hq, hh, ht, if_true]

/-- Nothing is executed on an empty queue, with a full reply holder, or for another code (R155). -/
theorem State.execute_skips {s : State} {takes : BitVec 8 → Bool} {act : Request → State → State × Answer}
    (h : s.control.queue = [] ∨ s.control.holder ≠ none ∨
      ∃ q rest, s.control.queue = q :: rest ∧ takes q.code = false) : s.execute takes act = s := by
  unfold State.execute
  split
  · next q rest hq hh =>
    obtain h | h | ⟨q', rest', h, ht⟩ := h
    · simp [h] at hq
    · exact absurd hh h
    · rw [hq, List.cons.injEq] at h
      obtain ⟨rfl, -⟩ := h
      simp [ht]
  · rfl

/-! ### The return lane (R153, R154) -/

/-- A request frame in progress is discarded and counted, or nothing changes (R153). -/
theorem State.discardFrame_cases (s : State) :
    (s.lane.frame = none ∧ s.discardFrame = s) ∨
    (s.lane.frame ≠ none ∧ s.discardFrame = (s.mapLane fun r => { r with frame := none }).countDiscarded) := by
  unfold State.discardFrame
  split
  · next h => exact .inl ⟨h, rfl⟩
  · next h => exact .inr ⟨by simp [h], rfl⟩

/-- A lane word acts on lane, control unit, pause flag and emitter state alone (R151 to R154, R126). -/
theorem State.laneWord_frame (w : LaneWord) (s : State) :
    (s.laneWord w).links = s.links ∧ (s.laneWord w).ring = s.ring ∧ (s.laneWord w).freeCells = s.freeCells ∧
    (s.laneWord w).padTable = s.padTable ∧ (s.laneWord w).settings = s.settings ∧
    (s.laneWord w).freeDraws = s.freeDraws ∧ (s.laneWord w).pending = s.pending ∧
    (s.laneWord w).emitter.slot = s.emitter.slot ∧ (s.laneWord w).emitter.next = s.emitter.next ∧
    (s.laneWord w).uplink.tx = s.uplink.tx ∧ (s.laneWord w).uplink.port = s.uplink.port := by
  unfold State.laneWord State.laneControl State.alignedControl State.setPaused State.requestData State.closeRequest
    State.completeRequest State.offerRequest
  refine ⟨?_, ?_, ?_, ?_, ?_, ?_, ?_, ?_, ?_, ?_, ?_⟩ <;>
    (repeat' split) <;> simp [State.mapLane, State.countDiscarded, State.mapGlobals, State.discardFrame] <;>
    (repeat' split) <;> rfl

/-- A data word between request frames enters the error window, and nothing else (R153). -/
theorem State.laneWord_between_frames {s : State} (h : s.lane.state = .aligned) (hf : s.lane.frame = none)
    (d : Word16) : s.laneWord (.data d) = s.mapLane (ReturnLane.age 1) := by
  simp [State.laneWord, State.requestData, State.mapLane, ReturnLane.age, h, hf]

/-! ### Lane words of an uplink frame (R116, R172) -/

/-- A payload word is two lane words. -/
@[simp] theorem halves_length (ws : List Word32) : (halves ws).length = 2 * ws.length := by
  induction ws with
  | nil => rfl
  | cons w ws ih => simp only [halves, List.length_cons, ih]; omega

/-- An uplink frame of L payload words is sent in 1 + 2(L + 2) lane words (R172). -/
@[simp] theorem UplinkFrame.laneWords_length (f : UplinkFrame) : f.laneWords.length = 1 + 2 * (f.payload.length + 2) := by
  simp [UplinkFrame.laneWords]; omega

end Sys2Proof.Machine
end

