-- ==== Sys2Proof/Laws/Links.lean ====
section
/-! SUPPORT. What the shared operations over links can do: the error window, the ingress queue, the going down of a receiver. -/

namespace Sys2Proof.Machine

open Sys2Proof

/-! ### The error window (R59) -/

/-- The window never grows by words without an error. -/
theorem ageWindow_length_le (n : Nat) (w : List Nat) : (ageWindow n w).length ≤ w.length := by
  simpa [ageWindow] using List.length_filter_le (· < Config.windowWords) (w.map (· + n))

/-- Every mark lies within the last 256 words. -/
theorem lt_of_mem_ageWindow {n a : Nat} {w : List Nat} (h : a ∈ ageWindow n w) : a < 256 := by
  simp only [ageWindow, List.mem_filter, decide_eq_true_eq] at h
  exact h.2

@[simp] theorem ageWindow_nil (n : Nat) : ageWindow n [] = [] := rfl

/-- The window of two stretches of words is the window of both together. -/
theorem ageWindow_ageWindow (m n : Nat) (w : List Nat) : ageWindow m (ageWindow n w) = ageWindow (n + m) w := by
  induction w with
  | nil => rfl
  | cons a w ih =>
    simp only [ageWindow, Config.windowWords, List.map_cons, List.filter_cons, decide_eq_true_eq] at ih ⊢
    by_cases h : a + n < 256
    · simp only [h, if_true, List.map_cons, List.filter_cons, decide_eq_true_eq, ih, Nat.add_assoc]
    · have h' : ¬ a + (n + m) < 256 := by omega
      simp only [h, h', if_false, ih]

/-! ### Ingress queues (R72 to R74) -/

@[simp] theorem Link.countDrops_frame (n : Nat) (k : Link) :
    (k.countDrops n).rx = k.rx ∧ (k.countDrops n).delta = k.delta ∧ (k.countDrops n).queue = k.queue ∧
    (k.countDrops n).counters = { k.counters with ingressDrops := satAdd cap32 k.counters.ingressDrops n } :=
  ⟨rfl, rfl, rfl, rfl⟩

/-- An item enters, overflows the queue into drop mode, or is dropped in drop mode (R72, R73). -/
theorem Link.offer_cases (it : Item) (k : Link) :
    (k.queue.fits it = true ∧ (k.queue.dropMode = true → it.isHbOpen = true) ∧ k.offer it = k.enqueue it) ∨
    (k.queue.fits it = false ∧ k.queue.dropMode = false ∧
      k.offer it = { k.countDrops 1 with queue := ⟨k.queue.items ++ [.loss], true⟩ }) ∨
    (k.queue.dropMode = true ∧ (it.isHbOpen = false ∨ k.queue.fits it = false) ∧ k.offer it = k.countDrops 1) := by
  unfold Link.offer
  cases hd : k.queue.dropMode <;> cases hf : k.queue.fits it <;> cases ho : it.isHbOpen <;> simp

/-- An offer leaves the receiver and the delta bits as they are. -/
@[simp] theorem Link.offer_frame (it : Item) (k : Link) :
    (k.offer it).rx = k.rx ∧ (k.offer it).delta = k.delta := by
  obtain ⟨-, -, h⟩ | ⟨-, -, h⟩ | ⟨-, -, h⟩ := k.offer_cases it <;> rw [h] <;> exact ⟨rfl, rfl⟩

/-- An offer reads the queue and the counters alone: another receiver makes no difference to what it does. -/
theorem Link.offer_setRx (it : Item) (k : Link) (r : Receiver) :
    ({ k with rx := r } : Link).offer it = { k.offer it with rx := r } := by
  obtain ⟨hf, hd, h⟩ | ⟨hf, hd, h⟩ | ⟨hd, hf, h⟩ := k.offer_cases it
  · rw [h]
    unfold Link.offer
    cases hb : k.queue.dropMode
    · simp [hf, Link.enqueue]
    · simp [hf, hd hb, Link.enqueue]
  · rw [h]
    simp [Link.offer, hd, hf, Link.countDrops, Link.mapCounters]
  · rw [h]
    obtain hf | hf := hf <;> simp [Link.offer, hd, hf, Link.countDrops, Link.mapCounters]

/-- An offer takes nothing out of the queue. -/
theorem Link.offer_grows (it : Item) (k : Link) : ∃ more, (k.offer it).queue.items = k.queue.items ++ more := by
  obtain ⟨-, -, h⟩ | ⟨-, -, h⟩ | ⟨-, -, h⟩ := k.offer_cases it <;> rw [h]
  · exact ⟨[it], rfl⟩
  · exact ⟨[.loss], rfl⟩
  · exact ⟨[], (List.append_nil _).symm⟩

/-- Every item takes at least one unit. -/
theorem Item.size_pos (it : Item) : 1 ≤ it.size := by
  cases it <;> simp [Item.size]

/-- A queue in drop mode that has no room for an HB_OPEN drops whatever is offered (R73). -/
theorem Link.offer_full {k : Link} (hd : k.queue.dropMode = true) (hf : 2047 ≤ k.queue.fill) (it : Item) :
    k.offer it = k.countDrops 1 := by
  have h : k.queue.fits it = false := by
    have := it.size_pos
    simp only [Queue.fits, Config.queueLimit, decide_eq_false_iff_not]
    omega
  simp [Link.offer, hd, h]

/-- The fill of a queue with one more item at its tail. -/
theorem Queue.fill_snoc (items : List Item) (it : Item) (d d' : Bool) :
    Queue.fill ⟨items ++ [it], d⟩ = Queue.fill ⟨items, d'⟩ + it.size := by
  simp [Queue.fill]

/-! ### Going down (R62 to R64) -/

/-- What a flush leaves: one LINK_DOWN, with the receiver as it was (R74). -/
@[simp] theorem Link.flushDown_frame (reason : DownReason) (k : Link) :
    (k.flushDown reason).rx = k.rx ∧ (k.flushDown reason).delta = k.delta ∧
    (k.flushDown reason).queue = ⟨[.linkDown reason], false⟩ ∧
    (k.flushDown reason).counters =
      { k.counters with ingressDrops := satAdd cap32 k.counters.ingressDrops k.queue.items.length } :=
  ⟨rfl, rfl, rfl, rfl⟩

/-- What going down leaves: the new state with no alignment, no heartbeat state and no frame (R62 to R64). -/
@[simp] theorem Link.goDown_frame (st : RxState) (k : Link) :
    (k.goDown st).rx =
      { k.rx with
        state := st, alignment := none, trainingCount := 0, lastHeartbeat := none, heartbeatOpen := false
        burstsSinceOpen := 0, skipping := false, frame := none } ∧
    (k.goDown st).delta = { k.delta with stateChanged := true } ∧
    (k.goDown st).queue = k.queue ∧ (k.goDown st).counters = k.counters :=
  ⟨rfl, rfl, rfl, rfl⟩

/-- A framing error changes the frame, the skipping and its count alone (R66). -/
@[simp] theorem Link.framingError_frame (k : Link) :
    k.framingError.rx = { k.rx with frame := none, skipping := true } ∧ k.framingError.delta = k.delta ∧
    k.framingError.queue = k.queue ∧
    k.framingError.counters = { k.counters with framingErrors := satAdd cap32 k.counters.framingErrors 1 } :=
  ⟨rfl, rfl, rfl, rfl⟩

/-- Words without a code error change the error window and the signal timer of an aligned receiver alone. -/
theorem Link.age_cases (n : Nat) (k : Link) :
    (k.rx.aligned = true ∧
      k.age n = { k with rx := { k.rx with errorWindow := ageWindow n k.rx.errorWindow, signalTimer := 0 } }) ∨
    (k.rx.aligned = false ∧ k.age n = k) := by
  unfold Link.age
  cases k.rx.aligned <;> simp

@[simp] theorem Link.age_frame (n : Nat) (k : Link) :
    (k.age n).rx.state = k.rx.state ∧ (k.age n).rx.frame = k.rx.frame ∧
    (k.age n).rx.lastHeartbeat = k.rx.lastHeartbeat ∧ (k.age n).rx.heartbeatOpen = k.rx.heartbeatOpen ∧
    (k.age n).rx.burstsSinceOpen = k.rx.burstsSinceOpen ∧ (k.age n).rx.skipping = k.rx.skipping ∧
    (k.age n).rx.alignment = k.rx.alignment ∧ (k.age n).rx.trainingCount = k.rx.trainingCount ∧
    (k.age n).delta = k.delta ∧ (k.age n).queue = k.queue ∧ (k.age n).counters = k.counters := by
  obtain ⟨-, h⟩ | ⟨-, h⟩ := k.age_cases n <;> rw [h] <;> simp

/-! ### Frames that a cut has begun (R66, R71) -/

/-- The control word that has already begun the frame in progress does not begin it again. -/
theorem Link.startFrame_of_begun {k : Link} {c : Word16} (h : k.rx.frame = some ⟨c, []⟩) : k.startFrame c = k := by
  simp [Link.startFrame, h]

/-- Any other control word arrives as it is. -/
theorem Link.startFrame_of_ne {k : Link} {c : Word16} (h : k.rx.frame ≠ some ⟨c, []⟩) :
    k.startFrame c = k.control c := by
  simp [Link.startFrame, h]

/-! ### The words of a frame (R61, R66, R68 to R71) -/

/-- Words without a code error at a receiver with word alignment. -/
theorem Link.age_of_aligned {k : Link} (h : k.rx.state = .ready ∨ k.rx.state = .run ∨ k.rx.state = .resync) (n : Nat) :
    k.age n = { k with rx := { k.rx with errorWindow := ageWindow n k.rx.errorWindow, signalTimer := 0 } } := by
  obtain h | h | h := h <;> simp [Link.age, Receiver.aligned, h]

/-- A control word in READY or RESYNC: an HB_OPEN begins a frame, and any other leaves none (R61, R68). -/
theorem Link.control_outside_run {k : Link} (h : k.rx.state = .ready ∨ k.rx.state = .resync) (c : Word16) :
    k.control c =
      { k with rx :=
        { k.rx with
          frame := if controlKind c = .hbOpen then some ⟨c, []⟩ else none
          errorWindow := ageWindow 1 k.rx.errorWindow, signalTimer := 0 } } := by
  obtain h | h := h <;> simp [Link.control, Link.age, Receiver.aligned, h]

/-- The words of a frame in READY or RESYNC: they enter the error window, and leave no frame but an HB_OPEN (R61, R68). -/
theorem Link.receive_outside_run {k : Link} (h : k.rx.state = .ready ∨ k.rx.state = .resync)
    (hk : ∀ g, k.rx.frame = some g → controlKind g.control = .hbOpen) (f : FrameInProgress) :
    k.receive f =
      { k with rx :=
        { k.rx with
          frame := if controlKind f.control = .hbOpen then some f else none
          errorWindow :=
            ageWindow (f.words.length + if k.rx.frame = some ⟨f.control, []⟩ then 0 else 1) k.rx.errorWindow
          signalTimer := 0 } } := by
  have ha : k.rx.state = .ready ∨ k.rx.state = .run ∨ k.rx.state = .resync := by tauto
  have ht : k.rx.state ≠ .training := by obtain h | h := h <;> simp [h]
  unfold Link.receive Link.startFrame
  by_cases hb : k.rx.frame = some ⟨f.control, []⟩
  · have := hk _ hb
    simp only at this
    simp [hb, Link.dataWords, ht, Link.age_of_aligned ha, this]
  · simp only [hb, if_false]
    rw [Link.control_outside_run h]
    obtain h | h := h <;> by_cases ho : controlKind f.control = .hbOpen <;>
      simp [Link.dataWords, Link.age, Receiver.aligned, h, ho, ageWindow_ageWindow, Nat.add_comm]

/-- The words of a frame in RUN that its control word begins or has begun: they enter the error window and stand in the frame
in progress; a burst is counted as it begins (R66, R69, R70). -/
theorem Link.receive_of_begun {k : Link} {f : FrameInProgress} (h : k.rx.state = .run)
    (hf : k.rx.frame = none ∨ k.rx.frame = some ⟨f.control, []⟩)
    (ho : controlKind f.control = .hbOpen ∨ k.rx.heartbeatOpen = true ∧
      (controlKind f.control = .hbClose ∨
        ∃ ch, controlKind f.control = .burst ch ∧ burstHeaderInRange f.words = true)) :
    k.receive f =
      { k with rx :=
        { k.rx with
          frame := some f
          burstsSinceOpen := (match controlKind f.control with
            | .burst _ =>
              if k.rx.frame = none then satAdd cap16 k.rx.burstsSinceOpen 1 else k.rx.burstsSinceOpen
            | _ => k.rx.burstsSinceOpen)
          skipping := !decide (k.rx.frame = none) && k.rx.skipping
          errorWindow := ageWindow (f.words.length + if k.rx.frame = none then 1 else 0) k.rx.errorWindow
          signalTimer := 0 } } := by
  have ha : k.rx.state = .ready ∨ k.rx.state = .run ∨ k.rx.state = .resync := by simp [h]
  unfold Link.receive Link.startFrame
  obtain hf | hf := hf <;> obtain ho | ⟨ho, hc | ⟨ch, hc, hh⟩⟩ := ho <;>
    simp [Link.control, Link.cutFrame, Link.beginFrame, Link.dataWords, Link.age, Receiver.aligned, ageWindow_ageWindow,
      Nat.add_comm, *]

/-- The words of a BURST frame in RUN whose start bin or count is out of range: one framing error, and the receiver skips
(R66, R70). -/
theorem Link.receive_of_bad_header {k : Link} {f : FrameInProgress} {ch : BitVec 8} (h : k.rx.state = .run)
    (hf : k.rx.frame = none ∨ k.rx.frame = some ⟨f.control, []⟩) (ho : k.rx.heartbeatOpen = true)
    (hc : controlKind f.control = .burst ch) (hh : burstHeaderInRange f.words = false) :
    k.receive f =
      { k with
        rx :=
          { k.rx with
            frame := none, skipping := true
            burstsSinceOpen :=
              if k.rx.frame = none then satAdd cap16 k.rx.burstsSinceOpen 1 else k.rx.burstsSinceOpen
            errorWindow := ageWindow (f.words.length + if k.rx.frame = none then 1 else 0) k.rx.errorWindow
            signalTimer := 0 }
        counters := { k.counters with framingErrors := satAdd cap32 k.counters.framingErrors 1 } } := by
  unfold Link.receive Link.startFrame
  obtain hf | hf := hf <;>
    simp [Link.control, Link.cutFrame, Link.beginFrame, Link.dataWords, Link.age, Receiver.aligned, Link.framingError,
      ageWindow_ageWindow, Nat.add_comm, *]

/-- The words of an HB_CLOSE or BURST frame in RUN with no heartbeat open: one framing error, and the receiver skips (R66). -/
theorem Link.receive_of_shut {k : Link} {f : FrameInProgress} (h : k.rx.state = .run) (hf : k.rx.frame = none)
    (ho : k.rx.heartbeatOpen = false)
    (hc : controlKind f.control = .hbClose ∨ ∃ ch, controlKind f.control = .burst ch) :
    k.receive f =
      { k with
        rx :=
          { k.rx with
            frame := none, skipping := true
            errorWindow := ageWindow (f.words.length + 1) k.rx.errorWindow, signalTimer := 0 }
        counters := { k.counters with framingErrors := satAdd cap32 k.counters.framingErrors 1 } } := by
  unfold Link.receive Link.startFrame
  obtain hc | ⟨ch, hc⟩ := hc <;>
    simp [Link.control, Link.cutFrame, Link.beginFrame, Link.dataWords, Link.age, Receiver.aligned, Link.framingError,
      ageWindow_ageWindow, Nat.add_comm, *]

end Sys2Proof.Machine
end

