-- ==== Sys2Proof/Tests/Slice0.lean ====
section
/-! SUPPORT. Tests: an ill-formed command for each check of WellFormed; worked cases of the manual; and for every statement about pad
links and intake a state and operands that meet its hypotheses. -/

namespace Sys2Proof.Tests

open Sys2Proof Sys2Proof.Machine Sys2Proof.Safety

/-! ### WellFormed refuses, check by check -/

theorem test_refuses_error_in_complete_close :
    (Instr.codeErrorWord 0 (some ⟨0xA200#16, [1#16, 2#16, 3#16]⟩)).wellFormed = false := by decide
theorem test_refuses_error_in_frame_of_train_word :
    (Instr.codeErrorWord 0 (some ⟨0xC5C5#16, []⟩)).wellFormed = false := by decide
theorem test_refuses_burst_beyond_last_bin :
    (Instr.burstFrame 0 0 512#16 [1#16] 0).wellFormed = false := by decide
theorem test_refuses_burst_without_samples : (Instr.burstFrame 0 0 0#16 [] 0).wellFormed = false := by decide
theorem test_refuses_burst_of_513_samples :
    (Instr.burstFrame 0 0 0#16 (List.replicate 513 0#16) 0).wellFormed = false := by decide +kernel
theorem test_refuses_truncated_burst_without_samples :
    (Instr.truncatedBurst 0 0 0#16 5#16 [] 0xC5C5#16).wellFormed = false := by decide
theorem test_refuses_truncated_burst_longer_than_its_count :
    (Instr.truncatedBurst 0 0 0#16 1#16 [1#16, 2#16] 0xC5C5#16).wellFormed = false := by decide
theorem test_refuses_truncated_burst_of_count_513 :
    (Instr.truncatedBurst 0 0 0#16 513#16 [1#16] 0xC5C5#16).wellFormed = false := by decide
theorem test_refuses_train_as_stray_control :
    (Instr.framingError 0 (.strayControl 0xC5C5#16)).wellFormed = false := by decide
theorem test_refuses_open_as_stray_control :
    (Instr.framingError 0 (.strayControl 0xA1FF#16)).wellFormed = false := by decide
theorem test_refuses_cut_burst_with_sample :
    (Instr.framingError 0 (.cut ⟨0xA403#16, [0#16, 5#16, 7#16]⟩ 0xC5C5#16)).wellFormed = false := by decide
theorem test_refuses_bad_burst_in_range :
    (Instr.framingError 0 (.badBurst ⟨0xA403#16, [511#16, 512#16]⟩)).wellFormed = false := by decide
theorem test_refuses_complete_request_as_in_progress :
    (Instr.returnLaneCodeError (some [0x0700#16, 0#16, 0#16, 0#16])).wellFormed = false := by decide
theorem test_refuses_signal_loss_in_complete_request :
    (Instr.returnLaneSignalLoss (some [0x0700#16, 0#16, 0#16, 0#16])).wellFormed = false := by decide
theorem test_refuses_short_request : (Instr.requestFrame [0x0701#16, 0#16, 0#16, 0#16] none).wellFormed = false := by
  decide
theorem test_refuses_flow_word_as_cut : (Instr.requestFrame [] (some 0xE800#16)).wellFormed = false := by decide
theorem test_refuses_train_as_count_reset :
    (Instr.trainingCountReset 0 (.control 0xC5C5#16)).wellFormed = false := by decide
theorem test_refuses_train_as_lane_count_reset :
    (Instr.returnLaneTrainingCountReset (.control 0xC5C5#16)).wellFormed = false := by decide

/-! ### Worked cases of the manual -/

/-- The check with polynomial 0x1021 and initial value 0xFFFF over the bytes "12345678" is 0xA12B, by hand calculation (R58). -/
theorem test_check_word : crc [0x3132#16, 0x3334#16, 0x3536#16, 0x3738#16] = 0xA12B#16 := by decide +kernel

/-- A state that maps under S = 2 with the cursor 65,532 at slot index 6 (section 2.4, mapping across the wrap). -/
def wrapState : State :=
  { State.reset with
    ring := { Ring.reset with cursor := some 65532#16, cursorSlot := 6 }
    settings := { SettingsUnit.reset with active := { Settings.default with span := 2 } } }

/-- Section 2.4, mapping across the wrap. -/
theorem test_mapping_across_the_wrap :
    wrapState.place 65534 = .within 0 ∧ wrapState.place 2 = .within 1 ∧ wrapState.place 27 = .within 7 ∧
    wrapState.place 28 = .beyond ∧ wrapState.place 65530 = .behind ∧ wrapState.slotAt 7 = 5 ∧
    wrapState.sliceFirst 7 = 24 := by decide

/-- The state of section 2.4, mapping across a span change. -/
def spanState : State :=
  { State.reset with
    ring := { Ring.reset with cursor := some 1000#16, newest := some 1005#16 }
    settings :=
      { SettingsUnit.reset with
        staging := { Settings.default with span := 3 }
        active := { Settings.default with span := 3 }
        commit := some ⟨switchAfter 1005 1 3, 1, 0, { Settings.default with span := 1 }⟩
        epoch := 1 } }

/-- Section 2.4, mapping across a span change. -/
theorem test_mapping_across_a_span_change :
    switchAfter 1005 1 3 = 1008 ∧ spanState.place 1001 = .within 0 ∧ spanState.place 1005 = .within 2 ∧
    spanState.place 1006 = .within 3 ∧ spanState.place 1009 = .within 4 ∧ spanState.place 1017 = .within 5 ∧
    spanState.place 1040 = .beyond ∧ spanState.sliceFirst 3 = 1006 ∧ spanState.sliceFirst 5 = 1016 ∧
    (spanState.openedSlot 3 false).flags.marginCut = true := by decide

/-- The curve of cases 1 to 3 of section 6.8. -/
def caseCurve : Curve := ⟨3, 64, 256, 2, 3⟩

/-- The settings of cases 1 to 3 of section 6.8. -/
def caseSettings (gap : Nat) : Settings :=
  { Settings.default with baseline := 6, pre := 1, post := 1, mergeGap := gap, curveA := caseCurve }

/-- The burst of case 1 of section 6.8. -/
def caseBurst : Burst :=
  ⟨7, 200, [52, 55, 90, 140, 122, 61, 50, 49, 53, 95, 60, 51], false, false, false⟩

/-- The entry of cases 1 to 3 of section 6.8. -/
def caseEntry : PadEntry := ⟨206, 10, 30, 112, false, false⟩

/-- A code without its saturated mark. -/
def plainCodes (cs : List Nat) : List Code := cs.map fun c => ⟨c, false⟩

/-- Section 6.8, case 1, with the merge gap of 1. -/
theorem test_case_1_merges :
    conditionBurst (caseSettings 1) caseEntry caseBurst =
      .pulses [⟨201, plainCodes [5, 40, 70, 66, 11, 0, 0, 3, 45, 10, 1], false⟩] := by decide

/-- Section 6.8, case 1, with the merge gap of 0. -/
theorem test_case_1_without_gap :
    conditionBurst (caseSettings 0) caseEntry caseBurst =
      .pulses [⟨201, plainCodes [5, 40, 70, 66, 11, 0], false⟩, ⟨208, plainCodes [3, 45, 10, 1], false⟩] := by
  decide

/-- Section 6.8, case 2. -/
theorem test_case_2 : compress caseCurve (condition 206 6 900) = ⟨186, false⟩ := by decide

/-- Section 6.8, case 5. -/
theorem test_case_5 :
    conditionBurst { Settings.default with baseline := 31, post := 2, curveA := ⟨2, 200, 1, 2, 1⟩ }
      ⟨16, 30, 0, 0, false, false⟩ ⟨0, 60, [20, 30, 420, 1019, 1023, 417, 25, 22], false, false, false⟩ =
      .pulses [⟨61, [⟨34, false⟩, ⟨255, true⟩, ⟨255, true⟩, ⟨255, true⟩, ⟨255, false⟩, ⟨29, false⟩, ⟨26, false⟩],
        false⟩] := by decide

/-- R84: a u above 1,023 is marked; a u of exactly 1,023 and a u below 0 are not. -/
theorem test_saturated_mark_at_stage_1 :
    condition 0 (-2) 1023 = ⟨1023, false⟩ ∧ condition 0 2 1023 = ⟨1023, true⟩ ∧ condition 4095 0 0 = ⟨0, false⟩ := by decide

/-- R84 and section 6.8, case 2: on a curve whose largest code is 207 a sample is marked at R84 alone. -/
theorem test_saturated_without_a_limited_code : compress caseCurve (condition 0 31 1023) = ⟨207, true⟩ := by decide

/-- Section 6.8, case 4: pieces of 64, 64 and 22. -/
theorem test_case_4_pieces : splitRun ⟨0, 150⟩ = [⟨0, 64, false⟩, ⟨64, 64, true⟩, ⟨128, 22, true⟩] := by decide

/-- Section 11.4, one ROW frame word by word. -/
theorem test_row_frame :
    let f := uplinkFrame .row false 812 (rowPayload 1 false 30
      [⟨⟨112, 7, 13, 201, [5, 40, 70, 66, 11, 0, 0, 3, 45, 10, 1], ⟨false, false, false, false, false⟩⟩, 0, [1]⟩]) 1
    f.header = 0x3006032C#32 ∧
    f.payload = [0x0001001E#32, 0x70070D00#32, 0x00C9000B#32, 0x05284642#32, 0x0B000003#32, 0x2D0A0100#32] := by
  decide

/-- Section 11.4: the same frame on the lane, FRAME_START 0xF003 and then 16 data words, the high halves first. -/
theorem test_row_frame_on_the_lane :
    let f := uplinkFrame .row false 812 [0x0001001E#32, 0x70070D00#32, 0x00C9000B#32, 0x05284642#32, 0x0B000003#32,
      0x2D0A0100#32] 1
    f.laneWords.length = 17 ∧
    f.laneWords.take 15 = [.control 0xF003#16, .data 0x3006#16, .data 0x032C#16, .data 0x0001#16, .data 0x001E#16,
      .data 0x7007#16, .data 0x0D00#16, .data 0x00C9#16, .data 0x000B#16, .data 0x0528#16, .data 0x4642#16,
      .data 0x0B00#16, .data 0x0003#16, .data 0x2D0A#16, .data 0x0100#16] ∧
    f.laneWords[15]? = some (.data 0#16) := by decide +kernel

/-- The words of the clamped settings write of section 11.7. -/
def clampedWords : List Word32 := (Settings.default.words.set 1 0x02000F39#32).set 4 0x00007800#32

/-- Section 11.7, a clamped settings write read back. -/
theorem test_clamped_settings :
    let c := (readSettings clampedWords).limited
    c ≠ readSettings clampedWords ∧ c.words[1]? = some 0x01FF0333#32 ∧ c.words[4]? = some 0x00006000#32 ∧
    c.firstFault = none := by decide

/-- Section 4.2, a nearly empty pool: 4 cells are refused, then the 3 free ones are taken, then 2 are refused. -/
theorem test_nearly_empty_pool :
    takeCells (cellsFor 40) [12507, 900, 41] = none ∧
    takeCells (cellsFor 24) [12507, 900, 41] = some ([12507, 900, 41], []) ∧ takeCells (cellsFor 1) [] = none := by
  decide

/-- Section 7.2: the index of channel 7 of link 13, of channel 10 of link 5, and of the last channel. -/
theorem test_pad_index :
    padIndex 13 7 = 2087 ∧ padIndex 5 10 = 810 ∧ padIndex 23 159 = 3839 := by decide

/-- Section 5.4, three burst endings: a burst of 5 samples from bin 509 keeps 3 and takes 3 units. -/
theorem test_boundary_clamp :
    let b := burstOf (burstControl 17) [509#16, 5#16, 1#16, 2#16, 3#16, 4#16, 5#16] false false
    b.channel = 17 ∧ b.samples = [1, 2, 3] ∧ b.boundaryClamp = true ∧ (Item.burst b).size = 3 := by decide

/-! ### States for the witnesses -/

/-- The part after reset with link 0 changed. -/
def onLink (f : Link → Link) : State := State.reset.mapLink 0 f

/-- Link 0 with its receiver in a state. -/
def inState (st : RxState) : State :=
  onLink fun k => { k with rx := { k.rx with
    state := st
    alignment := match st with
      | .training | .ready | .run | .resync => some 3
      | .disabled | .search | .held => none
    trainingCount := if st = .training then 62 else 0
    lastHeartbeat := if st = .run then some 10#16 else none } }

/-- Link 0 in RUN, with heartbeat 10 open or closed. -/
def running (isOpen : Bool) : State :=
  (inState .run).mapLink 0 fun k => { k with rx := { k.rx with heartbeatOpen := isOpen } }

/-- Link 0 in RUN with a window of three marks. -/
def threeErrors : State :=
  (running true).mapLink 0 fun k => { k with rx := { k.rx with errorWindow := [0, 1, 254] } }

/-- A slot that waits for link 0 with this record. -/
def filling (first : Heartbeat) (margin : Nat) (r : LinkRecord) : Slot :=
  { Slot.free with
    state := .filling, first := first, margin := margin, deadline := some 0
    links := Slot.free.links.set 0 r }

/-- A PENDING record. -/
def pendingRecord : LinkRecord := { LinkRecord.free with verdict := .pending }

/-- A record that awaits its margin. -/
def awaitedRecord : LinkRecord :=
  { LinkRecord.free with verdict := .pending, closedLast := true, margin := .awaited }

/-- Slices 100 and 101 are held: slot 0 awaits the margin of link 0, whose heartbeat 101 is open in slot 1. -/
def heldState : State :=
  { State.reset with
    freeCells := [12507, 900, 41]
    ring :=
      { Ring.reset with
        slots := (Ring.reset.slots.set 0 (filling 100#16 24 awaitedRecord)).set 1 (filling 101#16 24 pendingRecord)
        cursor := some 100#16
        newest := some 101#16
        intake := Ring.reset.intake.set 0 ⟨some 101#16, some 101#16⟩ }
    settings :=
      { SettingsUnit.reset with
        staging := { Settings.default with margin := 24 }
        active := { Settings.default with margin := 24 } } }

/-- Link 0 is down before its heartbeat 101: it has no open heartbeat. -/
def closedState : State := heldState.setIntake 0 ⟨some 101#16, none⟩

/-- One item waits in the queue of link 0. -/
def waiting (it : Item) (s : State) : State := s.mapLink 0 fun k => { k with queue := ⟨[it], false⟩ }

/-- The next taking is of `it` from link 0. -/
def takes (s : State) (it : Item) : Prop := ∃ s', s.beginTaking = some (0, it, s')

/-- A taking that begins, by its link and its item. -/
theorem takes_of_map {s : State} {it : Item}
    (h : (s.beginTaking.map fun r => (r.1, r.2.1)) = some (0, it)) : takes s it := by
  cases hb : s.beginTaking with
  | none => simp [hb] at h
  | some r =>
    obtain ⟨l, i, s'⟩ := r
    simp only [hb, Option.map_some, Option.some.injEq, Prod.mk.injEq] at h
    exact ⟨s', by rw [hb, h.1, h.2]⟩

/-- A burst of link 0, on channel 7. -/
def smallBurst : Burst := ⟨7, 0, [300, 300], false, false, false⟩

/-- The entry of channel 7 of link 0 in the active bank. -/
def withEntry (e : PadEntry) (s : State) : State := { s with padTable := s.padTable.write .a 7 e }

/-- A pulse of 40 codes of link 0. -/
def longPulse : Pulse := ⟨1, 7, 0, 0, List.replicate 40 1, ⟨false, false, false, false, false⟩⟩

/-- The emitter sends a record frame of slot 0, whose row 3 holds one pulse; `stopping` and the other slots as given. -/
def emitting (kind : FrameKind) (stopping : Option RestartKind) : State :=
  { State.reset with
    freeCells := [5]
    ring :=
      { Ring.reset with
        slots := Ring.reset.slots.set 0 { Slot.free with
          state := .emitting, first := 100#16
          rows := Slot.free.rows.set 3 [⟨longPulse, 0, [1, 2, 3]⟩] }
        cursor := some 100#16, newest := some 100#16 }
    emitter := { Emitter.reset with
      state := .record, slot := some 0, next := some kind, row := 3, stopping := stopping }
    uplink := ⟨.frame ⟨kind, 0, [], 0, 1⟩, 0, none, false⟩ }

/-- The head of the request queue is this request. -/
def asked (code : BitVec 8) (payload : List Word32) : State :=
  { State.reset with control := { Control.reset with queue := [⟨code, 7#16, payload⟩] } }

/-- The return lane in a state. -/
def laneIn (st : LaneState) (count : Nat) : State :=
  { State.reset with lane := ⟨st, some 1, count, [], 0, none⟩ }

/-! ### Witnesses: pad links -/

theorem witness_FrontCommandRuns : State.reset.pending = [] := rfl

theorem witness_PadLinkEventsChangeOneLink : ∃ w, Instr.trainingCountReset 23 (.data 0) = .trainingCountReset 23 w :=
  ⟨_, rfl⟩

theorem witness_FramesOutsideRunAreIgnored_deaf :
    ∀ st ∈ [RxState.disabled, .search, .held],
      ((inState st).link 0).rx.aligned = false ∧ ((inState st).link 0).rx.frame = none := by decide

theorem witness_TrainingCounts :
    ((inState .search).link 0).rx.state = .search ∧ ((inState .training).link 0).rx.state = .training ∧
    ((inState .training).link 0).rx.trainingCount + 1 < 64 ∧ LaneWord.data 0xC5C5#16 ≠ .control 0xC5C5#16 := by decide

theorem witness_TrainingCounts_last :
    let s := (inState .training).mapLink 0 fun k => { k with rx := { k.rx with trainingCount := 63 } }
    (s.link 0).rx.state = .training ∧ (s.link 0).rx.trainingCount + 1 = 64 := by decide

theorem witness_TrainingCounts_sixty_four :
    (State.reset.link 23).rx.state = .search ∧ 63 ≤ 63 ∧ 0 ≤ 63 := by decide

theorem witness_AlignmentLoss :
    ((inState .training).link 0).rx.state = .training ∧
    (∀ st ∈ [RxState.ready, .run, .resync], ((inState st).link 0).rx.state = st ∧
      (ageWindow 1 ((inState st).link 0).rx.errorWindow).length + 1 < 4) ∧
    (threeErrors.link 0).rx.state = .run ∧ 4 ≤ (ageWindow 1 (threeErrors.link 0).rx.errorWindow).length + 1 ∧
    (threeErrors.link 0).rx.aligned = true := by decide

theorem witness_AlignmentLoss_three_left :
    let s := (running true).mapLink 0 fun k => { k with rx := { k.rx with errorWindow := [0, 1, 255] } }
    (s.link 0).rx.state = .run ∧ (ageWindow 1 (s.link 0).rx.errorWindow).length + 1 < 4 := by decide

theorem witness_HeartbeatFramesReceived_first :
    ((inState .ready).link 0).rx.state = .ready ∧ ((inState .resync).link 0).rx.state = .resync := by decide

theorem witness_HeartbeatFramesReceived :
    (∀ b, ((running b).link 0).rx.state = .run ∧ ((running b).link 0).rx.frame = none ∧
      ((running b).link 0).rx.lastHeartbeat = some 10#16 ∧ ((running b).link 0).rx.heartbeatOpen = b) ∧
    (11#16 - 10#16).toNat = 1 ∧ (32777#16 - 10#16).toNat = 32767 ∧ (10#16 - 10#16).toNat = 0 ∧
    (32778#16 - 10#16).toNat = 32768 := by decide

/-- R59 and R62: after the four words of an HB_CLOSE frame a mark of 251 words ago stands at 255, and one of 252 has left. -/
theorem test_frame_words_age_the_window :
    let k := { (running true).link 0 with rx := { ((running true).link 0).rx with errorWindow := [251, 252] } }
    (k.closeFrame 0 10#16 0#16 0#16).rx.errorWindow = [255] := by decide

/-- R66: a code error inside a frame in RUN is a framing error, and the receiver skips. -/
theorem test_code_error_in_a_frame :
    let k := (((running true).link 0).receive ⟨0xA403#16, [5#16, 7#16, 9#16]⟩).codeError
    k.counters.framingErrors = 1 ∧ k.counters.codeErrors = 1 ∧ k.rx.skipping = true ∧ k.rx.frame = none := by decide

theorem witness_HeartbeatFramesReceived_legal : ReceiverLegal ((running true).link 0).rx := by
  have hw : ((running true).link 0).rx.errorWindow = [] := by decide
  have hf : ((running true).link 0).rx.frame = none := by decide
  exact
    { training := by decide, counting := by decide, bursts := by decide, window := by decide, noLoss := by decide
      ages := fun a ha => by rw [hw] at ha; cases ha
      alignment := by decide, running := by decide, opened := by decide, framed := by decide
      opening := fun _ f h => by rw [hf] at h; cases h
      begun := fun _ f h => by rw [hf] at h; cases h
      skips := by decide }

/-- Link 0 in RUN, where this control word cut the frame before and began the next one. -/
def begunBy (isOpen : Bool) (c : Word16) : State :=
  (running isOpen).mapLink 0 fun k => { k with rx := { k.rx with frame := some ⟨c, []⟩ } }

theorem witness_frames_begun :
    (∀ b, ((begunBy b 0xA1FF#16).link 0).rx.state = .run ∧
      ((begunBy b 0xA1FF#16).link 0).rx.lastHeartbeat = some 10#16) ∧
    ((begunBy true 0xA1FF#16).link 0).rx.frame = some ⟨BitVec.ofNat 16 (0xA100 + (0xFF#8).toNat), []⟩ ∧
    ((begunBy true 0xA205#16).link 0).rx.frame = some ⟨BitVec.ofNat 16 (0xA200 + (5#8).toNat), []⟩ ∧
    ((begunBy true 0xA403#16).link 0).rx.frame = some ⟨BitVec.ofNat 16 (0xA400 + (3#8).toNat), []⟩ ∧
    ((begunBy true 0xA403#16).link 0).rx.heartbeatOpen = true := by decide

/-- Worked from R69 and R71: a burst whose control word has ended the one before counts once in the bursts since the open. -/
theorem test_cut_burst_counts_once :
    let k := (((running true).link 0).receive ⟨0xA403#16, [0#16, 9#16, 5#16]⟩).control 0xA404#16
    k.rx.burstsSinceOpen = 2 ∧ k.queue.items.length = 1 ∧ k.rx.frame = some ⟨0xA404#16, []⟩ ∧
    (k.burstFrame 4 0#16 [5#16] 0#16).rx.burstsSinceOpen = 2 ∧
    (k.burstFrame 4 0#16 [5#16] 0#16).queue.items.length = 2 := by decide +kernel

theorem witness_HeartbeatClose :
    ∀ b, ((running b).link 0).rx.state = .run ∧ ((running b).link 0).rx.frame = none ∧
      ((running b).link 0).rx.heartbeatOpen = b := by decide

theorem witness_BurstFramesReceived :
    (∀ b, ((running b).link 0).rx.state = .run ∧ ((running b).link 0).rx.frame = none ∧
      ((running b).link 0).rx.heartbeatOpen = b) ∧
    (511#16).toNat ≤ 511 ∧ 1 ≤ [7#16].length ∧ (List.replicate 512 7#16).length ≤ 512 := by decide +kernel

theorem witness_BurstFramesReceived_truncated :
    ((running true).link 0).rx.state = .run ∧ ((running true).link 0).rx.frame = none ∧
    ((running true).link 0).rx.heartbeatOpen = true ∧ (511#16).toNat ≤ 511 ∧ 1 ≤ [7#16].length ∧
    [7#16].length ≤ (512#16).toNat ∧ (512#16).toNat ≤ 512 := by decide

theorem witness_FramingErrors :
    (∀ b, ((running b).link 0).rx.state = .run ∧ ((running b).link 0).rx.frame = none ∧
      ((running b).link 0).rx.heartbeatOpen = b) ∧
    controlKind 0xE000#16 = .unknown ∧ controlKind 0xA2FF#16 = .hbClose ∧ controlKind 0xA49F#16 = .burst 0x9F := by
  decide

theorem witness_FramingErrors_cut :
    (∀ f ∈ [FrameInProgress.mk 0xA100#16 [], ⟨0xA200#16, [1, 2]⟩, ⟨0xA403#16, []⟩, ⟨0xA403#16, [511, 512]⟩],
      f.wellFormed = true ∧ frameHasSample f = false) ∧
    (∀ ws ∈ [[512#16], [0#16, 0#16], [511#16, 513#16]], (FramingEvent.badBurst ⟨0xA403#16, ws⟩).wellFormed = true) ∧
    controlKind 0xA100#16 = .hbOpen ∧ controlKind 0xC5C5#16 = .train ∧
    [0xA200#16, 0xA403#16, 0xE000#16].map controlKind = [.hbClose, .burst 3, .unknown] := by decide

theorem witness_FramingErrors_code_error :
    (FrameInProgress.mk 0xA403#16 [5#16, 7#16, 9#16]).wellFormed = true ∧
    (0 :: ageWindow (3 + 2) [10, 250]).length < 4 ∧ 4 ≤ (0 :: ageWindow (3 + 2) [10, 11, 250]).length ∧
    (0 :: ageWindow (3 + 2) [10, 11, 251]).length < 4 := by decide

theorem witness_FramesOutsideRunAreIgnored :
    ReceiverLegal ((inState .ready).link 0).rx ∧ ((inState .ready).link 0).rx.state = .ready ∧
    ((inState .ready).link 0).rx.frame = none ∧ controlKind 0xA200#16 ≠ .hbOpen := by
  have hw : ((inState .ready).link 0).rx.errorWindow = [] := by decide
  have hf : ((inState .ready).link 0).rx.frame = none := by decide
  refine ⟨?_, by decide, hf, by decide⟩
  exact
    { training := by decide, counting := by decide, bursts := by decide, window := by decide, noLoss := by decide
      ages := fun a ha => by rw [hw] at ha; cases ha
      alignment := by decide, running := by decide, opened := by decide, framed := by decide
      opening := fun _ f h => by rw [hf] at h; cases h
      begun := fun _ f h => by rw [hf] at h; cases h
      skips := by decide }

theorem witness_FramesOutsideRunAreIgnored_cut :
    (FrameInProgress.mk 0xA101#16 []).wellFormed = true ∧ frameHasSample ⟨0xA101#16, []⟩ = false ∧
    (FramingEvent.badBurst ⟨0xA403#16, [512#16]⟩).wellFormed = true ∧ controlKind 0xA1FF#16 = .hbOpen ∧
    controlKind 0xA200#16 ≠ .hbOpen := by decide

/-- R61: an HB_OPEN control word that cuts an HB_OPEN frame in READY begins a new one. -/
theorem test_cut_in_ready_begins_anew :
    (((inState .ready).link 0).framingEvent (.cut ⟨0xA101#16, []⟩ 0xA102#16)).rx.frame = some ⟨0xA102#16, []⟩ := by
  decide

theorem witness_FramesOutsideRunAreIgnored_resync :
    ((inState .resync).link 0).rx.state = .resync ∧ ((inState .resync).link 0).rx.frame = none := by decide

/-- Bursts that fill 2,046 units, and one LINK_DOWN that makes it 2,047. -/
def fullItems (n : Nat) : List Item :=
  List.replicate 7 (.burst ⟨0, 0, List.replicate 512 0, false, false, false⟩) ++
    [.burst ⟨0, 0, List.replicate 492 0, false, false, false⟩] ++ List.replicate n .loss

theorem witness_QueueAdmission :
    (Queue.mk (fullItems 0) false).fill + (Item.hbOpen 5 false).size ≤ 2047 ∧
    2047 < (Queue.mk (fullItems 1) false).fill + (Item.hbOpen 5 false).size ∧
    (Queue.mk (fullItems 0) true).fill + 1 ≤ 2047 ∧ (Item.hbOpen 5 false).isHbOpen = true ∧ Item.loss.isHbOpen = false ∧
    2047 < (Queue.mk (fullItems 1) true).fill + 1 := by decide +kernel

/-- Link 0 is in RUN with heartbeat 108 open. Its queue holds this HB_OPEN and these items, in drop mode. -/
def blockedAt (head : Heartbeat) (items : List Item) : State :=
  heldState.mapLink 0 fun k =>
    { k with
      rx := { ((running true).link 0).rx with lastHeartbeat := some 108#16 }
      queue := ⟨.hbOpen head false :: items, true⟩ }

/-- The slice of 108 lies eight slices after the cursor, that of 107 seven; the queue has room, or has filled. -/
theorem witness_QueueAdmission_blocked :
    (blockedAt 108 [.loss]).headBlocked 0 = true ∧ (blockedAt 107 [.loss]).headBlocked 0 = false ∧
    ((blockedAt 108 [.loss]).link 0).queue.dropMode = true ∧ ((blockedAt 108 [.loss]).link 0).queue.fill + 1 ≤ 2047 ∧
    2047 ≤ ((blockedAt 108 (fullItems 0)).link 0).queue.fill := by decide +kernel

/-- R73 and R178: a blocked link's queue in drop mode admits an HB_OPEN that fits. -/
theorem test_blocked_queue_with_room :
    (((blockedAt 108 [.loss]).link 0).openFrame 0 109#16).queue =
      ⟨[.hbOpen 108#16 false, .loss, .hbOpen 109#16 false], false⟩ := by decide

/-- R179: once it has filled, a blocked link's queue stays in drop mode, and drops the implicit close and the HB_OPEN. -/
theorem test_blocked_queue_filled :
    let k := (blockedAt 108 (fullItems 0)).link 0
    (k.openFrame 0 109#16).queue = k.queue ∧ (k.openFrame 0 109#16).counters.ingressDrops = 2 := by decide +kernel

/-! ### Witnesses: intake -/

theorem witness_ArbiterServesInTurn :
    let s := waiting (.hbOpen 102#16 false) heldState
    s.emitter.stopping = none ∧ s.selected = some 0 ∧ (s.link 0).queue.items = [.hbOpen 102#16 false] ∧
    State.reset.selected = none ∧ (State.reset.setStopping .run).emitter.stopping ≠ none := by decide

theorem witness_MappingUnderOneSpan :
    heldState.ring.cursor = some 100#16 ∧ heldState.settings.commit = none ∧ 32768 ≤ (32868#16 - 100#16).toNat ∧
    (108#16 - 100#16).toNat < 32768 ∧ 8 ≤ (108#16 - 100#16).toNat / 2 ^ heldState.settings.active.span ∧
    (107#16 - 100#16).toNat / 2 ^ heldState.settings.active.span = (7 : Fin 8).val := by decide

theorem witness_CommitsKeepTheMapping :
    ∃ c, spanState.settings.commit = some c ∧ spanState.ring.cursor = some 1000#16 ∧
      c.switchHeartbeat = 1008 ∧ c.oldSpan = 1 ∧ 32768 ≤ (999#16 - 1000#16).toNat ∧
      (1007#16 - 1000#16).toNat < (c.switchHeartbeat - 1000#16).toNat ∧
      (1008#16 - 1000#16).toNat = (c.switchHeartbeat - 1000#16).toNat ∧ spanState.settings.active.span = 3 :=
  ⟨_, rfl, by decide⟩

theorem witness_CommitsKeepTheMapping_switch :
    4 ≤ 4 ∧ heldState.ring.cursor = some 100#16 ∧ heldState.settings.commit = none ∧
    heldState.settings.active.span ≤ 4 ∧ heldState.settings.staging.span ≤ 4 ∧ (227#16 - 100#16).toNat < 128 ∧
    (227#16 - 100#16).toNat ≤ (227#16 - 100#16).toNat ∧ (16#16).toNat % 2 ^ max 4 0 = 0 ∧
    1 ≤ (16#16 - 15#16).toNat := by decide

theorem witness_CommitsKeepTheMapping_release :
    let s : State := { spanState with ring := { spanState.ring with cursor := some 1008#16 } }
    ∃ c, s.settings.commit = some c ∧ s.ring.cursor = some c.switchHeartbeat := ⟨_, rfl, by decide⟩

theorem witness_CursorSetByFirstHeartbeat :
    let s := waiting (.hbOpen 5#16 false) State.reset
    takes s (.hbOpen 5#16 false) ∧ s.ring.cursor = none ∧ s.settings.commit = none ∧ s.settings.active.span ≤ 4 ∧
    ∀ i, (s.slot i).state = .free :=
  ⟨takes_of_map (by decide), by decide⟩

theorem witness_CursorSetByFirstHeartbeat_partial :
    let s := waiting (.hbOpen 5#16 false) { inState .run with settings :=
      { SettingsUnit.reset with active := { Settings.default with span := 3 } } }
    takes s (.hbOpen 5#16 false) ∧ s.ring.cursor = none ∧ (s.intake 0).position = none ∧
    s.settings.active.span ≤ 4 ∧ 5 - 5 % 2 ^ s.settings.active.span = 0 :=
  ⟨takes_of_map (by decide), by decide⟩

theorem witness_SlotsOpenAsTheTablesSay :
    (∃ c, spanState.settings.commit = some c ∧ spanState.sliceFirst 3 +
      BitVec.ofNat 16 (2 ^ (spanState.settings.settingsOf (spanState.epochAt 3)).span) = c.switchHeartbeat) ∧
    heldState.settings.commit = none ∧ heldState.control.live.timeout ≠ 0 ∧
    heldState.settings.active.expected.getLsbD 0 = true ∧ (0#24).getLsbD 0 = false := by
  refine ⟨⟨_, rfl, by decide⟩, by decide⟩

theorem witness_HbOpenTaken :
    let s := waiting (.hbOpen 107#16 false) heldState
    takes s (.hbOpen 107#16 false) ∧ s.ring.cursor = some 100#16 ∧ s.place 107#16 = .within 7 ∧
    (s.slot (s.slotAt 7)).state = .free :=
  ⟨takes_of_map (by decide), by decide⟩

theorem witness_HbOpenTaken_held_slot :
    let s := waiting (.hbOpen 100#16 false) heldState
    takes s (.hbOpen 100#16 false) ∧ s.place 100#16 = .within 0 ∧ (s.slot (s.slotAt 0)).state ≠ .free ∧
    (s.slot (s.slotAt 1)).state ≠ .free ∧ (s.slot (s.slotAt 2)).state = .free :=
  ⟨takes_of_map (by decide), by decide⟩

theorem witness_HbOpenTaken_behind :
    let s := waiting (.hbOpen 32868#16 false) heldState
    takes s (.hbOpen 32868#16 false) ∧ s.ring.cursor = some 100#16 ∧ 32768 ≤ (32868#16 - 100#16).toNat :=
  ⟨takes_of_map (by decide), by decide⟩

theorem witness_HbOpenTaken_first_of_link :
    let s := waiting (.hbOpen 101#16 false) (heldState.setIntake 0 ⟨none, none⟩)
    takes s (.hbOpen 101#16 false) ∧ (s.intake 0).position = none ∧ s.place 101#16 = .within 1 ∧
    (s.slot (s.slotAt 0)).state = .filling ∧ (s.record (s.slotAt 0) 0).verdict = .pending ∧
    (s.record (s.slotAt 1) 0).verdict = .pending :=
  ⟨takes_of_map (by decide), by decide⟩

theorem witness_HbOpenTaken_skipping :
    let s := waiting (.hbOpen 104#16 false) heldState
    takes s (.hbOpen 104#16 false) ∧ (s.intake 0).position = some 101#16 ∧ s.place 104#16 = .within 4 ∧
    skipped 101#16 104#16 = [102#16, 103#16] :=
  ⟨takes_of_map (by decide), by decide⟩

theorem witness_PartsAndEpochs :
    heldState.ownPart 0 101#16 = some 1 ∧ heldState.marginPart 0 101#16 = some 0 ∧ heldState.settings.commit = none ∧
    (∃ c, spanState.settings.commit = some c ∧ spanState.ring.cursor = some 1000#16 ∧
      (c.switchHeartbeat - 1000#16).toNat % 2 ^ c.oldSpan = 0 ∧ (c.switchHeartbeat - 1000#16).toNat < 32768 ∧
      1#8 ≠ c.oldEpoch) ∧ spanState.settings.active.span ≤ 4 :=
  ⟨by decide, by decide, by decide, ⟨_, rfl, by decide⟩, by decide⟩

theorem witness_SkippedHeartbeats :
    (skipped 100#16 102#16)[0]? = some 101#16 ∧ heldState.ownPart 0 101#16 = some 1 ∧
    heldState.marginPart 0 101#16 = some 0 ∧ heldState.ownPart 0 102#16 = none := by decide

theorem witness_BurstTaken :
    let s := waiting (.burst smallBurst) (withEntry ⟨206, 10, 30, 112, false, false⟩ heldState)
    takes s (.burst smallBurst) ∧ (s.intake 0).openHeartbeat = some 101#16 ∧ s.ownPart 0 101#16 = some 1 ∧
    s.marginPart 0 101#16 = some 0 ∧ (30#7).toNat < 96 ∧ (s.settings.settingsOf 0).policy = .keep ∧
    ((s.padTable.entries .a)[padIndex 0 7]).row = 30 ∧ ((s.padTable.entries .a)[padIndex 0 7]).masked = false ∧
    s.settings.active.windowOf 30 = some ⟨0, 96, .a⟩ :=
  ⟨takes_of_map (by decide), by decide⟩

theorem witness_BurstTaken_margin_only :
    let s := waiting (.burst smallBurst) (heldState.mapRecord 1 0 fun r => { r with verdict := .missing })
    takes s (.burst smallBurst) ∧ (s.intake 0).openHeartbeat = some 101#16 ∧ s.ownPart 0 101#16 = none ∧
    s.marginPart 0 101#16 = some 0 :=
  ⟨takes_of_map (by decide), by decide⟩

theorem witness_BurstTaken_late :
    takes (waiting (.burst smallBurst) closedState) (.burst smallBurst) ∧
    ((waiting (.burst smallBurst) closedState).intake 0).openHeartbeat = none :=
  ⟨takes_of_map (by decide), by decide⟩

theorem witness_BurstTaken_no_part :
    let s := waiting (.burst smallBurst) (heldState.setIntake 0 ⟨some 99#16, some 99#16⟩)
    takes s (.burst smallBurst) ∧ (s.intake 0).openHeartbeat = some 99#16 ∧ s.ownPart 0 99#16 = none ∧
    s.marginPart 0 99#16 = none :=
  ⟨takes_of_map (by decide), by decide⟩

theorem witness_BurstTaken_refused :
    let b : Burst := { smallBurst with channel := 160, checkError := true }
    takes (waiting (.burst b) heldState) (.burst b) ∧ 160 ≤ b.channel.toNat ∧ (159#8).toNat < 160 ∧
    96 ≤ (96#7).toNat ∧ ((heldState.padTable.entries .a)[padIndex 0 7]).masked = true ∧
    (b.checkError || b.truncated) = true ∧
    { Settings.default with windows := Vector.replicate 8 ⟨0, 0, .a⟩ }.windowOf 30 = none :=
  ⟨takes_of_map (by decide), by decide⟩

theorem witness_BurstTaken_window :
    Settings.default.firstFault = none ∧ 1 ≤ Settings.default.windows[(0 : Fin 8)].count ∧
    Settings.default.windows[(0 : Fin 8)].start ≤ 95 ∧ 95 < 0 + 96 ∧ Settings.default.windowOf 96 = none := by decide

theorem witness_StoredWholeOrDropped :
    1 + (([] : List Nat).length + 15) / 16 ≤ heldState.freeCells.length ∧
    heldState.freeCells.length < 1 + (longPulse.codes.length + 15) / 16 ∧
    takes (waiting (.burst smallBurst) heldState) (.burst smallBurst) :=
  ⟨by decide, by decide, takes_of_map (by decide)⟩

theorem witness_MarginCopies :
    (FormedPulse.mk 23 (plainCodes [1, 2]) false).bin < (heldState.slot 0).margin ∧ 1 ≤ 64 ∧ 16 ≤ 16 ∧ 17 ≤ 32 ∧
    33 ≤ 48 ∧ 49 ≤ 64 := by decide

/-- Seven cells are enough for two pulses, one of them with a copy. -/
theorem witness_MarginCopies_filed :
    let s : State := { heldState with freeCells := [1, 2, 3, 4, 5, 6, 7] }
    let ps : List FormedPulse := [⟨23, plainCodes [1, 2], false⟩, ⟨24, plainCodes [3], false⟩]
    let low := ps.filter fun p => p.bin < (s.slot 0).margin
    (1 : SlotId) ≠ 0 ∧ low.length = 1 ∧
    (ps.map fun p => cellsFor p.codes.length).sum +
      (low.map fun p => cellsFor (min p.codes.length ((s.slot 0).margin - p.bin))).sum ≤ s.freeCells.length := by
  decide

/-- An HB_CLOSE of heartbeat 101. -/
def someClose : Close := ⟨101#16, some 3#16, true, false, false, true⟩

theorem witness_HbCloseTaken :
    let s := waiting (.hbClose someClose) heldState
    takes s (.hbClose someClose) ∧ (s.intake 0).openHeartbeat = some 101#16 ∧ s.ownPart 0 101#16 = some 1 ∧
    s.marginPart 0 101#16 = some 0 ∧ (s.slot 1).margin ≠ 0 ∧
    101#16 = (s.slot 1).first + BitVec.ofNat 16 (2 ^ (s.slot 1).span) - 1 :=
  ⟨takes_of_map (by decide), by decide⟩

/-- The last waiting link of the cursor slot closes, with its margin taken: slot 0 completes and an IDLE emitter takes it. -/
theorem witness_HbCloseTaken_completes :
    let s := waiting (.hbClose someClose) heldState
    s.marginPart 0 101#16 = some 0 ∧ (s.slot 0).state = .filling ∧
    (∀ l : LinkId, l ≠ 0 → (s.record 0 l).verdict ≠ .pending) ∧ s.ring.cursorSlot = 0 ∧ s.emitter.state = .idle ∧
    s.emitter.stopping = none ∧ (∀ i, (s.slot i).state = .filling → (s.slot i).flags.incomplete = false) := by decide

theorem witness_HbCloseTaken_late :
    takes (waiting (.hbClose someClose) closedState) (.hbClose someClose) ∧
    ((waiting (.hbClose someClose) closedState).intake 0).openHeartbeat = none :=
  ⟨takes_of_map (by decide), by decide⟩

theorem witness_HbCloseTaken_earlier_heartbeat :
    let s := waiting (.hbClose someClose) (heldState.mapSlot 1 fun t => { t with span := 1, margin := 0 })
    takes s (.hbClose someClose) ∧ s.ownPart 0 101#16 = some 1 ∧ (s.slot 1).margin = 0 ∧
    101#16 ≠ (s.slot 1).first + BitVec.ofNat 16 (2 ^ (s.slot 1).span) - 1 :=
  ⟨takes_of_map (by decide), by decide⟩

theorem witness_LossAndLinkDownTaken :
    takes (waiting .loss heldState) .loss ∧ ((waiting .loss heldState).intake 0).openHeartbeat = some 101#16 ∧
    takes (waiting .loss closedState) .loss ∧ ((waiting .loss closedState).intake 0).openHeartbeat = none :=
  ⟨takes_of_map (by decide), by decide, takes_of_map (by decide), by decide⟩

theorem witness_LossAndLinkDownTaken_link_down :
    let s := waiting (.linkDown .lost) heldState
    takes s (.linkDown .lost) ∧ (s.slot 0).state = .filling ∧ (s.record 0 0).verdict = .pending ∧
    (s.record 0 0).closedLast = true ∧ (s.record 1 0).verdict = .pending ∧ (s.record 1 0).closedLast = false ∧
    takes (waiting (.linkDown .held) heldState) (.linkDown .held) :=
  ⟨takes_of_map (by decide), by decide, by decide, by decide, by decide,
    by decide, takes_of_map (by decide)⟩

theorem witness_DeadlinesCountDownAndExpire :
    (∀ i, (heldState.slot i).state = .filling → (heldState.slot i).hasPending = true) ∧
    (heldState.slot 0).state = .filling ∧ (heldState.slot 0).deadline = some 0 ∧
    (heldState.record 0 0).closedLast = true ∧ (heldState.record 1 0).closedLast = false ∧
    (heldState.slot 7).state ≠ .filling ∧ heldState.ring.cursorSlot = 0 ∧ heldState.ring.cursor ≠ none ∧
    heldState.emitter.state = .idle ∧ heldState.emitter.stopping = none ∧
    (heldState.setStopping .run).emitter.stopping ≠ none := by decide

end Sys2Proof.Tests
end

