-- ==== Sys2Proof/Tests/Witnesses.lean ====
section
/-! SUPPORT. For the statements about conditioning, layouts, emission and the control lane: a state and operands that meet their
hypotheses. -/

namespace Sys2Proof.Tests

open Sys2Proof Sys2Proof.Machine Sys2Proof.Safety

/-! ### Witnesses: conditioning and layouts -/

theorem witness_ConditionedValues :
    (-512 : Int) ≤ -512 ∧ (511 : Int) ≤ 511 ∧ unlimitedValue 4095 (-512) 0 < 0 ∧ 1023 < unlimitedValue 0 511 1023 ∧
    unlimitedValue 0 0 1023 ≤ 1023 ∧ smallBurst.samples[1]? = some 300 := by decide

theorem witness_KeptSamples :
    [Conditioned.mk 10 false][0]? = some ⟨10, false⟩ ∧ [Conditioned.mk 0 false][0]? = some ⟨0, false⟩ ∧
    caseEntry.nosuppress = false ∧ PadEntry.reset.threshold = 0 ∧
    (∀ m ∈ keepMask caseEntry [⟨9, false⟩], m = false) := by decide

theorem witness_MarkedRuns :
    (∀ r ∈ [Run.mk 0 2, ⟨3, 1⟩, ⟨9, 4⟩], 1 ≤ r.length) ∧
    ([Run.mk 0 2, ⟨3, 1⟩, ⟨9, 4⟩].Pairwise fun r q => r.start + r.length < q.start) ∧
    mergeRuns 1 [⟨0, 2⟩, ⟨3, 1⟩, ⟨9, 4⟩] = [⟨0, 4⟩, ⟨9, 4⟩] ∧
    extend 1 2 [false, false, true, false, false, false] = [false, true, true, true, true, false] ∧
    runsFrom 0 none [false, true, true, true, true, false] = [⟨1, 4⟩] := by decide

theorem witness_RunsAreCutIntoPieces :
    1 ≤ 1 ∧ 512 ≤ 512 ∧ (splitRun ⟨0, 512⟩)[7]? = some ⟨448, 64, true⟩ ∧
    (⟨1, 11, false⟩ : Piece) ∈ pieces (caseSettings 1) caseEntry (conditionAll (caseSettings 1) caseEntry caseBurst) ∧
    (Piece.mk 1 11 false).start + (Piece.mk 1 11 false).length ≤
      (conditionAll (caseSettings 1) caseEntry caseBurst).length ∧
    caseBurst.start + caseBurst.samples.length ≤ 512 ∧
    conditionBurst (caseSettings 1) caseEntry caseBurst =
      .pulses [⟨201, plainCodes [5, 40, 70, 66, 11, 0, 0, 3, 45, 10, 1], false⟩] := by decide

theorem witness_CodesFollowTheCurve :
    CurveInRange caseCurve ∧ caseCurve.refused = false ∧ (Conditioned.mk 0 false).value ≤ (Conditioned.mk 1023 true).value ∧
    (Conditioned.mk 63 false).value < caseCurve.knee1 ∧ unlimitedCode caseCurve 63 ≤ 255 := by
  refine ⟨by unfold CurveInRange; decide, by decide⟩

theorem witness_CodesFollowTheCurve_segments :
    caseCurve.segments = 3 ∧ caseCurve.knee1 ≤ 64 ∧ 255 < caseCurve.knee2 ∧ caseCurve.knee2 ≤ 256 ∧
    { caseCurve with segments := 2 }.segments = 2 ∧ Curve.segments ⟨1, 1, 1022, 1, 1⟩ = 1 := by decide

theorem witness_RecordsReadBack_any_words : (List.replicate 13 0xFFFFFFFF#32).length = 13 := rfl

theorem witness_RecordsReadBack : InRange Settings.default := by
  refine ⟨by decide, by decide, by decide, by decide, by decide, by decide, ?_, ?_, by decide, by decide⟩ <;>
    (unfold CurveInRange; decide)

/-! ### Witnesses: emission -/

theorem witness_EpochMarkAndHeadSent :
    (emitting .epochMark none).sending .epochMark = some (0, ⟨.epochMark, 0, [], 0, 1⟩) ∧
    (emitting .head (some .run)).sending .head = some (0, ⟨.head, 0, [], 0, 1⟩) ∧
    (∃ r : RowId, ((emitting .head none).slot 0).rows[r] ≠ []) ∧ (∀ r : RowId, Slot.free.rows[r] = []) :=
  ⟨rfl, rfl, ⟨3, by decide⟩, by decide⟩

theorem witness_RowSent :
    (emitting .row none).sending .row = some (0, ⟨.row, 0, [], 0, 1⟩) ∧ (emitting .row none).emitter.stopping = none ∧
    (emitting .row (some .soft)).sending .row = some (0, ⟨.row, 0, [], 0, 1⟩) ∧
    (emitting .row (some .soft)).emitter.stopping ≠ none ∧
    (((emitting .row none).slot 0).rows[(3 : RowId)]).drop 1 = [] ∧
    (∀ r : RowId, 3 < r → ((emitting .row none).slot 0).rows[r] = []) := by decide

/-- The row 3 of slot 0 holds two pulses, of which the frame being sent carries the first. -/
def rowGoesOn : State :=
  (emitting .row none).mapSlot 0 fun t => { t with
    rows := t.rows.set 3 [⟨longPulse, 0, [1, 2, 3]⟩, ⟨longPulse, 6, [7, 8, 9]⟩] }

theorem witness_RowSent_goes_on :
    rowGoesOn.sending .row = some (0, ⟨.row, 0, [], 0, 1⟩) ∧ ((rowGoesOn.slot 0).rows[(3 : RowId)]).drop 1 ≠ [] ∧
    rowGoesOn.emitter.state = .record ∧ rowGoesOn.emitter.stopping = none ∧ rowGoesOn.uplink.paused = false ∧
    rowGoesOn.uplink.opening = 0 ∧ rowGoesOn.uplink.port = none ∧ (95 : RowId).val = (94 : RowId).val + 1 ∧
    (∀ r : RowId, ¬ 95 < r) := by decide

theorem witness_RowSent_fitting :
    fitting 11 [⟨longPulse, 0, [1, 2, 3]⟩] = [] ∧
    fitting 12 [⟨longPulse, 0, [1, 2, 3]⟩] = [⟨longPulse, 0, [1, 2, 3]⟩] := by decide

theorem witness_TailSent :
    (emitting .tail none).sending .tail = some (0, ⟨.tail, 0, [], 0, 1⟩) ∧ (emitting .tail none).emitter.stopping = none ∧
    (emitting .tail none).ring.cursorSlot + 1 ≠ 0 ∧
    ((emitting .tail none).slot ((emitting .tail none).ring.cursorSlot + 1)).state ≠ .complete ∧
    (emitting .tail (some .run)).emitter.stopping ≠ none := by decide

theorem witness_TailSent_next_complete :
    let s := (emitting .tail none).mapSlot 1 fun t => { t with state := .complete }
    s.sending .tail = some (0, ⟨.tail, 0, [], 0, 1⟩) ∧ (s.slot (s.ring.cursorSlot + 1)).state = .complete ∧
    s.emitter.stopping = none ∧ s.uplink.opening = 0 ∧ s.uplink.port = none ∧ s.uplink.paused = false := by
  decide

theorem witness_TailSent_released :
    let c : PendingCommit := ⟨101#16, 0, 0, .default⟩
    let s : State := { emitting .tail none with settings := { SettingsUnit.reset with commit := some c, epoch := 1 } }
    s.sending .tail = some (0, ⟨.tail, 0, [], 0, 1⟩) ∧ s.settings.commit = some c ∧
    c.switchHeartbeat = (s.slot 0).first + BitVec.ofNat 16 (2 ^ (s.slot 0).span) := by decide

theorem witness_TailSent_last_epoch :
    let c : PendingCommit := ⟨101#16, 0, 0, .default⟩
    let s : State :=
      { emitting .tail none with
        settings := { SettingsUnit.reset with commit := some c, epoch := 1 }
        emitter := { (emitting .tail none).emitter with lastEpoch := some 1#8 } }
    s.sending .tail = some (0, ⟨.tail, 0, [], 0, 1⟩) ∧ s.settings.commit = some c ∧ c.switchHeartbeat = 101#16 ∧
    s.emitter.lastEpoch = some s.settings.epoch ∧ s.uplink.opening = 0 ∧ s.uplink.port = none ∧
    s.uplink.paused = false := by decide

theorem witness_UplinkFrameWords :
    ([] : List Word32).length ≤ 255 ∧ Slot.free.span ≤ 4 ∧ Slot.free.margin ≤ 511 ∧
    Slot.free.totals.pulses < 2 ^ 24 ∧
    (∀ l : LinkId, Slot.free.links[l].pulseCount ≤ 65535 ∧ Slot.free.links[l].droppedCount ≤ 65535) ∧
    Emitter.reset.sections ≤ 4095 := by decide

theorem witness_UplinkFrameWords_pulse :
    longPulse.start < 16384 ∧ longPulse.codes.length ≤ 64 ∧ (∀ c ∈ longPulse.codes, c ≤ 255) ∧
    39 < 4 * ((longPulse.codes.length + 3) / 4) := by decide

/-- A formed REPLY. -/
def someReply : Reply := ⟨7#16, [0x07000000#32]⟩

theorem witness_TailSent_reply_waits :
    let s : State := { emitting .tail none with uplink := ⟨.frame ⟨.tail, 0, [], 0, 1⟩, 0, some someReply, true⟩ }
    s.sending .tail = some (0, ⟨.tail, 0, [], 0, 1⟩) ∧ s.emitter.stopping = none ∧ s.uplink.port = some someReply ∧
    s.uplink.paused = true := by decide

/-- The reply holder holds a REPLY, with the transmitter and the port as given. -/
def withHolder (tx : Transmitter) (port : Option Reply) : State :=
  { State.reset with
    uplink := ⟨tx, 0, port, false⟩
    control := { Control.reset with holder := some someReply } }

theorem witness_UplinkBoundaries :
    State.reset.uplink.tx = .train ∧ 0 < State.reset.uplink.opening ∧
    (withHolder (.frame ⟨.reply, 0, [], 0, 0⟩) none).uplink.tx = .frame ⟨.reply, 0, [], 0, 0⟩ ∧
    (withHolder (.frame ⟨.reply, 0, [], 0, 0⟩) none).uplink.port = none ∧
    (withHolder .train none).control.holder = some someReply ∧ (withHolder .train none).uplink.opening = 0 ∧
    (withHolder .train (some someReply)).uplink.port = some someReply ∧
    (withHolder .train none).emitter.state ≠ .record := by decide

theorem witness_UplinkBoundaries_record :
    ∀ kind ∈ [FrameKind.epochMark, .head, .tail, .row],
      (emitting kind none).uplink.opening = 0 ∧ (emitting kind none).uplink.port = none ∧
      (emitting kind none).emitter.state = .record ∧ (emitting kind none).emitter.stopping = none ∧
      (emitting kind none).uplink.paused = false ∧ (emitting kind none).emitter.slot = some 0 ∧
      (emitting kind none).emitter.next = some kind ∧
      ((emitting kind none).slot 0).nextRow ((emitting kind none).orderOf 0) 3 = some 3 := by decide

/-! ### Witnesses: control lane -/

theorem witness_ReturnLaneWords :
    State.reset.lane.state = .search ∧ State.reset.lane.frame = none ∧ (laneIn .training 62).lane.state = .training ∧
    (laneIn .training 62).lane.trainingCount + 1 < 64 ∧ (laneIn .training 63).lane.trainingCount + 1 = 64 ∧
    (laneIn .aligned 64).lane.state = .aligned ∧
    ((laneIn .aligned 64).mapLane fun r => { r with frame := some [] }).lane.frame ≠ none := by decide

theorem witness_ReturnLaneWords_between_frames :
    ((0xA100#16 : Word16) ≠ 0xC5C5#16 ∧ (0xA100#16 : Word16) ≠ 0xE000#16 ∧ (0xA100#16 : Word16) ≠ 0xE800#16 ∧
      (0xA100#16 : Word16) ≠ 0xE900#16) ∧ (laneIn .aligned 64).lane.frame = none ∧
    ((laneIn .aligned 64).mapLane fun r => { r with frame := some [0x0700#16] }).lane.frame ≠ none := by decide

theorem witness_RequestFrames :
    (laneIn .aligned 64).lane.state = .aligned ∧ (laneIn .aligned 64).lane.frame = none ∧
    ([] : List Word32).length ≤ 255 ∧ (List.replicate 255 0#32).length ≤ 255 ∧
    BitVec.ofNat 16 (0x0000#32).toNat ≠ crc (halves [0x07000000#32]) ∧
    BitVec.ofNat 16 ((crc (halves [0x07000000#32])).setWidth 32).toNat = crc (halves [0x07000000#32]) ∧
    Control.reset.queue.length ≤ 3 ∧ requestInProgress [0x0700#16, 0#16, 0#16] = true ∧
    (0xE000#16 : Word16) ≠ 0xE800#16 ∧ (0xE000#16 : Word16) ≠ 0xE900#16 := by decide +kernel

theorem witness_RequestFrames_lost :
    State.reset.lane.state = .search ∧ (laneIn .training 62).lane.state = .training := by decide

theorem witness_RequestFrames_full :
    let s : State := { laneIn .aligned 64 with control :=
      { Control.reset with queue := List.replicate 4 ⟨7, 7#16, []⟩ } }
    s.lane.state = .aligned ∧ s.lane.frame = none ∧ 4 ≤ s.control.queue.length := by decide

theorem witness_RequestFrames_continued :
    let s := (laneIn .aligned 64).mapLane fun r => { r with frame := some [0x0700#16] }
    s.lane.state = .aligned ∧ s.lane.frame = some [0x0700#16] := by decide

/-- A request that stands at the head of the queue with the reply holder empty. -/
theorem witness_asked (code : BitVec 8) (payload : List Word32) :
    (asked code payload).control.queue = [⟨code, 7#16, payload⟩] ∧ (asked code payload).control.holder = none :=
  ⟨rfl, rfl⟩

theorem witness_ReadingRequests :
    (asked 0x01 [2#32]).control.queue = [⟨0x01, 7#16, [2#32]⟩] ∧ (asked 0x01 [2#32]).control.holder = none ∧
    (2#32 : Word32) ≠ 0 ∧ (2#32 : Word32) ≠ 1 ∧ (0x00010EFF#32).toNat % 4096 = 3839 ∧
    (0x00010EFF#32).toNat / 65536 % 64 = 1 ∧ (0x00200000#32).toNat / 65536 % 64 = 32 ∧
    (0x00210000#32).toNat / 65536 % 64 = 33 ∧ (0x00020EFF#32).toNat % 4096 + (0x00020EFF#32).toNat / 65536 % 64 = 3841 ∧
    (0x00000017#32).toNat % 256 = (23 : LinkId).val ∧ (0x00000018#32).toNat % 256 = 24 ∧
    24 < (0x00000019#32).toNat % 256 := by decide

theorem witness_WritingRequests :
    (asked 0x02 clampedWords).settings.commit = none ∧ clampedWords.length = 13 ∧
    (asked 0x04 []).padTable.copyNext = none ∧
    (0x00010EFF#32).toNat / 65536 % 64 = [caseEntry].length ∧ (0x00010EFF#32).toNat % 4096 + [caseEntry].length ≤ 3840 ∧
    1 ≤ [caseEntry].length ∧ [caseEntry].length ≤ 32 := by decide

theorem witness_WritingRequests_pad :
    (asked 0x04 []).settings.commit = none ∧ (asked 0x04 []).padTable.copyNext = none ∧
    (0x00000EFF#32).toNat / 65536 % 64 = 0 ∧ 32 < (0x00210000#32).toNat / 65536 % 64 ∧
    3839 < (0x00010F00#32).toNat % 4096 ∧
    3840 < (0x00020EFF#32).toNat % 4096 + (0x00020EFF#32).toNat / 65536 % 64 ∧
    (0xFF01FEFF#32).toNat / 65536 % 64 = 1 ∧ (0xFF01FEFF#32).toNat % 4096 + 1 = 3840 ∧
    [0xFFFFFFFF#32, 0xFFFFFFFF#32].length = 2 * 1 ∧ [0#32].length ≠ 2 * 1 := by decide

/-- The part with a bank copy at an index. -/
def copying (i : Nat) : State := { State.reset with padTable := { PadTable.reset with copyNext := some i } }

theorem witness_WritingRequests_copy :
    (copying 3839).padTable.copyNext = some (3839 : Fin 3840).val ∧ (copying 0).padTable.copyNext = some 0 ∧
    (copying 3840).padTable.copyNext = some 3840 ∧ (copying 3839).padTable.copyNext ≠ some 3840 := by decide

theorem witness_SetLiveWritesTheLiveSettings :
    (asked 0x0C [0xFFFFFE#32, 16384#32, 0#32]).control.queue = [⟨0x0C, 7#16, [0xFFFFFE#32, 16384#32, 0#32]⟩] ∧
    (asked 0x0C [0xFFFFFE#32, 16384#32, 0#32]).control.holder = none ∧ 16383 < (16384#32).toNat % 65536 ∧
    Live.reset.enable.getLsbD 0 = true ∧ (BitVec.ofNat 24 (0xFFFFFE#32).toNat).getLsbD 0 = false ∧
    ((inState .search).link 0).rx.state ≠ .held ∧ ((inState .disabled).link 0).rx.state = .disabled ∧
    ((inState .held).link 0).rx.state = .held := by decide

/-- A COMMIT stands at the head of the request queue of a part with held slices. -/
def commitAsked (newest : Heartbeat) : State :=
  { heldState with
    ring := { heldState.ring with newest := some newest }
    control := (asked 0x06 []).control }

theorem witness_CommitOutcomes :
    let s := commitAsked 101
    s.control.queue = [⟨0x06, 7#16, []⟩] ∧ s.control.holder = none ∧ s.settings.commit = none ∧
    s.padTable.copyNext = none ∧ s.settings.staging.firstFault = none ∧ s.ring.cursor = some 100#16 ∧
    s.ring.newest = some 101#16 ∧ switchAfter 101 0 0 ≠ 100 ∧ (switchAfter 101 0 0 - 100).toNat = (1 : Fin 8).val + 1 ∧
    (s.slot (s.slotAt 1)).state = .filling ∧ (s.slot (s.slotAt 0)).state ≠ .free := by decide

theorem witness_CommitOutcomes_at_cursor : switchAfter 99 0 0 = 100 ∧ (commitAsked 99).ring.newest = some 99#16 := by
  decide

/-- Slot 0 completes when its margin is cut, and slot 0 is the cursor slot. -/
theorem witness_CommitOutcomes_taken :
    let s := commitAsked 100
    s.ring.newest = some 100#16 ∧ (switchAfter 100 0 0 - 100).toNat = (0 : Fin 8).val + 1 ∧
    (s.slot s.ring.cursorSlot).state = .filling ∧ (s.record 0 0).margin = .awaited ∧
    (∀ l : LinkId, l ≠ 0 → (s.record 0 l).verdict ≠ .pending) ∧ s.emitter.state = .idle ∧
    s.emitter.stopping = none := by decide

theorem witness_CommitOutcomes_last_epoch :
    let s : State := { commitAsked 99 with emitter := { Emitter.reset with lastEpoch := some 1#8 } }
    s.emitter.lastEpoch = some (s.settings.epoch + 1) ∧ s.ring.cursor = some (switchAfter 99 0 0) := by decide

theorem witness_CommitOutcomes_empty_ring :
    (asked 0x06 []).control.queue = [⟨0x06, 7#16, []⟩] ∧ (asked 0x06 []).settings.staging.firstFault = none ∧
    (asked 0x06 []).ring.cursor = none := by decide

theorem witness_CommitOutcomes_rejected :
    { Settings.default with rowTotal := 95 }.firstFault = some .windowTotal ∧
    { Settings.default with windows := Vector.replicate 8 ⟨0, 0, .a⟩ }.firstFault = some .noWindow ∧
    { Settings.default with curveB := ⟨3, 64, 64, 1, 1⟩ }.firstFault = some .curve ∧
    { Settings.default with windows := Vector.replicate 8 ⟨95, 2, .a⟩ }.firstFault = some .windowRange ∧
    { Settings.default with windows := Vector.replicate 8 ⟨0, 12, .a⟩ }.firstFault = some .windowOverlap := by decide

theorem witness_HoldAndRelease :
    (asked 0x0D [23#32]).control.queue = [⟨0x0D, 7#16, [23#32]⟩] ∧ (asked 0x0D [23#32]).control.holder = none ∧
    (23#32).toNat % 256 = (23 : LinkId).val ∧ 23 < (24#32).toNat % 256 ∧
    (asked 0x0E [0#32]).control.queue = [⟨0x0E, 7#16, [0#32]⟩] ∧ ((inState .held).link 0).rx.state = .held := by decide

theorem witness_ForceCloseGivesUpTheOldestSlot :
    let s : State := { heldState with control := (asked 0x0F []).control }
    s.control.queue = [⟨0x0F, 7#16, []⟩] ∧ s.control.holder = none ∧
    (∀ i, (s.slot i).state = .filling → (s.slot i).hasPending = true) ∧ (s.slot (s.slotAt 0)).state = .filling ∧
    (∀ k : Fin 8, k < 0 → (s.slot (s.slotAt k)).state ≠ .filling) ∧
    (∀ i, ((asked 0x0F []).slot i).state ≠ .filling) := by decide

theorem witness_QueryCauseReturnsTheTopCause :
    let s : State := { asked 0x0B [] with control := { (asked 0x0B []).control with controlOverrun := true } }
    s.control.queue = [⟨0x0B, 7#16, []⟩] ∧ s.control.holder = none ∧ s.isEnabled .controlOverrun = true ∧
    s.isPending .controlOverrun = true ∧
    (∀ d ∈ Cause.all, d.priority < Cause.controlOverrun.priority → d ≠ .poolLow → s.isPending d = false) ∧
    ({ s with freeCells := [], control := { s.control with live := { Live.reset with lowWater := 0 } } }).isPending
      .poolLow = false := by decide

theorem witness_QueryCauseReturnsTheTopCause_none :
    let s : State := { asked 0x0B [] with control :=
      { (asked 0x0B []).control with live := { Live.reset with causeMask := 0 } } }
    s.control.queue = [⟨0x0B, 7#16, []⟩] ∧ ∀ c ∈ Cause.all, s.isEnabled c = false := by decide

theorem witness_QueryCauseReturnsTheTopCause_details :
    let s : State := ((onLink fun k => { k with delta := ⟨true, false, false⟩ }).mapLink 23 fun k =>
      { k with queue := ⟨fullItems 1, false⟩ })
    (s.link 0).delta ≠ ⟨false, false, false⟩ ∧ (∀ l', l' < (0 : LinkId) → (s.link l').delta = ⟨false, false, false⟩) ∧
    congestionLevel s.control.live.congestion ≤ (s.link 23).queue.fill ∧
    (∀ l', l' < (23 : LinkId) → (s.link l').queue.fill < congestionLevel s.control.live.congestion) ∧
    { Control.reset with configReject := some .curve }.configReject = some .curve := by decide +kernel

theorem witness_RefusedRequests_never_busy :
    payloadLength 0x07 = some 0 ∧ (0x07#8) ≠ 0x02#8 ∧ spanState.settings.commit ≠ none ∧ [0#32].length ≠ 0 ∧
    payloadLength 0x02 = some 13 ∧ (copying 0).settings.commit = none ∧ (copying 0).padTable.copyNext ≠ none := by decide

theorem witness_RefusedRequests :
    (asked 0x12 []).control.queue = [⟨0x12, 7#16, []⟩] ∧ 0x12 ≤ (0x12#8).toNat ∧ (asked 0 []).control.holder = none ∧
    payloadLength 0x11 = some 0 ∧ requestOf 0x11 = some .softReset ∧ requestOf 0x12 = none ∧
    spanState.settings.commit ≠ none ∧ (copying 0).padTable.copyNext ≠ none ∧
    (withHolder .train none).control.holder ≠ none ∧ State.reset.control.queue = [] := by decide

theorem witness_RestartRequestsSetStopping :
    (asked 0x10 []).control.queue = [⟨0x10, 7#16, []⟩] ∧ (asked 0x11 []).control.queue = [⟨0x11, 7#16, []⟩] ∧
    (asked 0x11 []).control.holder = none := by decide

theorem witness_ValuesAfterResetsAndRestarts :
    (State.reset.setStopping .run).emitter.stopping = some .run ∧
    (State.reset.setStopping .run).uplink.tx = .train ∧ State.reset.emitter.stopping ≠ some .soft ∧
    (emitting .row (some .soft)).uplink.tx = .frame ⟨.row, 0, [], 0, 1⟩ := by decide

/-- The transmitter stands at the boundary where a SOFT_RESET is due, with the opening run and the port as given. -/
def dueAt (opening : Nat) (port : Option Reply) : State :=
  { emitting .tail (some .soft) with uplink := ⟨.boundary, opening, port, true⟩ }

theorem witness_ValuesAfterResetsAndRestarts_boundary :
    ∀ u ∈ [dueAt 3 none, dueAt 0 (some someReply), dueAt 0 none],
      u.uplink.tx = .boundary ∧ u.emitter.stopping = some .soft := by decide

/-- R123 and R131: at the boundary where a restart was due a waiting REPLY is sent after its effect. -/
theorem test_reply_sent_after_a_restart :
    (dueAt 0 (some someReply)).softReset.uplink.port = none ∧
    (match (dueAt 0 (some someReply)).softReset.uplink.tx with
      | .frame f => f.kind
      | .train | .boundary => .tail) = .reply := by decide

/-! ### Witnesses: what every step keeps -/

/-- A part on which a command waits, with a short free list. -/
def waitingState : State := { State.reset with freeCells := [3, 1], pending := [.alignmentFound 0 3] }

theorem witness_step : ∃ t, step waitingState = .next t ∧ (t.link 0).rx.state = .training := ⟨_, rfl, by decide⟩

theorem witness_QueuesStayWithinUnits : QueuesWithinUnits waitingState := by
  intro l
  have h : (waitingState.link l).queue = .empty := by revert l; decide
  rw [h]
  decide

theorem witness_ReceiversStayLegal : ReceiversLegal waitingState := by
  intro l
  have h : (waitingState.link l).rx = .reset := by revert l; decide
  rw [h]
  exact
    { training := by decide, counting := by decide, bursts := by decide, window := by decide, noLoss := by decide
      ages := fun a ha => by cases ha
      alignment := by decide, running := by decide, opened := by decide, framed := by decide
      opening := fun _ f hf => by cases hf
      begun := fun _ f hf => by cases hf
      skips := by decide }

theorem witness_SettingsStayLegal : SettingsLegal waitingState :=
  ⟨witness_RecordsReadBack, ⟨witness_RecordsReadBack, by decide⟩, fun c hc => by cases hc⟩

theorem witness_CellsStandOnceAlways :
    CellsStandOnce { heldState with pending := [.takeBurst] } ∧
    ∃ t, step { heldState with pending := [.takeBurst] } = .next t := by
  refine ⟨?_, ?_⟩
  · have h : heldCells { heldState with pending := [.takeBurst] } = [] := by decide
    rw [CellsStandOnce, h]
    decide
  · have h : heldState.beginTaking = none := by decide
    exact ⟨heldState, by
      have e : ({ heldState with pending := [] } : State) = heldState := rfl
      simp only [step, exec, execTakeBurst, e, h]⟩

theorem witness_RingStaysLegal : RingLegal waitingState := by
  have hs : ∀ i, waitingState.slot i = .free := by decide
  exact
    { emptied := fun i _ => hs i
      unset := fun _ i => by rw [hs]; rfl
      consecutive := fun j k _ h => absurd (by rw [hs]; rfl) h
      record := fun i => by rw [hs]; simp [waitingState, State.reset, Emitter.reset, Slot.free]
      active := fun i h => by cases h
      idle := fun _ => ⟨rfl, rfl⟩
      transmitting := fun f h => by cases h
      boundary := fun h => by cases h
      takesAtOnce := fun _ _ => by rw [hs]; decide }

/-- The emitter sends the ROW frame of row 3 of slot 0, whose one pulse holds cells 0 to 3; its end waits as a command. -/
def sendingRow : State :=
  { (emitting .row none).mapSlot 0 fun t =>
      { t with
        totals := { t.totals with cellsHeld := 4 }
        rows := t.rows.set 3 [⟨longPulse, 0, [1, 2, 3]⟩] } with
    freeCells := List.range' 4 16380
    pending := [.rowSent] }

theorem witness_CellCountsStay : CellsCounted sendingRow ∧ (slotCells (sendingRow.slot 0)) = [0, 1, 2, 3] := by
  refine ⟨⟨by decide, ?_⟩, by decide⟩
  have h : (sendingRow.ring.slots.toList.map fun t => t.totals.cellsHeld).sum = 4 := by decide
  have f : sendingRow.freeCells.length = 16380 := List.length_range'
  rw [cellSum, h, f]

theorem witness_EmissionStaysLegal_ring : RingLegal sendingRow where
  emptied := by decide
  unset := fun h => by cases h
  consecutive := by decide
  record := by decide
  active := fun i h => by
    have e : (0 : SlotId) = i := Option.some.inj h
    subst e
    decide
  idle := fun h => by cases h
  transmitting := fun f h _ => by
    have e : (⟨.row, 0, [], 0, 1⟩ : UplinkFrame) = f := Transmitter.frame.inj h
    subst e
    decide
  boundary := fun h => by cases h
  takesAtOnce := fun h => by cases h

theorem witness_EmissionStaysLegal :
    SettingsLegal sendingRow ∧ GeometryLegal sendingRow ∧ EmissionLegal sendingRow ∧
    ∃ t, step sendingRow = .next t := by
  refine ⟨⟨witness_RecordsReadBack, ⟨witness_RecordsReadBack, by decide⟩, fun c hc => (by cases hc)⟩,
    ⟨by decide, fun fc h _ => ?_, fun c hc => (by cases hc), fun fc h => ?_⟩, ⟨fun _ i h => ?_, fun _ _ _ h => ?_⟩, ⟨_, rfl⟩⟩
  · have e : 100#16 = fc := Option.some.inj h
    subst e
    decide
  · exact ⟨100#16, rfl, .inl ⟨0, by have e : 100#16 = fc := Option.some.inj h; subst e; decide, by decide⟩⟩
  · have e : (0 : SlotId) = i := Option.some.inj h
    subst e
    decide
  · cases h

theorem witness_SlotsStayLegal :
    SlotsLegal waitingState ∧ SlotLegal (heldState.slot 0) ∧ (heldState.slot 0).state = .filling := by
  refine ⟨fun i => ?_, ?_, by decide⟩
  · have h : waitingState.slot i = .free := by revert i; decide
    rw [h]
    exact ⟨by decide, by decide, by decide, by decide, by decide⟩
  · exact ⟨by decide, by decide, by decide, by decide, by decide⟩

theorem witness_ControlStaysLegal : ControlLegal waitingState ∧ LaneLegal waitingState.lane :=
  ⟨{ requests := by decide, lowWater := by decide, timeout := by decide, copy := fun i h => by cases h
     exclusive := by decide, opening := by decide },
   { training := by decide, counting := by decide, window := by decide, noLoss := by decide
     ages := fun a ha => by cases ha
     alignment := by decide, framed := by decide, short := fun ws h => by cases h }⟩

theorem witness_FramesStayLegal : FramesLegal waitingState :=
  { sending := fun f h => by cases h
    epochMark := fun f h => by cases h
    head := fun f h => by cases h
    tail := fun f h => by cases h
    waiting := fun r h => by cases h
    held := fun r h => by cases h }

end Sys2Proof.Tests
end

section
/-! The mapping of heartbeats to slots (R8): what `State.place` answers with the cursor set, the offset and the first
heartbeat of a slice with no commit pending, and O25 from them. -/

namespace Sys2Proof.Machine

open Sys2Proof

/-! ### What the mapping answers with the cursor set (R8, R9) -/

theorem State.place_eq_behind {s : State} {fc x : Heartbeat} (hc : s.ring.cursor = some fc)
    (hd : Config.halfTurn ≤ (x - fc).toNat) : s.place x = .behind := by
  simp only [State.place, hc, if_pos hd]

theorem State.place_eq_beyond {s : State} {fc x : Heartbeat} (hc : s.ring.cursor = some fc)
    (hd : (x - fc).toNat < Config.halfTurn) (ho : 8 ≤ s.settings.offset fc x) : s.place x = .beyond := by
  simp only [State.place, hc, if_neg hd.not_ge, dif_neg ho.not_gt]

theorem State.place_eq_within {s : State} {fc x : Heartbeat} {j : Fin 8} (hc : s.ring.cursor = some fc)
    (hd : (x - fc).toNat < Config.halfTurn) (ho : s.settings.offset fc x = j.val) : s.place x = .within j := by
  have hj : s.settings.offset fc x < 8 := ho ▸ j.isLt
  simp only [State.place, hc, if_neg hd.not_ge, dif_pos hj]
  exact congrArg Place.within (Fin.ext ho)

theorem State.sliceFirst_of_cursor {s : State} {fc : Heartbeat} (hc : s.ring.cursor = some fc) (j : Nat) :
    s.sliceFirst j = s.settings.sliceAt fc j := by
  simp only [State.sliceFirst, hc]

/-- The slot index at an offset counts on from the cursor slot's, modulo the eight slots (R2). -/
theorem State.slotAt_val (s : State) (j : Fin 8) : (s.slotAt j).val = (s.ring.cursorSlot.val + j.val) % 8 :=
  Fin.val_add _ _

/-! ### One span code: no commit pending (R8) -/

theorem SettingsUnit.offset_of_no_commit {u : SettingsUnit} (hu : u.commit = none) (fc x : Heartbeat) :
    u.offset fc x = (x - fc).toNat / 2 ^ u.active.span := by
  simp only [SettingsUnit.offset, hu]

theorem SettingsUnit.sliceAt_of_no_commit {u : SettingsUnit} (hu : u.commit = none) (fc : Heartbeat) (j : Nat) :
    u.sliceAt fc j = fc + BitVec.ofNat 16 (j * 2 ^ u.active.span) := by
  simp only [SettingsUnit.sliceAt, hu]

/-- Counting heartbeats on from `h` wraps at 65,536. -/
theorem toNat_heartbeat_add_ofNat (h : Heartbeat) (n : Nat) :
    (h + BitVec.ofNat 16 n).toNat = (h.toNat + n) % 65536 := by
  rw [BitVec.toNat_add, BitVec.toNat_ofNat, Nat.add_mod_mod]

/-- Settles O25: the three answers of the mapping at the offset of one span code, and the slices' first heartbeats. -/
theorem mappingUnderOneSpan : Obligations.MappingUnderOneSpan := by
  intro s fc x hcursor hcommit d
  have hoffset : s.settings.offset fc x = d / 2 ^ s.settings.active.span :=
    SettingsUnit.offset_of_no_commit hcommit fc x
  refine ⟨fun hbehind => ?behind, fun hd hbeyond => ?beyond, fun j hd hj => ⟨?within, ?slot⟩, fun j => ?first⟩
  case behind => exact State.place_eq_behind hcursor hbehind
  case beyond => exact State.place_eq_beyond hcursor hd (hoffset ▸ hbeyond)
  case within => exact State.place_eq_within hcursor hd (hoffset.trans hj)
  case slot => exact s.slotAt_val j
  case first =>
    rw [State.sliceFirst_of_cursor hcursor, SettingsUnit.sliceAt_of_no_commit hcommit, toNat_heartbeat_add_ofNat]

end Sys2Proof.Machine
end

section
/-! Sample conditioning from raw samples to pieces (chapter 6): the conditioned value of R83 and R84, the keep mask of R85,
and the cutting of runs of R88, with O38, O39 and O41 from them. -/

namespace Sys2Proof.Machine

open Sys2Proof

/-! ### Stage 1: conditioned values (R83, R84) -/

theorem limitedValue_of_neg {u : Int} (hu : u < 0) : limitedValue u = 0 := if_pos hu

theorem limitedValue_of_gt {u : Int} (hu : 1023 < u) : limitedValue u = 1023 := by
  rw [limitedValue, if_neg (by omega), if_pos hu]

theorem limitedValue_of_within {u : Int} (h0 : 0 ≤ u) (h1 : u ≤ 1023) : (limitedValue u : Int) = u := by
  rw [limitedValue, if_neg h0.not_gt, if_neg h1.not_gt, Int.toNat_of_nonneg h0]

theorem limitedValue_le (u : Int) : limitedValue u ≤ 1023 := by
  rcases lt_or_ge u 0 with hu | h0
  · simp [limitedValue_of_neg hu]
  · rcases lt_or_ge 1023 u with hu | h1
    · exact (limitedValue_of_gt hu).le
    · exact_mod_cast (limitedValue_of_within h0 h1).trans_le h1

@[simp] theorem condition_saturated_iff (p : BitVec 12) (b : Int) (r : BitVec 10) :
    (condition p b r).saturated = true ↔ 1023 < unlimitedValue p b r := decide_eq_true_iff

/-- The intermediate value `4r − p + b`, four times the conditioned value before rounding, with the widths' limits. -/
theorem intermediateValue_bounds (p : BitVec 12) {b : Int} (r : BitVec 10) (hlow : -512 ≤ b) (hhigh : b ≤ 511) :
    -4607 ≤ 4 * (r.toNat : Int) - p.toNat + b ∧ 4 * (r.toNat : Int) - p.toNat + b ≤ 4603 := by
  have hp := p.isLt
  have hr := r.isLt
  omega

/-- The unlimited value is the quarter of the intermediate value, rounded half up. -/
theorem unlimitedValue_rounds (p : BitVec 12) (b : Int) (r : BitVec 10) :
    4 * unlimitedValue p b r ≤ 4 * (r.toNat : Int) - p.toNat + b + 2 ∧
    4 * (r.toNat : Int) - p.toNat + b + 2 < 4 * unlimitedValue p b r + 4 := by
  unfold unlimitedValue
  omega

@[simp] theorem length_conditionAll (cfg : Settings) (e : PadEntry) (b : Burst) :
    (conditionAll cfg e b).length = b.samples.length := List.length_map _

theorem getElem?_conditionAll (cfg : Settings) (e : PadEntry) (b : Burst) (i : Nat) :
    (conditionAll cfg e b)[i]? = b.samples[i]?.map (condition e.pedestal cfg.baseline) := List.getElem?_map

/-- Settles O38: the limits of the unlimited value follow from those of the intermediate value by the rounding. -/
theorem conditionedValues : Obligations.ConditionedValues := by
  refine ⟨fun p b r hlow hhigh => ?value, fun cfg e b => ⟨length_conditionAll cfg e b, fun i r hr => ?sample⟩⟩
  case value =>
    intro v u c
    obtain ⟨hvlow, hvhigh⟩ : -4607 ≤ v ∧ v ≤ 4603 := intermediateValue_bounds p r hlow hhigh
    obtain ⟨hfloor, hceil⟩ : 4 * u ≤ v + 2 ∧ v + 2 < 4 * u + 4 := unlimitedValue_rounds p b r
    refine ⟨hvhigh, hvlow, hfloor, hceil, fun q hq => ?_, ?_, ?_, limitedValue_of_neg, limitedValue_of_gt,
      limitedValue_of_within, limitedValue_le u, condition_saturated_iff p b r⟩
    all_goals omega
  case sample => rw [getElem?_conditionAll, hr, Option.map_some]

/-! ### Stage 2: the keep mask (R85) -/

@[simp] theorem length_keepMask (e : PadEntry) (cs : List Conditioned) : (keepMask e cs).length = cs.length :=
  List.length_map _

theorem getElem?_keepMask (e : PadEntry) (cs : List Conditioned) (i : Nat) :
    (keepMask e cs)[i]? = cs[i]?.map fun c => e.nosuppress || decide (e.threshold.toNat ≤ c.value) := List.getElem?_map

theorem mem_keepMask {e : PadEntry} {cs : List Conditioned} {m : Bool} :
    m ∈ keepMask e cs ↔ ∃ c ∈ cs, (e.nosuppress || decide (e.threshold.toNat ≤ c.value)) = m := List.mem_map

/-- Under nosuppress or a threshold of 0 every sample is kept. -/
theorem keepMask_all_kept {e : PadEntry} (h : e.nosuppress = true ∨ e.threshold = 0) (cs : List Conditioned) :
    ∀ m ∈ keepMask e cs, m = true := by
  intro m hm
  obtain ⟨c, -, rfl⟩ := mem_keepMask.1 hm
  rcases h with h | h <;> simp [h]

/-! ### Stages 3 to 5 over an empty keep mask (R85) -/

@[simp] theorem length_extend (pre post : Nat) (kept : List Bool) : (extend pre post kept).length = kept.length := by
  rw [extend, List.length_map, List.length_range]

theorem extend_none_kept (pre post : Nat) {kept : List Bool} (h : ∀ m ∈ kept, m = false) :
    ∀ m ∈ extend pre post kept, m = false := by
  intro m hm
  obtain ⟨i, -, rfl⟩ := List.mem_map.1 hm
  refine List.any_eq_false.2 fun x hx => ?_
  simp [h x.1 (List.fst_mem_of_mem_zipIdx hx)]

theorem runsFrom_none_marked (i : Nat) {marks : List Bool} (h : ∀ m ∈ marks, m = false) : runsFrom i none marks = [] := by
  induction marks generalizing i with
  | nil => rfl
  | cons m marks ih =>
    obtain ⟨rfl, hmarks⟩ := List.forall_mem_cons.1 h
    exact ih (i + 1) hmarks

theorem pieces_none_kept (cfg : Settings) {e : PadEntry} {cs : List Conditioned} (h : ∀ m ∈ keepMask e cs, m = false) :
    pieces cfg e cs = [] := by
  rw [pieces, runsFrom_none_marked 0 (extend_none_kept _ _ h)]
  rfl

/-- Settles O39: the mask sample by sample; an empty one leaves no run to cut. -/
theorem keptSamples : Obligations.KeptSamples := by
  intro cfg e cs
  refine ⟨length_keepMask e cs, fun i c hc => ?sample, fun h => keepMask_all_kept h cs, fun i c hc hzero hsup => ?zero,
    pieces_none_kept cfg⟩
  case sample => rw [getElem?_keepMask, hc, Option.map_some]
  case zero => simp [getElem?_keepMask, hc, hzero, hsup, BitVec.toNat_eq]

/-! ### Runs within a burst (R86, R87) -/

/-- The runs are not empty, start in order at `lo` or later, and end at `hi` or before. -/
def RunsBetween (lo hi : Nat) : List Run → Prop
  | [] => True
  | r :: rs => lo ≤ r.start ∧ 1 ≤ r.length ∧ r.start + r.length ≤ hi ∧ RunsBetween r.start hi rs

theorem RunsBetween.of_le {lo lo' hi : Nat} {rs : List Run} (hlo : lo' ≤ lo) (h : RunsBetween lo hi rs) :
    RunsBetween lo' hi rs := by
  cases rs with
  | nil => trivial
  | cons r rs =>
    obtain ⟨hstart, hrest⟩ := h
    exact ⟨hlo.trans hstart, hrest⟩

theorem RunsBetween.of_mem {lo hi : Nat} {rs : List Run} (h : RunsBetween lo hi rs) {r : Run} (hr : r ∈ rs) :
    1 ≤ r.length ∧ r.start + r.length ≤ hi := by
  induction rs generalizing lo with
  | nil => cases hr
  | cons q rs ih =>
    obtain ⟨-, hlen, hend, hrest⟩ := h
    rcases List.mem_cons.1 hr with rfl | hr
    · exact ⟨hlen, hend⟩
    · exact ih hrest hr

/-- A run that reaches index `i` started before it, so the runs from `i` on start no earlier than it. -/
theorem runsFrom_between (i : Nat) (opened : Option Nat) (marks : List Bool) (hopened : ∀ a ∈ opened, a < i) :
    RunsBetween (opened.getD i) (i + marks.length) (runsFrom i opened marks) := by
  induction marks generalizing i opened with
  | nil =>
    cases opened with
    | none => trivial
    | some a =>
      have ha : a < i := hopened a rfl
      exact ⟨le_rfl, Nat.sub_pos_of_lt ha, (Nat.add_sub_of_le ha.le).le, trivial⟩
  | cons m marks ih =>
    rw [List.length_cons, Nat.add_comm marks.length 1, ← Nat.add_assoc]
    have hclosed := ih (i + 1) none (by simp)
    cases opened with
    | none =>
      cases m with
      | false => exact hclosed.of_le (Nat.le_succ i)
      | true => exact ih (i + 1) (some i) (by simp)
    | some a =>
      have ha : a < i := hopened a rfl
      cases m with
      | false =>
        exact ⟨le_rfl, Nat.sub_pos_of_lt ha, by dsimp only; omega, hclosed.of_le ha.le.step⟩
      | true =>
        refine ih (i + 1) (some a) fun _ h => ?_
        cases h
        exact Nat.lt_succ_of_lt ha

theorem mergeRuns_between (gap : Nat) {lo hi : Nat} {rs : List Run} (h : RunsBetween lo hi rs) :
    RunsBetween lo hi (mergeRuns gap rs) := by
  induction rs generalizing lo with
  | nil => trivial
  | cons r rs ih =>
    obtain ⟨hstart, hlen, hend, hrest⟩ := h
    have hmerged := ih hrest
    rw [mergeRuns]
    split
    next => exact ⟨hstart, hlen, hend, trivial⟩
    next q qs hq =>
      rw [hq] at hmerged
      have ⟨hqstart, hqlen, hqend, hqs⟩ := hmerged
      split
      next =>
        refine ⟨hstart, ?_, ?_, hqs.of_le hqstart⟩
        all_goals dsimp only; omega
      next => exact ⟨hstart, hlen, hend, hmerged⟩

/-! ### Stage 5: cutting a run (R88) -/

theorem length_splitRun (r : Run) :
    (splitRun r).length = r.length / 64 + (if r.length % 64 = 0 then 0 else 1) := by
  rw [splitRun, List.length_map, List.length_range]
  split <;> omega

theorem getElem?_splitRun {r : Run} {i : Nat} {p : Piece} (h : (splitRun r)[i]? = some p) :
    64 * i < r.length ∧ p.start = r.start + 64 * i ∧ p.length = min 64 (r.length - 64 * i) ∧ p.later = decide (0 < i) := by
  rw [splitRun, List.getElem?_map, Option.map_eq_some_iff] at h
  obtain ⟨k, hk, rfl⟩ := h
  obtain ⟨hi, rfl⟩ := List.getElem?_eq_some_iff.1 hk
  rw [List.length_range] at hi
  rw [List.getElem_range]
  exact ⟨by omega, rfl, rfl, rfl⟩

/-- A piece is not empty, holds at most 64 samples, and ends within its run. -/
theorem mem_splitRun_bounds {r : Run} {p : Piece} (h : p ∈ splitRun r) :
    1 ≤ p.length ∧ p.length ≤ 64 ∧ p.start + p.length ≤ r.start + r.length := by
  obtain ⟨i, hi⟩ := List.mem_iff_getElem?.1 h
  obtain ⟨hin, hstart, hlen, -⟩ := getElem?_splitRun hi
  omega

/-- The first `n` cuts of 64 out of `L` samples cover `64 n` of them, or all. -/
theorem sum_cuts (L n : Nat) : ((List.range n).map fun k => min 64 (L - 64 * k)).sum = min (64 * n) L := by
  induction n with
  | zero => simp
  | succ n ih =>
    rw [List.range_succ, List.map_append, List.sum_append, ih, List.map_singleton, List.sum_singleton]
    omega

theorem sum_length_splitRun (r : Run) : ((splitRun r).map Piece.length).sum = r.length := by
  calc ((splitRun r).map Piece.length).sum
      = ((List.range ((r.length + 63) / 64)).map fun k => min 64 (r.length - 64 * k)).sum := by
        rw [splitRun, List.map_map]; rfl
    _ = min (64 * ((r.length + 63) / 64)) r.length := sum_cuts _ _
    _ = r.length := by omega

/-- A piece of a burst is not empty, holds at most 64 samples, and ends within the burst. -/
theorem mem_pieces_bounds {cfg : Settings} {e : PadEntry} {cs : List Conditioned} {p : Piece} (h : p ∈ pieces cfg e cs) :
    1 ≤ p.length ∧ p.length ≤ 64 ∧ p.start + p.length ≤ cs.length := by
  obtain ⟨r, hr, hp⟩ := List.mem_flatMap.1 h
  obtain ⟨hlen, hmax, hend⟩ := mem_splitRun_bounds hp
  have hruns := runsFrom_between 0 none (extend cfg.pre cfg.post (keepMask e cs)) (by simp)
  obtain ⟨-, hrun⟩ := (mergeRuns_between cfg.mergeGap hruns).of_mem hr
  rw [length_extend, length_keepMask] at hrun
  exact ⟨hlen, hmax, by omega⟩

/-! ### From pieces to pulses (R88) -/

@[simp] theorem formPulse_bin (v : Curve) (start : Nat) (cs : List Conditioned) (p : Piece) :
    (formPulse v start cs p).bin = start + p.start := rfl

@[simp] theorem formPulse_piece (v : Curve) (start : Nat) (cs : List Conditioned) (p : Piece) :
    (formPulse v start cs p).piece = p.later := rfl

theorem length_formPulse_codes (v : Curve) (start : Nat) {cs : List Conditioned} {p : Piece}
    (h : p.start + p.length ≤ cs.length) : (formPulse v start cs p).codes.length = p.length := by
  rw [formPulse, List.length_map, List.length_take, List.length_drop]
  omega

theorem getElem?_formPulse_codes (v : Curve) (start : Nat) (cs : List Conditioned) {p : Piece} {i : Nat}
    (hi : i < p.length) : (formPulse v start cs p).codes[i]? = (cs[p.start + i]?).map (compress v) := by
  rw [formPulse, List.getElem?_map, List.getElem?_take_of_lt hi, List.getElem?_drop]

/-- Pulses leave the conditioner only for a row in an active window, one for each piece, under the window's curve. -/
theorem conditionBurst_eq_pulses {cfg : Settings} {e : PadEntry} {b : Burst} {ps : List FormedPulse}
    (h : conditionBurst cfg e b = .pulses ps) :
    ∃ w, cfg.windowOf e.row.toNat = some w ∧
      ps = (pieces cfg e (conditionAll cfg e b)).map
        (formPulse (cfg.curveOf w.curve) b.start (conditionAll cfg e b)) := by
  rw [conditionBurst] at h
  split at h
  next => cases h
  next w hw => exact ⟨w, hw, (Product.pulses.inj h).symm⟩

/-- Settles O41: the cuts of one run, the pieces within their burst, and a pulse from each piece. -/
theorem runsAreCutIntoPieces : Obligations.RunsAreCutIntoPieces := by
  refine ⟨fun a L _ _ => ⟨length_splitRun ⟨a, L⟩, sum_length_splitRun ⟨a, L⟩, fun i p hp => ?cut⟩, fun _ _ _ => rfl,
    fun _ _ _ _ => mem_pieces_bounds,
    fun v start cs p h => ⟨formPulse_bin v start cs p, length_formPulse_codes v start h, formPulse_piece v start cs p,
      fun _ => getElem?_formPulse_codes v start cs⟩,
    fun cfg e b ps hb hps => ?pulses⟩
  case cut =>
    obtain ⟨hin, hstart, hlen, hlater⟩ := getElem?_splitRun hp
    dsimp only at hin hlen
    refine ⟨hstart, ?_, by rw [hlater, decide_eq_true_iff]⟩
    split <;> omega
  case pulses =>
    obtain ⟨w, -, rfl⟩ := conditionBurst_eq_pulses hps
    refine ⟨List.length_map _, fun q hq => ?_⟩
    obtain ⟨p, hp, rfl⟩ := List.mem_map.1 hq
    obtain ⟨-, -, hend⟩ := mem_pieces_bounds hp
    rw [length_formPulse_codes _ _ hend, formPulse_bin]
    rw [length_conditionAll] at hend
    omega

end Sys2Proof.Machine
end

section
/-! What the operations over the slots leave as they are: links, tables, settings, uplink, lane, cursor and intake states, in
one relation that composes; and what every taking leaves besides. -/

namespace Sys2Proof.Machine

open Sys2Proof

/-! ### Operations over the slots -/

/-- From `s` to `t` only the slots, the free list, the record that the emitter sends and the counting of losses change. -/
structure State.ChangesSlots (s t : State) : Prop where
  links : t.links = s.links
  padTable : t.padTable = s.padTable
  settings : t.settings = s.settings
  uplink : t.uplink = s.uplink
  lane : t.lane = s.lane
  freeDraws : t.freeDraws = s.freeDraws
  pending : t.pending = s.pending
  cursor : t.ring.cursor = s.ring.cursor
  cursorSlot : t.ring.cursorSlot = s.ring.cursorSlot
  newest : t.ring.newest = s.ring.newest
  intake : t.ring.intake = s.ring.intake
  arbiter : t.ring.arbiter = s.ring.arbiter
  control : t.control = { s.control with sliceLoss := t.control.sliceLoss, globals := t.control.globals }
  stopping : t.emitter.stopping = s.emitter.stopping
  lastEpoch : t.emitter.lastEpoch = s.emitter.lastEpoch

namespace State.ChangesSlots

theorem refl (s : State) : s.ChangesSlots s := by constructor <;> rfl

theorem trans {s t u : State} (h : s.ChangesSlots t) (h' : t.ChangesSlots u) : s.ChangesSlots u where
  links := h'.links.trans h.links
  padTable := h'.padTable.trans h.padTable
  settings := h'.settings.trans h.settings
  uplink := h'.uplink.trans h.uplink
  lane := h'.lane.trans h.lane
  freeDraws := h'.freeDraws.trans h.freeDraws
  pending := h'.pending.trans h.pending
  cursor := h'.cursor.trans h.cursor
  cursorSlot := h'.cursorSlot.trans h.cursorSlot
  newest := h'.newest.trans h.newest
  intake := h'.intake.trans h.intake
  arbiter := h'.arbiter.trans h.arbiter
  control := by rw [h'.control, h.control]
  stopping := h'.stopping.trans h.stopping
  lastEpoch := h'.lastEpoch.trans h.lastEpoch

/-- What each single operation keeps within this relation, a run of them over a list keeps. -/
theorem foldl {α : Type} {f : State → α → State} (hf : ∀ (s : State) a, s.ChangesSlots (f s a)) (as : List α) (s : State) :
    s.ChangesSlots (as.foldl f s) := by
  induction as generalizing s with
  | nil => exact refl s
  | cons a as ih => exact (hf s a).trans (ih (f s a))

theorem mapSlot (i : SlotId) (f : Slot → Slot) (s : State) : s.ChangesSlots (s.mapSlot i f) := by
  constructor <;> rfl

theorem mapRecord (i : SlotId) (l : LinkId) (f : LinkRecord → LinkRecord) (s : State) :
    s.ChangesSlots (s.mapRecord i l f) := mapSlot i _ s

theorem mapGlobals (f : GlobalCounters → GlobalCounters) (s : State) : s.ChangesSlots (s.mapGlobals f) := by
  constructor <;> rfl

theorem examine (i : SlotId) (s : State) : s.ChangesSlots (s.examine i) := by
  obtain ⟨-, -, h⟩ | ⟨-, h⟩ := s.examine_cases i
  · rw [h]
    unfold State.completeSlot
    split <;> constructor <;> rfl
  · rw [h]; exact refl s

theorem examineAll (s : State) : s.ChangesSlots s.examineAll := foldl (fun s i => examine i s) _ s

theorem emitterTakes (s : State) : s.ChangesSlots s.emitterTakes := by
  obtain ⟨-, -, -, -, h⟩ | ⟨-, h⟩ := s.emitterTakes_cases
  · rw [h]; constructor <;> rfl
  · rw [h]; exact refl s

theorem settle (s : State) : s.ChangesSlots s.settle := (examineAll s).trans (emitterTakes _)

theorem store (i : SlotId) (row : RowId) (p : Pulse) (n : Nat) (s : State) : s.ChangesSlots (s.store i row p n) := by
  obtain ⟨_, _, _, -, -, h⟩ | ⟨-, h⟩ := s.store_cases i row p n <;> rw [h] <;> constructor <;> rfl

theorem fileOwn (x : BurstContext) (own : Option SlotId) (p : FormedPulse) (s : State) :
    s.ChangesSlots (s.fileOwn x own p) := by
  cases own with
  | none => exact refl s
  | some i => exact store ..

theorem fileCopy (x : BurstContext) (receiving : Option SlotId) (p : FormedPulse) (s : State) :
    s.ChangesSlots (s.fileCopy x receiving p) := by
  unfold State.fileCopy
  split
  · exact refl s
  · split
    · exact store ..
    · exact refl s

theorem filePulses (x : BurstContext) (own receiving : Option SlotId) (ps : List FormedPulse) (s : State) :
    s.ChangesSlots (s.filePulses x own receiving ps) :=
  (mapGlobals _ s).trans (foldl (fun s p => (fileOwn x own p s).trans (fileCopy x receiving p _)) ps _)

theorem fileBurst (l : LinkId) (x : Heartbeat) (b : Burst) (e : PadEntry) (row : RowId)
    (own receiving : Option SlotId) (charged : SlotId) (s : State) :
    s.ChangesSlots (s.fileBurst l x b e row own receiving charged) := by
  have hmark : s.ChangesSlots (if b.checkError || b.truncated then
      s.mapRecord charged l fun r => { r with flags := { r.flags with checkError := true } } else s) := by
    split
    · exact mapRecord ..
    · exact refl s
  unfold State.fileBurst
  dsimp only
  split
  · exact hmark.trans (mapRecord ..)
  · split
    · exact hmark.trans ((mapSlot ..).trans (mapGlobals ..))
    · exact hmark.trans (filePulses ..)

theorem applyBurst (l : LinkId) (x : Heartbeat) (b : Burst) (own receiving : Option SlotId) (charged : SlotId)
    (s : State) : s.ChangesSlots (s.applyBurst l x b own receiving charged) := by
  unfold State.applyBurst
  dsimp only
  split
  · split
    · split
      · exact (mapSlot ..).trans (mapGlobals ..)
      · exact fileBurst ..
    · exact mapSlot ..
  · exact mapSlot ..

theorem openAt (starts : Bool) (s : State) (j : Fin 8) : s.ChangesSlots (s.openAt starts j) := by
  unfold State.openAt
  split
  · exact (mapSlot ..).trans (examine ..)
  · exact refl s

theorem fillOpen (t : Fin 8) (starts : Bool) (s : State) : s.ChangesSlots (s.fillOpen t starts) := by
  unfold State.fillOpen
  split
  · exact foldl (openAt starts) _ s
  · exact refl s

theorem skipHeartbeat (l : LinkId) (s : State) (y : Heartbeat) : s.ChangesSlots (s.skipHeartbeat l y) := by
  unfold State.skipHeartbeat
  dsimp only
  split <;> split
  · exact (mapRecord ..).trans (mapRecord ..)
  · exact mapRecord ..
  · exact mapRecord ..
  · exact refl s

theorem startsLater (l : LinkId) (s : State) (j : Fin 8) : s.ChangesSlots (s.startsLater l j) := by
  unfold State.startsLater
  split
  · exact mapRecord ..
  · exact refl s

theorem firstHeartbeat (l : LinkId) (x : Heartbeat) (t : Fin 8) (s : State) :
    s.ChangesSlots (s.firstHeartbeat l x t) := by
  unfold State.firstHeartbeat
  split
  · exact (mapRecord ..).trans (foldl (startsLater l) _ _)
  · exact foldl (startsLater l) _ _

theorem continuity (l : LinkId) (x : Heartbeat) (t : Fin 8) (s : State) : s.ChangesSlots (s.continuity l x t) := by
  unfold State.continuity
  split
  · exact firstHeartbeat ..
  · exact foldl (skipHeartbeat l) _ _

theorem closeOwn (l : LinkId) (x : Heartbeat) (c : Close) (own : Option SlotId) (s : State) :
    s.ChangesSlots (s.closeOwn l x c own) := by
  cases own with
  | none => exact refl s
  | some i => exact mapSlot ..

theorem closeMargin (l : LinkId) (receiving : Option SlotId) (s : State) :
    s.ChangesSlots (s.closeMargin l receiving) := by
  cases receiving with
  | none => exact refl s
  | some i => exact mapRecord ..

theorem downAt (l : LinkId) (reason : DownReason) (s : State) (i : SlotId) : s.ChangesSlots (s.downAt l reason i) := by
  unfold State.downAt
  split
  · exact mapRecord ..
  · exact refl s

theorem giveUp (i : SlotId) (s : State) : s.ChangesSlots (s.giveUp i) := mapSlot ..

theorem cutLastOld (c : PendingCommit) (fc : Heartbeat) (s : State) : s.ChangesSlots (s.cutLastOld c fc) := by
  unfold State.cutLastOld
  split
  · dsimp only
    split
    · exact refl s
    · exact mapSlot ..
  · exact refl s

/-! Readings through the relation. -/

variable {s t : State}

theorem link (h : s.ChangesSlots t) (l : LinkId) : t.link l = s.link l := by
  simp only [State.link, h.links]

theorem intake_eq (h : s.ChangesSlots t) (l : LinkId) : t.intake l = s.intake l := by
  simp only [State.intake, h.intake]

theorem slotAt (h : s.ChangesSlots t) (j : Fin 8) : t.slotAt j = s.slotAt j := by
  simp only [State.slotAt, h.cursorSlot]

theorem place (h : s.ChangesSlots t) (x : Heartbeat) : t.place x = s.place x := by
  simp only [State.place, h.cursor, h.settings]

theorem sliceFirst (h : s.ChangesSlots t) (j : Nat) : t.sliceFirst j = s.sliceFirst j := by
  simp only [State.sliceFirst, h.cursor, h.settings]

theorem epochAt (h : s.ChangesSlots t) (j : Nat) : t.epochAt j = s.epochAt j := by
  simp only [State.epochAt, h.cursor, h.settings]

theorem marginSlot (h : s.ChangesSlots t) (x : Heartbeat) : t.marginSlot x = s.marginSlot x := by
  simp only [State.marginSlot, h.place, h.sliceFirst, h.slotAt]

theorem ownSlot (h : s.ChangesSlots t) (x : Heartbeat) : t.ownSlot x = s.ownSlot x := by
  simp only [State.ownSlot, h.place, h.slotAt]

theorem live (h : s.ChangesSlots t) : t.control.live = s.control.live := by rw [h.control]

theorem openedSlot (h : s.ChangesSlots t) (j : Nat) (starts : Bool) : t.openedSlot j starts = s.openedSlot j starts := by
  simp only [State.openedSlot, h.sliceFirst, h.epochAt, h.settings, h.live, h.link]

end State.ChangesSlots

/-! ### Takings -/

/-- From `s` to `t` only link `l`, its intake state, the arbiter's pointer, the cursor, the newest heartbeat and what a change
of slots changes may differ: what every taking from link `l` does (R13). -/
structure State.Takes (l : LinkId) (s t : State) : Prop where
  others : ∀ l', l' ≠ l → t.link l' = s.link l'
  padTable : t.padTable = s.padTable
  settings : t.settings = s.settings
  uplink : t.uplink = s.uplink
  lane : t.lane = s.lane
  freeDraws : t.freeDraws = s.freeDraws
  pending : t.pending = s.pending
  cursorSlot : t.ring.cursorSlot = s.ring.cursorSlot
  intake : ∀ l', l' ≠ l → t.intake l' = s.intake l'
  control : t.control = { s.control with sliceLoss := t.control.sliceLoss, globals := t.control.globals }
  stopping : t.emitter.stopping = s.emitter.stopping
  lastEpoch : t.emitter.lastEpoch = s.emitter.lastEpoch
  arbiter : t.ring.arbiter = s.ring.arbiter
  received : (t.link l).rx = (s.link l).rx ∧ (t.link l).delta = (s.link l).delta ∧ (t.link l).queue = (s.link l).queue

namespace State.Takes

theorem trans {l : LinkId} {s t u : State} (h : Takes l s t) (h' : Takes l t u) : Takes l s u where
  others l' hl := (h'.others l' hl).trans (h.others l' hl)
  padTable := h'.padTable.trans h.padTable
  settings := h'.settings.trans h.settings
  uplink := h'.uplink.trans h.uplink
  lane := h'.lane.trans h.lane
  freeDraws := h'.freeDraws.trans h.freeDraws
  pending := h'.pending.trans h.pending
  cursorSlot := h'.cursorSlot.trans h.cursorSlot
  intake l' hl := (h'.intake l' hl).trans (h.intake l' hl)
  control := by rw [h'.control, h.control]
  stopping := h'.stopping.trans h.stopping
  lastEpoch := h'.lastEpoch.trans h.lastEpoch
  arbiter := h'.arbiter.trans h.arbiter
  received := by
    obtain ⟨h1, h2, h3⟩ := h.received
    obtain ⟨h1', h2', h3'⟩ := h'.received
    exact ⟨h1'.trans h1, h2'.trans h2, h3'.trans h3⟩

theorem of_slots {s t : State} (l : LinkId) (h : s.ChangesSlots t) : Takes l s t where
  others l' _ := h.link l'
  padTable := h.padTable
  settings := h.settings
  uplink := h.uplink
  lane := h.lane
  freeDraws := h.freeDraws
  pending := h.pending
  cursorSlot := h.cursorSlot
  intake l' _ := h.intake_eq l'
  control := h.control
  stopping := h.stopping
  lastEpoch := h.lastEpoch
  arbiter := h.arbiter
  received := by rw [h.link]; exact ⟨rfl, rfl, rfl⟩

theorem refl (l : LinkId) (s : State) : Takes l s s := of_slots l (.refl s)

theorem countLate (l : LinkId) (s : State) : Takes l s (s.countLate l) where
  others l' hl := State.link_mapLink_ne hl _ s
  padTable := rfl
  settings := rfl
  uplink := rfl
  lane := rfl
  freeDraws := rfl
  pending := rfl
  cursorSlot := rfl
  intake _ _ := rfl
  control := rfl
  stopping := rfl
  lastEpoch := rfl
  arbiter := rfl
  received := by simp [State.countLate, Link.mapCounters]

theorem setIntake (l : LinkId) (i : Intake) (s : State) : Takes l s (s.setIntake l i) where
  others _ _ := rfl
  padTable := rfl
  settings := rfl
  uplink := rfl
  lane := rfl
  freeDraws := rfl
  pending := rfl
  cursorSlot := rfl
  intake _ hl := State.intake_setIntake_ne hl i s
  control := rfl
  stopping := rfl
  lastEpoch := rfl
  arbiter := rfl
  received := ⟨rfl, rfl, rfl⟩

/-- Cursor and newest heartbeat are no part of what a taking keeps. -/
theorem moveCursor (l : LinkId) (s : State) (cursor newest : Option Heartbeat) :
    Takes l s { s with ring := { s.ring with cursor := cursor, newest := newest } } where
  others _ _ := rfl
  padTable := rfl
  settings := rfl
  uplink := rfl
  lane := rfl
  freeDraws := rfl
  pending := rfl
  cursorSlot := rfl
  intake _ _ := rfl
  control := rfl
  stopping := rfl
  lastEpoch := rfl
  arbiter := rfl
  received := ⟨rfl, rfl, rfl⟩

theorem setCursor (l : LinkId) (x : Heartbeat) (s : State) : Takes l s (s.setCursor x) := by
  unfold State.setCursor
  split
  · exact refl l s
  · exact moveCursor l s _ _

theorem updateNewest (l : LinkId) (x : Heartbeat) (s : State) : Takes l s (s.updateNewest x) := by
  unfold State.updateNewest
  split
  · exact refl l s
  · exact moveCursor l s s.ring.cursor _

theorem takeOpen (l : LinkId) (x : Heartbeat) (s : State) : Takes l s (s.takeOpen l x) := by
  refine (setCursor l x s).trans ?_
  unfold State.takeOpen
  dsimp only
  generalize s.setCursor x = s'
  split
  · exact (setIntake l _ _).trans (countLate ..)
  · exact refl l _
  · refine Takes.trans ?_ (of_slots l (.settle _))
    have h : ∀ v : State, Takes l v ((v.intakeAt l x).updateNewest x) :=
      fun v => (setIntake l _ v).trans (updateNewest ..)
    have h' := fun j b => (of_slots l (.fillOpen j b s')).trans
      ((of_slots l (.continuity l x j _)).trans (h _))
    split
    · exact h' _ _
    · exact (h' _ _).trans (countLate ..)

theorem takeBurstItem (l : LinkId) (b : Burst) (s : State) : Takes l s (s.takeBurstItem l b) := by
  unfold State.takeBurstItem
  split
  · exact countLate ..
  · split
    · exact countLate ..
    · exact of_slots l (.applyBurst ..)
    · exact of_slots l (.applyBurst ..)

theorem takeClose (l : LinkId) (c : Close) (s : State) : Takes l s (s.takeClose l c) := by
  unfold State.takeClose
  split
  · exact countLate ..
  · dsimp only
    refine Takes.trans ?_ (of_slots l (.settle _))
    have h := fun x own receiving => (setIntake l { s.intake l with openHeartbeat := none } s).trans
      ((of_slots l (.closeOwn l x c own _)).trans (of_slots l (.closeMargin l receiving _)))
    split
    · exact (h _ _ _).trans (countLate ..)
    · exact h _ _ _

theorem takeLossItem (l : LinkId) (s : State) : Takes l s (s.takeLossItem l) := by
  unfold State.takeLossItem
  split
  · exact refl l s
  · dsimp only
    refine Takes.trans (Takes.trans ?_ (setIntake ..)) (of_slots l (.settle _))
    split <;> split
    · exact of_slots l ((State.ChangesSlots.mapRecord ..).trans (.mapRecord ..))
    · exact of_slots l (.mapRecord ..)
    · exact of_slots l (.mapRecord ..)
    · exact refl l s

theorem takeDownItem (l : LinkId) (reason : DownReason) (s : State) : Takes l s (s.takeDownItem l reason) :=
  ((of_slots l (.foldl (.downAt l reason) _ s)).trans (setIntake ..)).trans (of_slots l (.settle _))

end State.Takes

end Sys2Proof.Machine
end

section
/-! What one command can do, said once: the moves of the part, with O1, O2 and O14 from them. -/

namespace Sys2Proof.Machine

open Sys2Proof Sys2Proof.Safety

/-! ### The moves -/

/-- What an event on a pad link does to its link. -/
inductive LinkEvent (k : Link) : Link → Prop where
  | alignmentFound (pos : Nat) : LinkEvent k (k.findAlignment pos)
  | trainingReset (w : LaneWord) : LinkEvent k (k.resetTraining w)
  | codeError : LinkEvent k k.codeError
  | codeErrorInFrame (f : FrameInProgress) : LinkEvent k (k.receive f).codeError
  | signalLoss : LinkEvent k k.loseSignal
  | openFrame (low : BitVec 8) (x : Heartbeat) : LinkEvent k (k.openFrame low x)
  | closeFrame (low : BitVec 8) (x : Heartbeat) (declared status : Word16) :
    LinkEvent k (k.closeFrame low x declared status)
  | burstFrame (channel : BitVec 8) (start : Word16) (samples : List Word16) (check : Word16) :
    LinkEvent k (k.burstFrame channel start samples check)
  | framing (e : FramingEvent) : LinkEvent k (k.framingEvent e)

/-- What a request does at its execution, from the state in which it has left the queue (R155). -/
inductive RequestAct (q : Request) (s : State) : State → Prop where
  | nothing : RequestAct q s s
  | writeSettings (hc : s.settings.commit = none) :
    RequestAct q s { s with settings := { s.settings with staging := (readSettings q.payload).limited } }
  | writePad (p : PadTable) (hp : p.copyNext = s.padTable.copyNext) : RequestAct q s { s with padTable := p }
  | copyBank (hc : s.settings.commit = none) :
    RequestAct q s { s with padTable := { s.padTable with copyNext := some 0 } }
  | reject (f : CommitFault) : RequestAct q s { s with control := { s.control with configReject := some f } }
  | commitNow (hf : s.settings.staging.firstFault = none) (hr : s.ring.cursor = none) (hc : s.settings.commit = none) :
    RequestAct q s s.commitNow.1
  | commitPending (fc : Heartbeat) (hf : s.settings.staging.firstFault = none) (hr : s.ring.cursor = some fc)
    (hc : s.settings.commit = none) (hp : s.padTable.copyNext = none) : RequestAct q s (s.commitPendingFrom fc).1
  | clearDelta : RequestAct q s (s.mapLinks fun _ k => { k with delta := .clear })
  | clearCounters : RequestAct q s s.clearCounters
  | clearCause (c : Cause) : RequestAct q s { s with control := s.control.clearLatched c }
  | drawFree : RequestAct q s { s with freeDraws := s.freeDraws + 1 }
  | setLive : RequestAct q s (setLiveAct q s).1
  | hold (l : LinkId) : RequestAct q s (s.mapLink l Link.hold)
  | release (l : LinkId) (enabled : Bool) : RequestAct q s (s.mapLink l (Link.release enabled))
  | forceClose (i : SlotId) (hi : s.oldestFilling = some i) :
    RequestAct q s ((s.giveUp i).mapSlot i fun t => { t with flags := { t.flags with forced := true } }).settle
  | setStopping (k : RestartKind) : RequestAct q s (s.setStopping k)
  | softReset : RequestAct q s { s.setStopping .soft with control := { s.control with queue := [] } }

/-- What one command can do. -/
inductive Move (s : State) : State → Prop where
  | nothing : Move s s
  | link (l : LinkId) (k : Link) (h : LinkEvent (s.link l) k) : Move s (s.mapLink l fun _ => k)
  | takeOpen (l : LinkId) (x : Heartbeat) (resync : Bool) (s' : State)
    (h : s.beginTaking = some (l, .hbOpen x resync, s')) : Move s (s'.takeOpen l x)
  | takeBurst (l : LinkId) (b : Burst) (s' : State) (h : s.beginTaking = some (l, .burst b, s')) :
    Move s (s'.takeBurstItem l b)
  | takeClose (l : LinkId) (c : Close) (s' : State) (h : s.beginTaking = some (l, .hbClose c, s')) :
    Move s (s'.takeClose l c)
  | takeLoss (l : LinkId) (s' : State) (h : s.beginTaking = some (l, .loss, s')) : Move s (s'.takeLossItem l)
  | takeDown (l : LinkId) (reason : DownReason) (s' : State) (h : s.beginTaking = some (l, .linkDown reason, s')) :
    Move s (s'.takeDownItem l reason)
  | timebase :
    Move s { s with ring := { s.ring with slots := Vector.ofFn fun i : SlotId => s.ring.slots[i].countDown } }
  | expiry (i : SlotId) (hf : (s.slot i).state = .filling) (hd : (s.slot i).deadline = some 0) :
    Move s (s.giveUp i).settle
  | epochMarkSent (i : SlotId) (f : UplinkFrame) (h : s.sending .epochMark = some (i, f)) :
    Move s (s.afterEpochMark i).recordBoundary
  | headSent (i : SlotId) (f : UplinkFrame) (h : s.sending .head = some (i, f)) : Move s (s.afterHead i).recordBoundary
  | rowSent (i : SlotId) (f : UplinkFrame) (h : s.sending .row = some (i, f)) : Move s (s.afterRow i f).recordBoundary
  | tailSent (i : SlotId) (f : UplinkFrame) (first : Bool) (h : s.sending .tail = some (i, f)) :
    Move s (s.afterTail first i)
  | replySent (f : UplinkFrame) (h : s.uplink.tx = .frame f) (hk : f.kind = .reply) : Move s s.transmitTrain.boundary
  | replySentHandover (f : UplinkFrame) (h : s.uplink.tx = .frame f) (hk : f.kind = .reply) :
    Move s s.transmitTrain.handover.boundary
  | trainWordSent (h : s.uplink.tx = .train) :
    Move s { s with uplink := { s.uplink with opening := s.uplink.opening - 1 } }.boundary
  | handover : Move s s.handover
  | laneAlignment (pos : Nat) (h : s.lane.state = .search) :
    Move s (s.mapLane fun r =>
      { r with state := .training, alignment := some pos, trainingCount := 1, errorWindow := [], signalTimer := 0 })
  | laneWord (w : LaneWord) : Move s (s.laneWord w)
  | laneCodeError (inFrame : Option (List Word16)) : Move s (s.inRequest inFrame).laneCodeError
  | laneSignalLoss (inFrame : Option (List Word16)) : Move s (s.inRequest inFrame).laneSignalLoss
  | requestFrame (ws : List Word16) : Move s (s.requestWordsArrive ws)
  | requestCut (ws : List Word16) (c : Word16) : Move s ((s.requestWordsArrive ws).laneControl c)
  | request (q : Request) (rest : List Request) (t : State) (a : Answer) (hq : s.control.queue = q :: rest)
    (hh : s.control.holder = none) (ha : a.words.length ≤ 64)
    (h : RequestAct q { s with control := { s.control with queue := rest } } t) : Move s (t.formReply q a)
  | copyEntry (i : Nat) (hi : i < 3840) (h : s.padTable.copyNext = some i) :
    Move s { s with padTable :=
      { s.padTable.write s.padTable.staging ⟨i, hi⟩ (s.padTable.entries s.padTable.active)[i] with
        copyNext := some (i + 1) } }
  | copyDone : Move s { s with padTable := { s.padTable with copyNext := none, stale := false } }
  | pinReset : Move s { State.reset with pending := s.pending, freeDraws := s.freeDraws }
  | runRestart (h : s.emitter.stopping = some .run) (hb : s.atFrameBoundary = true) : Move s s.runRestart
  | softReset (h : s.emitter.stopping = some .soft) (hb : s.atFrameBoundary = true) : Move s s.softReset

/-! ### Requests -/

/-- What an act can do and answer. -/
def Acts (act : Request → State → State × Answer) : Prop :=
  ∀ q s, RequestAct q s (act q s).1 ∧ (act q s).2.words.length ≤ 64

theorem Acts.refuses (st : Status) : Acts fun _ s => (s, .plain st) := fun _ _ => ⟨.nothing, Nat.zero_le _⟩

theorem Acts.withLength {act : Request → State → State × Answer} (n : Nat) (h : Acts act) : Acts (withLength n act) := by
  intro q s
  unfold Machine.withLength
  split
  · exact h q s
  · exact Acts.refuses .badArgument q s

/-- What an act may rely on when BUSY would have refused it. -/
theorem Acts.unlessBusy {busy : State → Bool} {act : Request → State → State × Answer}
    (h : ∀ q s, busy s = false → RequestAct q s (act q s).1 ∧ (act q s).2.words.length ≤ 64) :
    Acts (unlessBusy busy act) := by
  intro q s
  unfold Machine.unlessBusy
  split
  · exact Acts.refuses .busy q s
  · next hb => exact h q s (by simpa using hb)

/-- The execution of a request is a move. -/
theorem move_execute {act : Request → State → State × Answer} (h : Acts act) (takes : BitVec 8 → Bool) (s : State) :
    Move s (s.execute takes act) := by
  unfold State.execute
  split
  · next q rest hq hh =>
    split
    · obtain ⟨hact, hlen⟩ := h q { s with control := { s.control with queue := rest } }
      exact .request q rest _ _ hq hh hlen hact
    · exact .nothing
  · exact .nothing

theorem length_settingsWords (c : Settings) : c.words.length = 13 := by simp [Settings.words]

theorem acts_readSettings : Acts readSettingsAct := by
  intro q s
  unfold readSettingsAct
  split
  · exact ⟨.nothing, by simp [length_settingsWords]⟩
  · split
    · exact ⟨.nothing, by simp [length_settingsWords]⟩
    · exact ⟨.nothing, Nat.zero_le _⟩

theorem length_padWords_le (es : List PadEntry) : (es.flatMap PadEntry.words).length = 2 * es.length := by
  induction es with
  | nil => rfl
  | cons e es ih => simp only [List.flatMap_cons, List.length_append, ih, PadEntry.words, List.length_cons,
      List.length_nil]; omega

theorem acts_readPad : Acts readPadAct := by
  intro q s
  unfold readPadAct
  split
  · next h =>
    refine ⟨.nothing, ?_⟩
    simp only [padRangeValid, Bool.and_eq_true, decide_eq_true_eq] at h
    rw [length_padWords_le, List.length_take]
    omega
  · exact ⟨.nothing, Nat.zero_le _⟩

theorem PadTable.writeFrom_copyNext (bank : Bank) (i : Nat) (es : List PadEntry) (t : PadTable) :
    (t.writeFrom bank i es).copyNext = t.copyNext := by
  induction es generalizing i t with
  | nil => rfl
  | cons e es ih =>
    rw [PadTable.writeFrom, ih]
    split
    · cases bank <;> rfl
    · rfl

theorem acts_writePad : Acts writePadAct := by
  intro q s
  unfold writePadAct
  split
  · exact ⟨.writePad _ (PadTable.writeFrom_copyNext ..), Nat.zero_le _⟩
  · exact ⟨.nothing, Nat.zero_le _⟩

/-- A COMMIT that is not refused with BUSY. -/
theorem act_commit (q : Request) {s : State} (hc : s.settings.commit = none) (hp : s.padTable.copyNext = none) :
    RequestAct q s (commitAct q s).1 ∧ (commitAct q s).2.words.length ≤ 64 := by
  unfold commitAct
  split
  · exact ⟨.reject _, by simp⟩
  · next hf =>
    split
    · next hr => exact ⟨.commitNow hf hr hc, by simp [State.commitNow]⟩
    · next fc hr => exact ⟨.commitPending fc hf hr hc hp, by simp [State.commitPendingFrom]⟩

theorem acts_readStatus : Acts readStatusAct := fun _ s => ⟨.nothing, by simp [readStatusAct, State.statusWords]⟩

theorem acts_readLinks : Acts readLinksAct := fun _ s => ⟨.clearDelta, by simp [readLinksAct]⟩

theorem acts_readCounters : Acts readCountersAct := by
  intro q s
  unfold readCountersAct
  dsimp only
  split
  · exact ⟨.nothing, by simp [LinkCounters.words]⟩
  · split
    · exact ⟨.nothing, by simp [GlobalCounters.words]⟩
    · exact ⟨.nothing, Nat.zero_le _⟩

theorem acts_queryCause : Acts queryCauseAct := by
  intro q s
  unfold queryCauseAct
  split
  · exact ⟨.clearCause _, by simp⟩
  · exact ⟨.drawFree, by simp⟩

theorem acts_hold : Acts holdLinkAct := by
  intro q s
  unfold holdLinkAct
  split
  · exact ⟨.hold _, Nat.zero_le _⟩
  · exact ⟨.nothing, Nat.zero_le _⟩

theorem acts_release : Acts releaseLinkAct := by
  intro q s
  unfold releaseLinkAct
  split
  · exact ⟨.release _ _, Nat.zero_le _⟩
  · exact ⟨.nothing, Nat.zero_le _⟩

theorem acts_forceClose : Acts forceCloseAct := by
  intro q s
  unfold forceCloseAct
  split
  · exact ⟨.nothing, Nat.zero_le _⟩
  · next i hi =>
    dsimp only
    exact ⟨.forceClose i hi, by simp⟩

theorem acts_clearCounters : Acts clearCountersAct := by
  intro q s
  unfold clearCountersAct
  exact ⟨.clearCounters, Nat.zero_le _⟩

theorem acts_runRestart : Acts runRestartAct := by
  intro q s
  unfold runRestartAct
  exact ⟨.setStopping .run, Nat.zero_le _⟩

theorem acts_softReset : Acts softResetAct := by
  intro q s
  unfold softResetAct
  dsimp only
  exact ⟨.softReset, Nat.zero_le _⟩

/-- With no commit pending and no copy running nothing is refused with BUSY. -/
theorem State.banksBusy_eq_false {s : State} :
    s.banksBusy = false ↔ s.settings.commit = none ∧ s.padTable.copyNext = none := by
  simp [State.banksBusy]

/-! ### Every command is a move -/

theorem move_takeOpen {s t : State} (h : exec .takeHbOpen s = .next t) : Move s t := by
  simp only [exec, execTakeHbOpen] at h
  split at h <;> obtain rfl := Host.Outcome.next.inj h
  · next l x r s' hb => exact .takeOpen l x r s' hb
  · exact .nothing

theorem move_takeBurst {s t : State} (h : exec .takeBurst s = .next t) : Move s t := by
  simp only [exec, execTakeBurst] at h
  split at h <;> obtain rfl := Host.Outcome.next.inj h
  · next l b s' hb => exact .takeBurst l b s' hb
  · exact .nothing

theorem move_takeClose {s t : State} (h : exec .takeHbClose s = .next t) : Move s t := by
  simp only [exec, execTakeHbClose] at h
  split at h <;> obtain rfl := Host.Outcome.next.inj h
  · next l c s' hb => exact .takeClose l c s' hb
  · exact .nothing

theorem move_takeLoss {s t : State} (h : exec .takeLoss s = .next t) : Move s t := by
  simp only [exec, execTakeLoss] at h
  split at h <;> obtain rfl := Host.Outcome.next.inj h
  · next l s' hb => exact .takeLoss l s' hb
  · exact .nothing

theorem move_takeDown {s t : State} (h : exec .takeLinkDown s = .next t) : Move s t := by
  simp only [exec, execTakeLinkDown] at h
  split at h <;> obtain rfl := Host.Outcome.next.inj h
  · next l reason s' hb => exact .takeDown l reason s' hb
  · exact .nothing

theorem move_replySent {s t : State} (first : Bool) (h : exec (.replySent first) s = .next t) : Move s t := by
  simp only [exec, execReplySent] at h
  split at h
  · next f hf =>
    split at h
    · next hk =>
      cases first <;> obtain rfl := Host.Outcome.next.inj h
      · exact .replySent f hf hk
      · exact .replySentHandover f hf hk
    · obtain rfl := Host.Outcome.next.inj h; exact .nothing
  · obtain rfl := Host.Outcome.next.inj h; exact .nothing
  · obtain rfl := Host.Outcome.next.inj h; exact .nothing

theorem move_copyEntry {s t : State} (h : exec .copyEntryMoved s = .next t) : Move s t := by
  simp only [exec, execCopyEntryMoved] at h
  split at h
  · obtain rfl := Host.Outcome.next.inj h; exact .nothing
  · next i hc =>
    split at h
    · next hi => obtain rfl := Host.Outcome.next.inj h; exact .copyEntry i hi hc
    · obtain rfl := Host.Outcome.next.inj h; exact .nothing

/-- An event on link `l` whose effect is a link event is a move. -/
theorem move_link {s t : State} (l : LinkId) (f : Link → Link) (hf : LinkEvent (s.link l) (f (s.link l)))
    (h : Host.Outcome.next (φ := Fault) (ρ := Refusal) (s.mapLink l f) = .next t) : Move s t := by
  obtain rfl := Host.Outcome.next.inj h
  exact .link l _ hf

/-- The execution of a request whose act is known is a move. -/
theorem move_request {s t : State} {act : Request → State → State × Answer} {takes : BitVec 8 → Bool} (ha : Acts act)
    (h : Host.Outcome.next (φ := Fault) (ρ := Refusal) (s.execute takes act) = .next t) : Move s t := by
  obtain rfl := Host.Outcome.next.inj h
  exact move_execute ha takes s

/-- Every command is a move. -/
theorem exec_move {c : Instr} {s t : State} (h : exec c s = .next t) : Move s t := by
  cases c with
  | pinReset => obtain rfl := Host.Outcome.next.inj h; exact .pinReset
  | alignmentFound l pos => exact move_link l _ (.alignmentFound pos) h
  | trainWord l => exact move_link l _ (.framing (.strayControl _)) h
  | codeErrorWord l f =>
    cases f with
    | none => exact move_link l _ .codeError h
    | some f => exact move_link l _ (.codeErrorInFrame f) h
  | signalLoss l => exact move_link l _ .signalLoss h
  | hbOpenFrame l low x => exact move_link l _ (.openFrame low x) h
  | hbCloseFrame l low x d st => exact move_link l _ (.closeFrame low x d st) h
  | burstFrame l ch b ws k => exact move_link l _ (.burstFrame ch b ws k) h
  | truncatedBurst l ch b n ws k => exact move_link l _ (.framing (.cut ⟨_, b :: n :: ws⟩ k)) h
  | framingError l e => exact move_link l _ (.framing e) h
  | trainingCountReset l w => exact move_link l _ (.trainingReset w) h
  | takeHbOpen => exact move_takeOpen h
  | takeBurst => exact move_takeBurst h
  | takeHbClose => exact move_takeClose h
  | takeLoss => exact move_takeLoss h
  | takeLinkDown => exact move_takeDown h
  | timebaseStep => obtain rfl := Host.Outcome.next.inj h; exact .timebase
  | deadlineExpiry i =>
    simp only [exec, execDeadlineExpiry] at h
    split at h <;> obtain rfl := Host.Outcome.next.inj h
    · next hd => exact .expiry i hd.1 hd.2
    · exact .nothing
  | epochMarkSent =>
    simp only [exec, execEpochMarkSent] at h
    split at h <;> obtain rfl := Host.Outcome.next.inj h
    · next i f hs => exact .epochMarkSent i f hs
    · exact .nothing
  | headSent =>
    simp only [exec, execHeadSent] at h
    split at h <;> obtain rfl := Host.Outcome.next.inj h
    · next i f hs => exact .headSent i f hs
    · exact .nothing
  | rowSent =>
    simp only [exec, execRowSent] at h
    split at h <;> obtain rfl := Host.Outcome.next.inj h
    · next i f hs => exact .rowSent i f hs
    · exact .nothing
  | tailSent first =>
    simp only [exec, execTailSent] at h
    split at h <;> obtain rfl := Host.Outcome.next.inj h
    · next i f hs => exact .tailSent i f first hs
    · exact .nothing
  | replySent first => exact move_replySent first h
  | trainWordSent =>
    simp only [exec, execTrainWordSent] at h
    split at h <;> obtain rfl := Host.Outcome.next.inj h
    · next ht => exact .trainWordSent ht
    · exact .nothing
    · exact .nothing
  | replyHandover => obtain rfl := Host.Outcome.next.inj h; exact .handover
  | returnLaneAlignmentFound pos =>
    simp only [exec, execReturnLaneAlignmentFound] at h
    split at h <;> obtain rfl := Host.Outcome.next.inj h
    · next hl => exact .laneAlignment pos hl
    · exact .nothing
  | returnLaneTrainWord => obtain rfl := Host.Outcome.next.inj h; exact .laneWord (.control _)
  | returnLaneTrainingCountReset w =>
    simp only [exec, execReturnLaneTrainingCountReset] at h
    split at h <;> obtain rfl := Host.Outcome.next.inj h
    · exact .nothing
    · exact .laneWord w
  | pause => obtain rfl := Host.Outcome.next.inj h; exact .laneWord (.control _)
  | resume => obtain rfl := Host.Outcome.next.inj h; exact .laneWord (.control _)
  | returnLaneCodeError f => obtain rfl := Host.Outcome.next.inj h; exact .laneCodeError f
  | returnLaneSignalLoss f => obtain rfl := Host.Outcome.next.inj h; exact .laneSignalLoss f
  | requestFrame ws cut =>
    cases cut with
    | none => obtain rfl := Host.Outcome.next.inj h; exact .requestFrame ws
    | some c => obtain rfl := Host.Outcome.next.inj h; exact .requestCut ws c
  | badRequest => exact move_request (.refuses _) h
  | readSettings => exact move_request (acts_readSettings.withLength 1) h
  | writeSettings =>
    refine move_request (.unlessBusy fun q s hb => ?_) h
    unfold withLength
    split
    · exact ⟨.writeSettings (by simpa [State.commitPending] using hb), Nat.zero_le _⟩
    · exact ⟨.nothing, Nat.zero_le _⟩
  | readPad => exact move_request (acts_readPad.withLength 1) h
  | writePad => exact move_request (.unlessBusy fun q s _ => acts_writePad q s) h
  | copyBank =>
    refine move_request (.unlessBusy fun q s hb => ?_) h
    unfold withLength
    split
    · exact ⟨.copyBank (State.banksBusy_eq_false.1 hb).1, Nat.zero_le _⟩
    · exact ⟨.nothing, Nat.zero_le _⟩
  | commit =>
    refine move_request (.unlessBusy fun q s hb => ?_) h
    obtain ⟨hc, hp⟩ := State.banksBusy_eq_false.1 hb
    unfold withLength
    split
    · exact act_commit q hc hp
    · exact ⟨.nothing, Nat.zero_le _⟩
  | readStatus => exact move_request (acts_readStatus.withLength 0) h
  | readLinks => exact move_request (acts_readLinks.withLength 0) h
  | readCounters => exact move_request (acts_readCounters.withLength 1) h
  | clearCounters => exact move_request (acts_clearCounters.withLength 0) h
  | queryCause => exact move_request (acts_queryCause.withLength 0) h
  | setLive => exact move_request (Acts.withLength 3 fun _ _ => ⟨.setLive, Nat.zero_le _⟩) h
  | holdLink => exact move_request (acts_hold.withLength 1) h
  | releaseLink => exact move_request (acts_release.withLength 1) h
  | forceClose => exact move_request (acts_forceClose.withLength 0) h
  | runRestart => exact move_request (acts_runRestart.withLength 0) h
  | softReset => exact move_request (acts_softReset.withLength 0) h
  | copyEntryMoved => exact move_copyEntry h
  | copyBankDone =>
    simp only [exec, execCopyBankDone] at h
    split at h <;> obtain rfl := Host.Outcome.next.inj h
    · exact .copyDone
    · exact .nothing
  | runRestartTakesEffect =>
    simp only [exec, execRunRestartTakesEffect] at h
    split at h <;> obtain rfl := Host.Outcome.next.inj h
    · next hr => exact .runRestart hr.1 hr.2
    · exact .nothing
  | softResetTakesEffect =>
    simp only [exec, execSoftResetTakesEffect] at h
    split at h <;> obtain rfl := Host.Outcome.next.inj h
    · next hr => exact .softReset hr.1 hr.2
    · exact .nothing

/-! ### The block and its queue of commands -/

/-- Every command has a next state: neither `Fault` nor `Refusal` is answered. -/
theorem exec_completes (c : Instr) (s : State) : ∃ t, exec c s = .next t := by
  cases c
  case takeHbOpen => simp only [exec, execTakeHbOpen]; split <;> exact ⟨_, rfl⟩
  case takeBurst => simp only [exec, execTakeBurst]; split <;> exact ⟨_, rfl⟩
  case takeHbClose => simp only [exec, execTakeHbClose]; split <;> exact ⟨_, rfl⟩
  case takeLoss => simp only [exec, execTakeLoss]; split <;> exact ⟨_, rfl⟩
  case takeLinkDown => simp only [exec, execTakeLinkDown]; split <;> exact ⟨_, rfl⟩
  case deadlineExpiry => simp only [exec, execDeadlineExpiry]; split <;> exact ⟨_, rfl⟩
  case epochMarkSent => simp only [exec, execEpochMarkSent]; split <;> exact ⟨_, rfl⟩
  case headSent => simp only [exec, execHeadSent]; split <;> exact ⟨_, rfl⟩
  case rowSent => simp only [exec, execRowSent]; split <;> exact ⟨_, rfl⟩
  case tailSent => simp only [exec, execTailSent]; split <;> exact ⟨_, rfl⟩
  case replySent =>
    simp only [exec, execReplySent]
    split
    · split <;> exact ⟨_, rfl⟩
    · exact ⟨_, rfl⟩
    · exact ⟨_, rfl⟩
  case trainWordSent => simp only [exec, execTrainWordSent]; split <;> exact ⟨_, rfl⟩
  case returnLaneAlignmentFound => simp only [exec, execReturnLaneAlignmentFound]; split <;> exact ⟨_, rfl⟩
  case returnLaneTrainingCountReset => simp only [exec, execReturnLaneTrainingCountReset]; split <;> exact ⟨_, rfl⟩
  case requestFrame ws cut => cases cut <;> exact ⟨_, rfl⟩
  case copyEntryMoved =>
    simp only [exec, execCopyEntryMoved]
    split
    · exact ⟨_, rfl⟩
    · split <;> exact ⟨_, rfl⟩
  case copyBankDone => simp only [exec, execCopyBankDone]; split <;> exact ⟨_, rfl⟩
  case runRestartTakesEffect => simp only [exec, execRunRestartTakesEffect]; split <;> exact ⟨_, rfl⟩
  case softResetTakesEffect => simp only [exec, execSoftResetTakesEffect]; split <;> exact ⟨_, rfl⟩
  all_goals exact ⟨_, rfl⟩

end Sys2Proof.Machine
end

section
/-! What the return lane and the ends of frames leave as they are; O1, O2 and O14. -/

namespace Sys2Proof.Machine

open Sys2Proof Sys2Proof.Safety

/-! ### The return lane -/

/-- From `s` to `t` only the lane, the requests with their counts, the pause flag and, by it, the emitter's state change. -/
structure State.ChangesLane (s t : State) : Prop where
  links : t.links = s.links
  ring : t.ring = s.ring
  freeCells : t.freeCells = s.freeCells
  padTable : t.padTable = s.padTable
  settings : t.settings = s.settings
  freeDraws : t.freeDraws = s.freeDraws
  pending : t.pending = s.pending
  emitter : t.emitter = { s.emitter with state := t.emitter.state }
  idle : t.emitter.state = .idle ↔ s.emitter.state = .idle
  uplink : t.uplink = { s.uplink with paused := t.uplink.paused }
  control : t.control = { s.control with
    queue := t.control.queue, overrun := t.control.overrun, controlOverrun := t.control.controlOverrun
    globals := t.control.globals }

namespace State.ChangesLane

theorem refl (s : State) : s.ChangesLane s := ⟨rfl, rfl, rfl, rfl, rfl, rfl, rfl, rfl, Iff.rfl, rfl, rfl⟩

theorem trans {s t u : State} (h : s.ChangesLane t) (h' : t.ChangesLane u) : s.ChangesLane u where
  links := h'.links.trans h.links
  ring := h'.ring.trans h.ring
  freeCells := h'.freeCells.trans h.freeCells
  padTable := h'.padTable.trans h.padTable
  settings := h'.settings.trans h.settings
  freeDraws := h'.freeDraws.trans h.freeDraws
  pending := h'.pending.trans h.pending
  emitter := by rw [h'.emitter, h.emitter]
  idle := h'.idle.trans h.idle
  uplink := by rw [h'.uplink, h.uplink]
  control := by rw [h'.control, h.control]

theorem mapLane (f : ReturnLane → ReturnLane) (s : State) : s.ChangesLane (s.mapLane f) :=
  ⟨rfl, rfl, rfl, rfl, rfl, rfl, rfl, rfl, Iff.rfl, rfl, rfl⟩

theorem countDiscarded (s : State) : s.ChangesLane s.countDiscarded :=
  ⟨rfl, rfl, rfl, rfl, rfl, rfl, rfl, rfl, Iff.rfl, rfl, rfl⟩

theorem discardFrame (s : State) : s.ChangesLane s.discardFrame := by
  obtain ⟨-, h⟩ | ⟨-, h⟩ := s.discardFrame_cases
  · rw [h]; exact refl s
  · rw [h]; exact (mapLane ..).trans (countDiscarded _)

theorem setPaused (paused : Bool) (s : State) : s.ChangesLane (s.setPaused paused) := by
  unfold State.setPaused
  refine ⟨rfl, rfl, rfl, rfl, rfl, rfl, rfl, ?_, ?_, rfl, rfl⟩ <;> dsimp only <;> split
  · rfl
  · rfl
  · next h => simp [h.2]
  · rfl

theorem alignedControl (c : Word16) (s : State) : s.ChangesLane (s.alignedControl c) := by
  unfold State.alignedControl
  repeat' split
  · exact setPaused true s
  · exact setPaused false s
  · exact (discardFrame s).trans (mapLane ..)
  · exact discardFrame s

theorem laneControl (c : Word16) (s : State) : s.ChangesLane (s.laneControl c) := by
  unfold State.laneControl
  split
  · exact refl s
  · exact mapLane ..
  · exact (mapLane ..).trans (alignedControl ..)

theorem offerRequest (q : Request) (s : State) : s.ChangesLane (s.offerRequest q) := by
  unfold State.offerRequest
  split <;> exact ⟨rfl, rfl, rfl, rfl, rfl, rfl, rfl, rfl, Iff.rfl, rfl, rfl⟩

theorem closeRequest (ws : List Word32) (s : State) : s.ChangesLane (s.closeRequest ws) := by
  cases ws with
  | nil => exact refl s
  | cons header rest =>
    simp only [State.closeRequest, State.completeRequest]
    split
    · exact offerRequest ..
    · exact countDiscarded s

theorem requestData (ws : List Word16) (s : State) : s.ChangesLane (s.requestData ws) := by
  unfold State.requestData
  split
  · exact refl s
  · split
    · exact (mapLane ..).trans (closeRequest ..)
    · exact mapLane ..

theorem requestWordsArrive (ws : List Word16) (s : State) : s.ChangesLane (s.requestWordsArrive ws) := by
  unfold State.requestWordsArrive
  split
  · exact refl s
  · exact mapLane ..
  · dsimp only
    split
    · exact (mapLane ..).trans (requestData ..)
    · exact (laneControl ..).trans ((mapLane ..).trans (requestData ..))

theorem laneWord (w : LaneWord) (s : State) : s.ChangesLane (s.laneWord w) := by
  unfold State.laneWord
  split
  · exact laneControl ..
  · split
    · exact refl s
    · exact mapLane ..
    · exact (mapLane ..).trans (requestData ..)

theorem inRequest (inFrame : Option (List Word16)) (s : State) : s.ChangesLane (s.inRequest inFrame) := by
  cases inFrame with
  | none => exact refl s
  | some ws => exact requestWordsArrive ws s

theorem laneCodeError (s : State) : s.ChangesLane s.laneCodeError := by
  unfold State.laneCodeError
  split
  · exact refl s
  · exact mapLane ..
  · dsimp only
    split
    · exact ((discardFrame s).trans (mapLane ..)).trans (mapLane ..)
    · exact (discardFrame s).trans (mapLane ..)

theorem laneSignalLoss (s : State) : s.ChangesLane s.laneSignalLoss := by
  unfold State.laneSignalLoss
  split
  · exact refl s
  · exact (discardFrame s).trans (mapLane ..)
  · exact (discardFrame s).trans (mapLane ..)

end State.ChangesLane

/-! ### Ends of frames -/

/-- The release of a commit changes settings, pad table and last emitted epoch alone (R145). -/
@[simp] theorem State.releaseCommit_frame (s : State) :
    s.releaseCommit.links = s.links ∧ s.releaseCommit.ring = s.ring ∧ s.releaseCommit.freeCells = s.freeCells ∧
    s.releaseCommit.uplink = s.uplink ∧ s.releaseCommit.lane = s.lane ∧ s.releaseCommit.control = s.control ∧
    s.releaseCommit.freeDraws = s.freeDraws ∧ s.releaseCommit.pending = s.pending ∧
    s.releaseCommit.emitter.stopping = s.emitter.stopping := by
  obtain ⟨c, -, -, h⟩ | ⟨-, h⟩ := s.releaseCommit_cases <;> simp [h]

theorem State.releaseCommit_emitter (s : State) :
    s.releaseCommit.emitter = { s.emitter with lastEpoch := s.releaseCommit.emitter.lastEpoch } := by
  obtain ⟨c, -, -, h⟩ | ⟨-, h⟩ := s.releaseCommit_cases <;> simp only [h]

/-- What the advance of the cursor leaves (R6). -/
@[simp] theorem State.advanceCursor_frame (t : Slot) (s : State) :
    (s.advanceCursor t).links = s.links ∧ (s.advanceCursor t).freeCells = s.freeCells ∧
    (s.advanceCursor t).padTable = s.padTable ∧ (s.advanceCursor t).settings = s.settings ∧
    (s.advanceCursor t).emitter = s.emitter ∧ (s.advanceCursor t).uplink = s.uplink ∧
    (s.advanceCursor t).lane = s.lane ∧ (s.advanceCursor t).control = s.control ∧
    (s.advanceCursor t).freeDraws = s.freeDraws ∧ (s.advanceCursor t).pending = s.pending ∧
    (s.advanceCursor t).ring.slots = s.ring.slots ∧ (s.advanceCursor t).ring.intake = s.ring.intake ∧
    (s.advanceCursor t).ring.arbiter = s.ring.arbiter ∧
    (s.advanceCursor t).ring.cursorSlot = s.ring.cursorSlot + 1 ∧
    (s.advanceCursor t).ring.cursor = some (t.first + BitVec.ofNat 16 (2 ^ t.span)) :=
  ⟨rfl, rfl, rfl, rfl, rfl, rfl, rfl, rfl, rfl, rfl, rfl, rfl, rfl, rfl, rfl⟩

/-- What the release of the record slot leaves (R122). -/
@[simp] theorem State.releaseSlot_frame (i : SlotId) (s : State) :
    (s.releaseSlot i).links = s.links ∧ (s.releaseSlot i).freeCells = s.freeCells ∧
    (s.releaseSlot i).uplink = s.uplink ∧ (s.releaseSlot i).lane = s.lane ∧
    (s.releaseSlot i).control = s.control ∧ (s.releaseSlot i).freeDraws = s.freeDraws ∧
    (s.releaseSlot i).pending = s.pending ∧
    (s.releaseSlot i).ring = ((s.emptySlot i).advanceCursor (s.slot i)).ring ∧
    (s.releaseSlot i).emitter.stopping = s.emitter.stopping := by
  simp [State.releaseSlot]

theorem State.releaseSlot_emitter (i : SlotId) (s : State) :
    (s.releaseSlot i).emitter =
      { s.emitter with
        state := .idle, slot := none, next := none, lastEpoch := (s.releaseSlot i).emitter.lastEpoch } := by
  simp only [State.releaseSlot]
  rw [State.releaseCommit_emitter]
  simp

/-- The reply holder's hand-over changes holder and port alone (R155). -/
theorem State.handover_cases (s : State) :
    (∃ r, s.control.holder = some r ∧ s.uplink.portFree = true ∧ s.handover =
      { s with control := { s.control with holder := none }, uplink := { s.uplink with port := some r } }) ∨
    ((s.control.holder = none ∨ s.uplink.portFree = false) ∧ s.handover = s) := by
  unfold State.handover
  split
  · next h => exact .inr ⟨.inl h, rfl⟩
  · next r h =>
    split
    · next hp => exact .inl ⟨r, h, hp, rfl⟩
    · next hp => exact .inr ⟨.inr (by simpa using hp), rfl⟩

@[simp] theorem State.handover_frame (s : State) :
    s.handover.links = s.links ∧ s.handover.ring = s.ring ∧ s.handover.freeCells = s.freeCells ∧
    s.handover.padTable = s.padTable ∧ s.handover.settings = s.settings ∧ s.handover.emitter = s.emitter ∧
    s.handover.lane = s.lane ∧ s.handover.freeDraws = s.freeDraws ∧ s.handover.pending = s.pending ∧
    s.handover.uplink.tx = s.uplink.tx ∧ s.handover.uplink.opening = s.uplink.opening ∧
    s.handover.uplink.paused = s.uplink.paused ∧ s.handover.control.queue = s.control.queue ∧
    s.handover.control.live = s.control.live := by
  obtain ⟨r, -, -, h⟩ | ⟨-, h⟩ := s.handover_cases <;> rw [h] <;>
    exact ⟨rfl, rfl, rfl, rfl, rfl, rfl, rfl, rfl, rfl, rfl, rfl, rfl, rfl, rfl⟩

/-- The end of a TAIL in its three forms: while a restart waits, and in the two orders of boundary and taking (R122, R125). -/
theorem State.afterTail_cases (first : Bool) (i : SlotId) (s : State) :
    (s.emitter.stopping ≠ none ∧
      s.afterTail first i = { s.countEmitted with uplink := { s.uplink with tx := .boundary } }) ∨
    (s.emitter.stopping = none ∧ first = true ∧
      s.afterTail first i = (s.countEmitted.releaseSlot i).boundary.emitterTakes) ∨
    (s.emitter.stopping = none ∧ first = false ∧
      s.afterTail first i = (s.countEmitted.releaseSlot i).emitterTakes.boundary) := by
  unfold State.afterTail
  split
  · next k h =>
    have h' : s.countEmitted.emitter.stopping ≠ none := by simp [h]
    exact .inl ⟨by simp [h], by rw [State.recordBoundary_of_stopping h']; rfl⟩
  · next h =>
    have hstop : (s.countEmitted.releaseSlot i).emitter.stopping = none := by simpa using h
    cases first with
    | true => exact .inr (.inl ⟨h, rfl, congrArg State.emitterTakes (State.recordBoundary_of_running hstop)⟩)
    | false => exact .inr (.inr ⟨h, rfl, State.recordBoundary_of_running (by simpa using hstop)⟩)

/-- The end of a ROW frame: its cells return, unless a restart waits (R51, R119). -/
theorem State.afterRow_cases (i : SlotId) (f : UplinkFrame) (s : State) :
    ∃ e, e = s.emitter.afterRow (s.orderOf i) s.emitter.row ((s.returnCells i s.emitter.row f.pulses).slot i) ∧
      ((s.emitter.stopping = none ∧
          s.afterRow i f = { s.returnCells i s.emitter.row f.pulses with emitter := e }) ∨
        (s.emitter.stopping ≠ none ∧ s.afterRow i f = { s with emitter := e })) := by
  refine ⟨_, rfl, ?_⟩
  unfold State.afterRow
  dsimp only
  split
  · next h => exact .inl ⟨h, rfl⟩
  · next h => exact .inr ⟨by simp [h], rfl⟩

/-- What the return of a ROW frame's cells leaves (R51). -/
@[simp] theorem State.returnCells_frame (i : SlotId) (row : RowId) (n : Nat) (s : State) :
    (s.returnCells i row n).links = s.links ∧ (s.returnCells i row n).padTable = s.padTable ∧
    (s.returnCells i row n).settings = s.settings ∧ (s.returnCells i row n).emitter = s.emitter ∧
    (s.returnCells i row n).uplink = s.uplink ∧ (s.returnCells i row n).lane = s.lane ∧
    (s.returnCells i row n).control = s.control ∧ (s.returnCells i row n).freeDraws = s.freeDraws ∧
    (s.returnCells i row n).pending = s.pending ∧ (s.returnCells i row n).ring.cursor = s.ring.cursor ∧
    (s.returnCells i row n).ring.cursorSlot = s.ring.cursorSlot ∧
    (s.returnCells i row n).ring.newest = s.ring.newest ∧ (s.returnCells i row n).ring.intake = s.ring.intake ∧
    (s.returnCells i row n).ring.arbiter = s.ring.arbiter :=
  ⟨rfl, rfl, rfl, rfl, rfl, rfl, rfl, rfl, rfl, rfl, rfl, rfl, rfl, rfl⟩

/-- What the emitter's step after a ROW frame leaves of the emitter (R119). -/
@[simp] theorem Emitter.afterRow_frame (order : RowOrder) (row : RowId) (t : Slot) (e : Emitter) :
    (e.afterRow order row t).state = e.state ∧ (e.afterRow order row t).slot = e.slot ∧
    (e.afterRow order row t).lastEpoch = e.lastEpoch ∧ (e.afterRow order row t).stopping = e.stopping := by
  unfold Emitter.afterRow
  split
  · simp
  · split <;> simp

/-! ### Restarts -/

/-- What ring, pool, emitter and commit state are after a restart, and what stays (R25, R54, R131, R146). -/
theorem State.restartCore_frame (s : State) :
    s.restartCore.links = s.links ∧ s.restartCore.ring = .reset ∧ s.restartCore.freeCells = refilled ∧
    s.restartCore.emitter = .reset ∧ s.restartCore.uplink = s.uplink ∧ s.restartCore.lane = s.lane ∧
    s.restartCore.control = s.control ∧ s.restartCore.freeDraws = s.freeDraws ∧
    s.restartCore.pending = s.pending := by
  unfold State.restartCore State.applyCommit
  split <;> simp

/-- The choice at the boundary at which a restart was due, or nothing. -/
theorem State.resumeUplink_cases (s : State) :
    (s.uplink.tx = .boundary ∧ s.resumeUplink = s.boundary) ∨ (s.uplink.tx ≠ .boundary ∧ s.resumeUplink = s) := by
  unfold State.resumeUplink
  split
  · next h => exact .inl ⟨h, rfl⟩
  · next h => exact .inr ⟨by simp [h], rfl⟩
  · next h => exact .inr ⟨by simp [h], rfl⟩

@[simp] theorem State.resumeUplink_frame (s : State) :
    s.resumeUplink.links = s.links ∧ s.resumeUplink.ring = s.ring ∧ s.resumeUplink.freeCells = s.freeCells ∧
    s.resumeUplink.padTable = s.padTable ∧ s.resumeUplink.settings = s.settings ∧ s.resumeUplink.lane = s.lane ∧
    s.resumeUplink.control = s.control ∧ s.resumeUplink.freeDraws = s.freeDraws ∧
    s.resumeUplink.pending = s.pending ∧ s.resumeUplink.emitter.slot = s.emitter.slot ∧
    s.resumeUplink.emitter.next = s.emitter.next ∧ s.resumeUplink.emitter.lastEpoch = s.emitter.lastEpoch ∧
    s.resumeUplink.emitter.stopping = s.emitter.stopping ∧ s.resumeUplink.uplink.opening = s.uplink.opening ∧
    s.resumeUplink.uplink.paused = s.uplink.paused := by
  obtain ⟨-, h⟩ | ⟨-, h⟩ := s.resumeUplink_cases <;> rw [h] <;> simp

/-! ### The block and its queue of commands -/

/-- Settles O1: both clauses are the arms of `step`. -/
theorem frontCommandRuns : Obligations.FrontCommandRuns := by
  refine ⟨fun c rest s => rfl, fun s h => ?_⟩
  simp only [step, h]

/-- The start of a taking leaves everything but links and pointer. -/
theorem State.beginTaking_frame {s s' : State} {l : LinkId} {it : Item} (h : s.beginTaking = some (l, it, s')) :
    s'.ring = { s.ring with arbiter := l } ∧ s'.freeCells = s.freeCells ∧ s'.padTable = s.padTable ∧
    s'.settings = s.settings ∧ s'.emitter = s.emitter ∧ s'.uplink = s.uplink ∧ s'.lane = s.lane ∧
    s'.control = s.control ∧ s'.freeDraws = s.freeDraws ∧ s'.pending = s.pending ∧
    s.emitter.stopping = none := by
  obtain ⟨hsel, rest, -, rfl⟩ := State.beginTaking_eq_some.1 h
  refine ⟨rfl, rfl, rfl, rfl, rfl, rfl, rfl, rfl, rfl, rfl, ?_⟩
  by_contra hstop
  simp [State.selected, hstop] at hsel

/-- The queue of commands stays as it is when a request is executed. -/
theorem requestAct_pending {q : Request} {s t : State} (h : RequestAct q s t) : t.pending = s.pending := by
  cases h with
  | commitPending fc _ _ _ _ =>
    simp only [State.commitPendingFrom]
    simp [(State.ChangesSlots.cutLastOld ..).pending]
  | setLive => simp [setLiveAct]
  | forceClose i _ => simp
  | clearCounters => simp [State.clearCounters]
  | commitNow _ _ _ => rfl
  | clearDelta => simp
  | nothing | writeSettings | writePad | copyBank | reject | clearCause | drawFree | hold | release | setStopping
  | softReset => rfl

/-- No move changes the queue of commands. -/
theorem Move.pending {s t : State} (h : Move s t) : t.pending = s.pending := by
  have taking {l : LinkId} {it : Item} {s' t : State} (hb : s.beginTaking = some (l, it, s'))
      (h : State.Takes l s' t) : t.pending = s.pending := by
    obtain ⟨-, -, -, -, -, -, -, -, -, hp, -⟩ := State.beginTaking_frame hb
    exact h.pending.trans hp
  cases h with
  | nothing => rfl
  | link l k _ => rfl
  | takeOpen l x _ s' hb => exact taking hb (.takeOpen ..)
  | takeBurst l b s' hb => exact taking hb (.takeBurstItem ..)
  | takeClose l c s' hb => exact taking hb (.takeClose ..)
  | takeLoss l s' hb => exact taking hb (.takeLossItem ..)
  | takeDown l reason s' hb => exact taking hb (.takeDownItem ..)
  | timebase => rfl
  | expiry i _ _ => simp
  | epochMarkSent i f _ => simp [State.afterEpochMark]
  | headSent i f _ => simp [State.afterHead]
  | rowSent i f _ =>
    obtain ⟨e, -, ⟨-, h⟩ | ⟨-, h⟩⟩ := s.afterRow_cases i f <;> rw [h] <;> simp
  | tailSent i f first _ =>
    obtain ⟨-, h⟩ | ⟨-, -, h⟩ | ⟨-, -, h⟩ := s.afterTail_cases first i <;> rw [h]
    · rfl
    · simp
    · simp
  | replySent | trainWordSent => simp
  | replySentHandover | handover => simp
  | laneAlignment pos _ => rfl
  | laneWord w => exact (State.ChangesLane.laneWord w s).pending
  | laneCodeError f => exact ((State.ChangesLane.inRequest f s).trans (.laneCodeError _)).pending
  | laneSignalLoss f => exact ((State.ChangesLane.inRequest f s).trans (.laneSignalLoss _)).pending
  | requestFrame ws => exact (State.ChangesLane.requestWordsArrive ws s).pending
  | requestCut ws c => exact ((State.ChangesLane.requestWordsArrive ws s).trans (.laneControl c _)).pending
  | request q rest t a _ _ _ h => exact (requestAct_pending h :)
  | copyEntry | copyDone | pinReset => rfl
  | runRestart _ _ => simp [State.runRestart, State.restartCore_frame]
  | softReset _ _ => simp [State.softReset, State.restartCore_frame]

/-- Settles O2: no command answers a fault or a refusal, and every move keeps the queue of commands. -/
theorem everyCommandCompletes : Obligations.EveryCommandCompletes := by
  intro c s
  obtain ⟨t, h⟩ := exec_completes c s
  exact ⟨t, h, (exec_move h).pending⟩

/-- What every move keeps, and a change of the queue of commands too, every step keeps. -/
theorem keptByStep_of_move {P : State → Prop} (hqueue : ∀ (s : State) (cs : List Instr), P s → P { s with pending := cs })
    (hmove : ∀ s t, Move s t → P s → P t) : KeptByStep P := by
  intro s t hs h
  unfold step at h
  split at h
  · obtain rfl := Host.Outcome.next.inj h
    exact hs
  · exact hmove _ t (exec_move h) (hqueue s _ hs)

/-- Settles O14: every arm of a pad-link event writes its own link. -/
theorem padLinkEventsChangeOneLink : Obligations.PadLinkEventsChangeOneLink := by
  intro s l c h
  have hmap (f : Link → Link) : ∃ k, Host.Outcome.next (φ := Fault) (ρ := Refusal) (s.mapLink l f) =
      .next (s.mapLink l fun _ => k) := ⟨f (s.link l), congrArg _ (State.mapLink_congr rfl)⟩
  rcases h with ⟨_, rfl⟩ | rfl | ⟨_, rfl⟩ | ⟨_, rfl⟩ | rfl | ⟨_, _, rfl⟩ | ⟨_, _, _, _, rfl⟩ | ⟨_, _, _, _, rfl⟩ |
    ⟨_, _, _, _, _, rfl⟩ | ⟨_, rfl⟩
  all_goals exact hmap _

end Sys2Proof.Machine
end

section
/-! What one command can do to one link: its queue grows by offers, is flushed, or gives its head item to a taking; O4 from it. -/

namespace Sys2Proof.Machine

open Sys2Proof Sys2Proof.Safety

/-! ### The moves of one link -/

/-- What one command can do to a link, whose head item can be taken or not. -/
inductive LinkMove (takeable : Bool) (k : Link) : Link → Prop where
  | quiet {k' : Link} (hr : k'.rx = k.rx) (hq : k'.queue = k.queue) : LinkMove takeable k k'
  | event {k' : Link} (h : LinkEvent k k') : LinkMove takeable k k'
  | taken {k' : Link} (ht : takeable = true) (it : Item) (rest : List Item) (hi : k.queue.items = it :: rest)
    (hr : k'.rx = k.rx) (hq : k'.queue = { k.queue with items := rest }) : LinkMove takeable k k'
  | enabled (before after : Bool) : LinkMove takeable k (k.enableChange before after)
  | held : LinkMove takeable k k.hold
  | released (enabled : Bool) : LinkMove takeable k (k.release enabled)
  | runRestarted : LinkMove takeable k k.runRestarted
  | softReset (enabled : Bool) : LinkMove takeable k (Link.softReset enabled)

theorem LinkMove.refl (b : Bool) (k : Link) : LinkMove b k k := .quiet rfl rfl

/-- A link that no operation has named stays as it is. -/
theorem linkMove_of_links_eq {s t : State} (h : t.links = s.links) (b : Bool) (l : LinkId) :
    LinkMove b (s.link l) (t.link l) := by
  have h' : t.link l = s.link l := by simp only [State.link, h]
  exact h' ▸ .refl b _

/-- The selected link has an item to take. -/
theorem State.takeable_of_selected {s : State} {l : LinkId} (h : s.selected = some l) : s.takeable l = true := by
  unfold State.selected at h
  split at h
  · exact List.find?_some h
  · cases h

/-- Where a taking begins, the head item has left the queue of its link, and no other link has changed. -/
theorem State.beginTaking_link {s s' : State} {l : LinkId} {it : Item} (h : s.beginTaking = some (l, it, s')) :
    s.takeable l = true ∧ (∀ l', l' ≠ l → s'.link l' = s.link l') ∧
    ∃ rest, (s.link l).queue.items = it :: rest ∧
      s'.link l = { s.link l with queue := { (s.link l).queue with items := rest } } := by
  obtain ⟨hsel, rest, hitems, rfl⟩ := State.beginTaking_eq_some.1 h
  refine ⟨State.takeable_of_selected hsel, fun l' hl => ?_, rest, hitems, ?_⟩
  · exact State.link_mapLink_ne hl (fun k => { k with queue := { k.queue with items := rest } }) s
  · exact State.link_mapLink l (fun k => { k with queue := { k.queue with items := rest } }) s

/-- A taking moves its own link by the head item, and no other. -/
theorem linkMove_of_taking {s s' t : State} {l : LinkId} {it : Item} (hb : s.beginTaking = some (l, it, s'))
    (h : State.Takes l s' t) (l' : LinkId) : LinkMove (s.takeable l') (s.link l') (t.link l') := by
  obtain ⟨htakeable, hothers, rest, hitems, hlink⟩ := State.beginTaking_link hb
  by_cases hl : l' = l
  · subst hl
    obtain ⟨hrx, -, hqueue⟩ := h.received
    exact .taken htakeable it rest hitems (by rw [hrx, hlink]) (by rw [hqueue, hlink])
  · exact .quiet (by rw [h.others l' hl, hothers l' hl]) (by rw [h.others l' hl, hothers l' hl])

/-- A change of one link by a move of it moves every link. -/
theorem linkMove_mapLink {s : State} {l : LinkId} {f : Link → Link} (h : ∀ b, LinkMove b (s.link l) (f (s.link l)))
    (b : Bool) (l' : LinkId) : LinkMove b (s.link l') ((s.mapLink l f).link l') := by
  rw [State.link_mapLink_ite]
  split
  · next hl => subst hl; exact h b
  · exact .refl b _

/-- What a request does to each link. -/
theorem RequestAct.linkMove {q : Request} {s t : State} (h : RequestAct q s t) (b : Bool) (l : LinkId) :
    LinkMove b (s.link l) (t.link l) := by
  cases h with
  | nothing | writeSettings | writePad | copyBank | reject | clearCause | drawFree | setStopping | softReset =>
    exact .refl b _
  | commitNow _ _ _ => exact .refl b _
  | commitPending fc _ _ _ _ =>
    refine linkMove_of_links_eq ?_ b l
    simp only [State.commitPendingFrom]
    simp [(State.ChangesSlots.cutLastOld ..).links]
  | clearDelta => rw [State.link_mapLinks]; exact .quiet rfl rfl
  | clearCounters => rw [State.clearCounters, State.link_mapGlobals, State.link_mapLinks]; exact .quiet rfl rfl
  | setLive =>
    have h : (setLiveAct q s).1.link l = (s.link l).enableChange (s.control.live.enable.getLsbD l.val)
        ((setLiveAct q s).1.control.live.enable.getLsbD l.val) := by
      simp only [setLiveAct, State.link, State.mapLinks_links, Vector.getElem_ofFn, Fin.getElem_fin]
    rw [h]
    exact .enabled _ _
  | hold l' => exact linkMove_mapLink (fun b => .held) b l
  | release l' enabled => exact linkMove_mapLink (fun b => .released enabled) b l
  | forceClose i _ => exact linkMove_of_links_eq (by simp) b l

/-- What one command can do to each link. -/
theorem Move.linkMove {s t : State} (h : Move s t) (l : LinkId) :
    LinkMove (s.takeable l) (s.link l) (t.link l) := by
  cases h with
  | nothing => exact .refl _ _
  | link l' k h =>
    rw [State.link_mapLink_ite]
    split
    · next hl => subst hl; exact .event h
    · exact .refl _ _
  | takeOpen l' x _ s' hb => exact linkMove_of_taking hb (.takeOpen ..) l
  | takeBurst l' b s' hb => exact linkMove_of_taking hb (.takeBurstItem ..) l
  | takeClose l' c s' hb => exact linkMove_of_taking hb (.takeClose ..) l
  | takeLoss l' s' hb => exact linkMove_of_taking hb (.takeLossItem ..) l
  | takeDown l' reason s' hb => exact linkMove_of_taking hb (.takeDownItem ..) l
  | timebase => exact .refl _ _
  | expiry i _ _ => exact linkMove_of_links_eq (by simp) _ l
  | epochMarkSent i f _ => exact linkMove_of_links_eq (by simp [State.afterEpochMark]) _ l
  | headSent i f _ => exact linkMove_of_links_eq (by simp [State.afterHead]) _ l
  | rowSent i f _ =>
    obtain ⟨e, -, ⟨-, h⟩ | ⟨-, h⟩⟩ := s.afterRow_cases i f <;>
      exact linkMove_of_links_eq (by rw [h]; simp) _ l
  | tailSent i f first _ =>
    obtain ⟨-, h⟩ | ⟨-, -, h⟩ | ⟨-, -, h⟩ := s.afterTail_cases first i <;> rw [h]
    · exact .refl _ _
    · exact linkMove_of_links_eq (by simp) _ l
    · exact linkMove_of_links_eq (by simp) _ l
  | replySent | replySentHandover | trainWordSent | handover => exact linkMove_of_links_eq (by simp) _ l
  | laneAlignment pos _ => exact .refl _ _
  | laneWord w => exact linkMove_of_links_eq (State.ChangesLane.laneWord w s).links _ l
  | laneCodeError f => exact linkMove_of_links_eq ((State.ChangesLane.inRequest f s).trans (.laneCodeError _)).links _ l
  | laneSignalLoss f =>
    exact linkMove_of_links_eq ((State.ChangesLane.inRequest f s).trans (.laneSignalLoss _)).links _ l
  | requestFrame ws => exact linkMove_of_links_eq (State.ChangesLane.requestWordsArrive ws s).links _ l
  | requestCut ws c =>
    exact linkMove_of_links_eq ((State.ChangesLane.requestWordsArrive ws s).trans (.laneControl c _)).links _ l
  | request q rest t a _ _ _ h => exact (h.linkMove _ l :)
  | copyEntry | copyDone => exact .refl _ _
  | pinReset =>
    have h : State.reset.link l = Link.softReset true := by simp [State.link, State.reset, Link.softReset, Link.reset,
      Receiver.reset]
    exact h ▸ .softReset true
  | runRestart _ _ =>
    have h : s.runRestart.link l = (s.link l).runRestarted := by
      simp [State.link, State.runRestart, State.restartCore_frame]
    exact h ▸ .runRestarted
  | softReset _ _ =>
    have h : s.softReset.link l = Link.softReset (s.control.live.enable.getLsbD l.val) := by
      simp [State.link, State.softReset, State.restartCore_frame]
    exact h ▸ .softReset _

/-- What holds of every link and is kept by the moves of a link is kept by every step. -/
theorem keptByStep_of_linkMove {Q : Link → Prop} (h : ∀ b k k', LinkMove b k k' → Q k → Q k') :
    KeptByStep fun s => ∀ l, Q (s.link l) :=
  keptByStep_of_move (fun _ _ hs => hs) fun _ _ hm hs l => h _ _ _ (hm.linkMove l) (hs l)

/-! ### The queue under offers (R72, R73) -/

/-- The queue after an item was offered to it. -/
def Queue.offered (it : Item) (q : Queue) : Queue :=
  if q.dropMode then
    if it.isHbOpen && q.fits it then ⟨q.items ++ [it], false⟩ else q
  else if q.fits it then ⟨q.items ++ [it], false⟩
  else ⟨q.items ++ [.loss], true⟩

@[simp] theorem Link.offer_queue (it : Item) (k : Link) : (k.offer it).queue = k.queue.offered it := by
  unfold Link.offer Queue.offered
  split <;> split <;> rfl

/-- `q'` is `q` after offers of items none of which is an HB_OPEN. -/
inductive Queue.Offers (q : Queue) : Queue → Prop where
  | none : Offers q q
  | item {q' : Queue} (it : Item) (hk : it.isHbOpen = false) (h : Offers q q') : Offers q (q'.offered it)

theorem Queue.Offers.trans {q q' q'' : Queue} (h : q.Offers q') (h' : q'.Offers q'') : q.Offers q'' := by
  induction h' with
  | none => exact h
  | item it hk _ ih => exact .item it hk ih

theorem Queue.Offers.of_eq {q q' : Queue} (h : q' = q) : q.Offers q' := h ▸ .none

theorem Link.offer_offers (it : Item) (hk : it.isHbOpen = false) (k : Link) : k.queue.Offers (k.offer it).queue := by
  rw [Link.offer_queue]
  exact .item it hk .none

/-! ### The offers of the receiver -/

namespace Link

theorem trainUp_queue (k : Link) : k.trainUp.queue = k.queue := by
  unfold Link.trainUp
  dsimp only
  split <;> rfl

theorem beginFrame_queue (c : Word16) (k : Link) : (k.beginFrame c).queue = k.queue := by
  unfold Link.beginFrame
  dsimp only
  split
  · rfl
  · rfl
  · split <;> rfl
  · split <;> rfl
  · rfl

theorem cutFrame_offers (k : Link) : k.queue.Offers k.cutFrame.queue := by
  unfold Link.cutFrame
  split
  · exact .none
  · split
    · rw [Link.offer_setRx]
      exact k.offer_offers _ rfl
    · exact .none

theorem control_offers (c : Word16) (k : Link) : k.queue.Offers (k.control c).queue := by
  unfold Link.control
  split
  · exact .none
  · exact .none
  · exact .none
  · split
    · exact .of_eq (by rw [trainUp_queue]; simp)
    · exact .of_eq (by simp [Link.trainReset])
  · exact .of_eq (by simp)
  · exact .of_eq (by simp)
  · rw [beginFrame_queue]
    exact Queue.Offers.trans (.of_eq (by simp)) (cutFrame_offers _)

theorem dataWords_queue (n : Nat) (k : Link) : (k.dataWords n).queue = k.queue := by
  unfold Link.dataWords
  split <;> simp [Link.trainReset]

theorem startFrame_offers (c : Word16) (k : Link) : k.queue.Offers (k.startFrame c).queue := by
  unfold Link.startFrame
  split
  · exact .none
  · exact control_offers c k

theorem receive_offers (f : FrameInProgress) (k : Link) : k.queue.Offers (k.receive f).queue := by
  have h := k.startFrame_offers f.control
  rw [← dataWords_queue f.words.length (k.startFrame f.control)] at h
  unfold Link.receive
  dsimp only
  split
  · exact h
  · split
    · exact h
    · exact h
  · exact h

theorem strayData_queue (k : Link) : k.strayData.queue = k.queue := by
  unfold Link.strayData
  split
  · rfl
  · split <;> simp
  · exact dataWords_queue 1 k

theorem framingEvent_offers (e : FramingEvent) (k : Link) : k.queue.Offers (k.framingEvent e).queue := by
  cases e with
  | strayData w => exact .of_eq k.strayData_queue
  | strayControl c => exact control_offers c k
  | cut f c => exact (k.receive_offers f).trans (control_offers c _)
  | badBurst f => exact k.receive_offers f

theorem implicitClose_offers (k : Link) : k.queue.Offers k.implicitClose.queue := by
  unfold Link.implicitClose
  split
  · exact k.offer_offers _ rfl
  · exact .none

theorem completeClose_offers (x : Heartbeat) (declared status : Word16) (k : Link) :
    k.queue.Offers (k.completeClose x declared status).queue := by
  unfold Link.completeClose
  dsimp only
  rw [Link.offer_setRx]
  exact k.offer_offers _ rfl

theorem completeBurst_offers (f : FrameInProgress) (check : Word16) (k : Link) :
    k.queue.Offers (k.completeBurst f check).queue := by
  unfold Link.completeBurst
  dsimp only
  rw [Link.offer_setRx]
  split
  · exact k.offer_offers _ rfl
  · exact k.offer_offers _ rfl

/-- The one HB_OPEN that an event offers, it offers last. -/
def OffersOpen (k k' : Link) : Prop :=
  ∃ q, k.queue.Offers q ∧ (k'.queue = q ∨ ∃ x resync, k'.queue = q.offered (.hbOpen x resync))

theorem OffersOpen.of_offers {k k' : Link} (h : k.queue.Offers k'.queue) : OffersOpen k k' := ⟨_, h, .inl rfl⟩

theorem acceptHeartbeat_queue (x : Heartbeat) (resync : Bool) (k : Link) :
    (k.acceptHeartbeat x resync).queue = k.queue.offered (.hbOpen x resync) := k.offer_queue _

theorem sequence_offersOpen (x : Heartbeat) (k : Link) : OffersOpen k (k.sequence x) := by
  refine ⟨k.queue, .none, ?_⟩
  unfold Link.sequence
  split
  · exact .inr ⟨x, false, acceptHeartbeat_queue ..⟩
  · dsimp only
    split
    · exact .inr ⟨x, false, acceptHeartbeat_queue ..⟩
    · split
      · exact .inr ⟨x, false, acceptHeartbeat_queue ..⟩
      · exact .inl rfl

theorem completeOpen_offersOpen (x : Heartbeat) (k : Link) : OffersOpen k (k.completeOpen x) := by
  unfold Link.completeOpen
  dsimp only
  split
  · exact ⟨k.queue, .none, .inr ⟨x, false, acceptHeartbeat_queue ..⟩⟩
  · exact ⟨k.queue, .none, .inr ⟨x, true, acceptHeartbeat_queue ..⟩⟩
  · obtain ⟨q, hq, h⟩ := sequence_offersOpen x ({ k with rx := { k.rx with frame := none } } : Link).implicitClose
    exact ⟨q, (implicitClose_offers { k with rx := { k.rx with frame := none } }).trans hq, h⟩
  all_goals exact .of_offers .none

theorem openFrame_offersOpen (low : BitVec 8) (x : Heartbeat) (k : Link) : OffersOpen k (k.openFrame low x) := by
  have h := k.receive_offers ⟨hbOpenControl low, []⟩
  rw [← dataWords_queue 1 (k.receive _)] at h
  unfold Link.openFrame
  dsimp only
  split
  · obtain ⟨q, hq, h'⟩ := completeOpen_offersOpen x ((k.receive ⟨hbOpenControl low, []⟩).dataWords 1)
    exact ⟨q, h.trans hq, h'⟩
  · exact .of_offers h

theorem closeFrame_offers (low : BitVec 8) (x : Heartbeat) (declared status : Word16) (k : Link) :
    k.queue.Offers (k.closeFrame low x declared status).queue := by
  have h := k.receive_offers ⟨hbCloseControl low, [x, declared]⟩
  rw [← dataWords_queue 1 (k.receive _)] at h
  unfold Link.closeFrame
  dsimp only
  split
  · exact h.trans (completeClose_offers ..)
  · exact h

theorem burstFrame_offers (channel : BitVec 8) (start : Word16) (samples : List Word16) (check : Word16) (k : Link) :
    k.queue.Offers (k.burstFrame channel start samples check).queue := by
  have h := k.receive_offers ⟨burstControl channel, start :: BitVec.ofNat 16 samples.length :: samples⟩
  rw [← dataWords_queue 1 (k.receive _)] at h
  unfold Link.burstFrame
  dsimp only
  split
  · exact h.trans (completeBurst_offers ..)
  · exact h

theorem breakFrame_queue (k : Link) : k.breakFrame.queue = k.queue := by
  unfold Link.breakFrame
  split <;> rfl

/-- A code error leaves the queue, or flushes it (R62). -/
theorem codeError_queue (k : Link) : k.codeError.queue = k.queue ∨ k.codeError.queue = ⟨[.linkDown .lost], false⟩ := by
  have h : k.countCodeError.markError.breakFrame.queue = k.queue := breakFrame_queue _
  unfold Link.codeError
  dsimp only
  split
  · exact .inl rfl
  · exact .inl rfl
  · exact .inl rfl
  · exact .inl rfl
  all_goals
    split
    · exact .inr rfl
    · exact .inl h

theorem loseSignal_queue (k : Link) : k.loseSignal.queue = k.queue ∨ k.loseSignal.queue = ⟨[.linkDown .lost], false⟩ := by
  unfold Link.loseSignal
  split
  · exact .inr rfl
  · exact .inl rfl

end Link

/-- An event on a pad link offers items, an HB_OPEN last, or flushes the queue at an alignment loss. -/
theorem LinkEvent.queue {k k' : Link} (h : LinkEvent k k') :
    Link.OffersOpen k k' ∨ k'.queue = ⟨[.linkDown .lost], false⟩ := by
  cases h with
  | alignmentFound pos =>
    refine .inl (.of_offers (.of_eq ?_))
    unfold Link.findAlignment
    split <;> rfl
  | trainingReset w =>
    refine .inl (.of_offers (.of_eq ?_))
    unfold Link.resetTraining
    split <;> simp [Link.trainReset]
  | codeError => exact k.codeError_queue.imp_left fun h => .of_offers (.of_eq h)
  | codeErrorInFrame f =>
    exact (k.receive f).codeError_queue.imp_left fun h => .of_offers ((k.receive_offers f).trans (.of_eq h))
  | signalLoss => exact k.loseSignal_queue.imp_left fun h => .of_offers (.of_eq h)
  | openFrame low x => exact .inl (k.openFrame_offersOpen low x)
  | closeFrame low x d st => exact .inl (.of_offers (k.closeFrame_offers low x d st))
  | burstFrame ch b ws c => exact .inl (.of_offers (k.burstFrame_offers ch b ws c))
  | framing e => exact .inl (.of_offers (k.framingEvent_offers e))

/-- What a command does to the queue of a link. -/
theorem LinkMove.queue {b : Bool} {k k' : Link} (h : LinkMove b k k') :
    Link.OffersOpen k k' ∨ k'.queue = ⟨[], false⟩ ∨ (∃ reason, k'.queue = ⟨[.linkDown reason], false⟩) ∨
      b = true ∧ ∃ it rest, k.queue.items = it :: rest ∧ k'.queue = { k.queue with items := rest } := by
  have same {k' : Link} (h : k'.queue = k.queue) : Link.OffersOpen k k' := .of_offers (.of_eq h)
  cases h with
  | quiet _ hq => exact .inl (same hq)
  | event h =>
    obtain h | h := h.queue
    · exact .inl h
    · exact .inr (.inr (.inl ⟨_, h⟩))
  | taken ht it rest hi _ hq => exact .inr (.inr (.inr ⟨ht, it, rest, hi, hq⟩))
  | enabled before after =>
    unfold Link.enableChange
    split
    · split
      · exact .inl (same rfl)
      · exact .inl (same rfl)
      all_goals exact .inr (.inr (.inl ⟨_, rfl⟩))
    · split <;> exact .inl (same rfl)
    · exact .inl (same rfl)
    · exact .inl (same rfl)
  | held =>
    unfold Link.hold
    split
    · exact .inl (same rfl)
    · exact .inr (.inr (.inl ⟨_, rfl⟩))
  | released enabled =>
    unfold Link.release
    split <;> exact .inl (same rfl)
  | runRestarted =>
    refine .inr (.inl ?_)
    unfold Link.runRestarted
    dsimp only
    split <;> rfl
  | softReset enabled => exact .inr (.inl rfl)

/-! ### The fill (R72, R73) -/

/-- The fill stays within 2,048 units, and the last unit is used in drop mode only. -/
def Queue.WithinUnits (q : Queue) : Prop :=
  q.fill ≤ Config.queueUnits ∧ (q.dropMode = false → q.fill ≤ Config.queueLimit)

theorem Queue.WithinUnits.offered {q : Queue} (h : q.WithinUnits) (it : Item) : (q.offered it).WithinUnits := by
  obtain ⟨hunits, hlimit⟩ := h
  have admitted (hf : q.fits it = true) : Queue.WithinUnits ⟨q.items ++ [it], false⟩ := by
    have hfill : Queue.fill ⟨q.items ++ [it], false⟩ = q.fill + it.size := Queue.fill_snoc ..
    have hfit : q.fill + it.size ≤ Config.queueLimit := by simpa [Queue.fits] using hf
    exact ⟨by rw [hfill]; exact hfit.trans (by decide), fun _ => by rw [hfill]; exact hfit⟩
  unfold Queue.offered
  split
  · split
    · next hf => exact admitted (Bool.and_eq_true_iff.1 hf).2
    · exact ⟨hunits, hlimit⟩
  · next hd =>
    split
    · next hf => exact admitted hf
    · have hfill : Queue.fill ⟨q.items ++ [.loss], true⟩ = q.fill + 1 := Queue.fill_snoc ..
      have := hlimit (by simpa using hd)
      exact ⟨by rw [hfill]; exact Nat.succ_le_succ this, fun h => by cases h⟩

theorem Queue.WithinUnits.offers {q q' : Queue} (h : q.WithinUnits) (ho : q.Offers q') : q'.WithinUnits := by
  induction ho with
  | none => exact h
  | item it _ _ ih => exact ih.offered it

/-- A queue that loses its head item. -/
theorem Queue.WithinUnits.tail {q : Queue} {it : Item} {rest : List Item} (h : q.WithinUnits)
    (hi : q.items = it :: rest) : Queue.WithinUnits { q with items := rest } := by
  have hfill : Queue.fill { q with items := rest } ≤ q.fill := by
    simp only [Queue.fill, hi, List.map_cons, List.sum_cons]
    omega
  exact ⟨hfill.trans h.1, fun hd => hfill.trans (h.2 hd)⟩

/-- Settles O4: offers keep the bounds, a taking only lowers the fill, and a flush or a restart leaves one item or none. -/
theorem queuesStayWithinUnits : Obligations.QueuesStayWithinUnits := by
  refine keptByStep_of_linkMove (Q := fun k => k.queue.WithinUnits) fun b k k' hmove hk => ?_
  obtain ⟨q, ho, h | ⟨x, resync, h⟩⟩ | h | ⟨reason, h⟩ | ⟨-, it, rest, hi, h⟩ := hmove.queue <;> rw [h]
  · exact hk.offers ho
  · exact (hk.offers ho).offered _
  · exact ⟨by decide, fun _ => by decide⟩
  · cases reason <;> exact ⟨by decide, fun _ => by decide⟩
  · exact hk.tail hi

end Sys2Proof.Machine
end

section
/-! Admission to an ingress queue (R72, R73), and the queue of a blocked link (R14, R178, R179): O22. -/

namespace Sys2Proof.Machine

open Sys2Proof Sys2Proof.Safety

/-- An offer puts at most one item behind those of the queue. -/
theorem Queue.offered_grows (it : Item) (q : Queue) : ∃ more, (q.offered it).items = q.items ++ more := by
  unfold Queue.offered
  split <;> split
  · exact ⟨[it], rfl⟩
  · exact ⟨[], (List.append_nil _).symm⟩
  · exact ⟨[it], rfl⟩
  · exact ⟨[.loss], rfl⟩

theorem Queue.Offers.grows {q q' : Queue} (h : q.Offers q') : ∃ more, q'.items = q.items ++ more := by
  induction h with
  | none => exact ⟨[], (List.append_nil _).symm⟩
  | item it _ _ ih =>
    obtain ⟨more, hmore⟩ := ih
    obtain ⟨last, hlast⟩ := Queue.offered_grows it _
    exact ⟨more ++ last, by rw [hlast, hmore, List.append_assoc]⟩

/-- In drop mode every item but an HB_OPEN is dropped (R73). -/
theorem Queue.Offers.of_dropMode {q q' : Queue} (h : q.Offers q') (hd : q.dropMode = true) : q' = q := by
  induction h with
  | none => rfl
  | item it hk _ ih => rw [ih]; simp [Queue.offered, hd, hk]

/-- In drop mode an HB_OPEN that fits is admitted, and any other is dropped (R73). -/
theorem Queue.offered_open_of_dropMode {q : Queue} (hd : q.dropMode = true) (x : Heartbeat) (resync : Bool) :
    (q.fill + 1 ≤ 2047 ∧ q.offered (.hbOpen x resync) = ⟨q.items ++ [.hbOpen x resync], false⟩) ∨
    (2047 < q.fill + 1 ∧ q.offered (.hbOpen x resync) = q) := by
  by_cases h : q.fill + 1 ≤ 2047
  · exact .inl ⟨h, by simp [Queue.offered, hd, Item.isHbOpen, Queue.fits, Item.size, h]⟩
  · exact .inr ⟨by omega, by simp [Queue.offered, hd, Item.isHbOpen, Queue.fits, Item.size, h]⟩

/-- A queue that is offered items, an HB_OPEN last, only grows; and from drop mode only an HB_OPEN that fits leads out. -/
theorem Link.OffersOpen.queue {k k' : Link} (h : OffersOpen k k') :
    (∃ more, k'.queue.items = k.queue.items ++ more) ∧
    (k.queue.dropMode = true → k'.queue ≠ k.queue →
      k.queue.fill + 1 ≤ 2047 ∧ ∃ x resync, k'.queue = ⟨k.queue.items ++ [.hbOpen x resync], false⟩) ∧
    (k.queue.dropMode = true → 2047 ≤ k.queue.fill → k'.queue = k.queue) := by
  obtain ⟨q, ho, h⟩ := h
  obtain ⟨more, hmore⟩ := ho.grows
  obtain h | ⟨x, resync, h⟩ := h
  · have hsame (hd : k.queue.dropMode = true) : k'.queue = k.queue := h.trans (ho.of_dropMode hd)
    exact ⟨⟨more, by rw [h, hmore]⟩, fun hd hne => absurd (hsame hd) hne, fun hd _ => hsame hd⟩
  · refine ⟨?_, fun hd hne => ?_, fun hd hfull => ?_⟩
    · obtain ⟨last, hlast⟩ := Queue.offered_grows (.hbOpen x resync) q
      exact ⟨more ++ last, by rw [h, hlast, hmore, List.append_assoc]⟩
    · rw [ho.of_dropMode hd] at h
      obtain ⟨hfits, hq⟩ | ⟨-, hq⟩ := Queue.offered_open_of_dropMode hd x resync
      · exact ⟨hfits, x, resync, h.trans hq⟩
      · exact absurd (h.trans hq) hne
    · rw [ho.of_dropMode hd] at h
      obtain ⟨hfits, -⟩ | ⟨-, hq⟩ := Queue.offered_open_of_dropMode hd x resync
      · omega
      · exact h.trans hq

/-- A link is blocked exactly when its head item is an HB_OPEN beyond the ring (R14). -/
theorem State.headBlocked_iff (s : State) (l : LinkId) : s.headBlocked l = true ↔
    ∃ x resync rest, (s.link l).queue.items = .hbOpen x resync :: rest ∧ s.place x = .beyond := by
  unfold State.headBlocked
  cases hq : (s.link l).queue.items with
  | nil => simp
  | cons it rest => cases it <;> simp [State.blocked]

/-- Nothing is taken from a blocked link (R14). -/
theorem State.takeable_of_headBlocked {s : State} {l : LinkId} (h : s.headBlocked l = true) : s.takeable l = false := by
  simp [State.takeable, h]

theorem Queue.fill_nil (drops : Bool) : Queue.fill ⟨[], drops⟩ = 0 := rfl

theorem Queue.fill_cons (it : Item) (rest : List Item) (drops : Bool) :
    Queue.fill ⟨it :: rest, drops⟩ = it.size + Queue.fill ⟨rest, drops⟩ := by
  simp [Queue.fill]

theorem Queue.fits_iff (q : Queue) (it : Item) : q.fits it = true ↔ q.fill + it.size ≤ 2047 := by
  simp [Queue.fits, Config.queueLimit]

/-- What an offer to a queue does, case by case (R72, R73). -/
theorem Link.offer_spec (k : Link) (it : Item) :
    (k.queue.dropMode = false → k.queue.fill + it.size ≤ 2047 → k.offer it = k.enqueue it) ∧
    (k.queue.dropMode = false → 2047 < k.queue.fill + it.size →
      k.offer it = { k.countDrops 1 with queue := ⟨k.queue.items ++ [.loss], true⟩ }) ∧
    (k.queue.dropMode = true → it.isHbOpen = true → k.queue.fill + it.size ≤ 2047 → k.offer it = k.enqueue it) ∧
    (k.queue.dropMode = true → it.isHbOpen = false ∨ 2047 < k.queue.fill + it.size →
      k.offer it = k.countDrops 1) := by
  refine ⟨fun hd hf => ?_, fun hd hf => ?_, fun hd ho hf => ?_, fun hd h => ?_⟩
  · simp [Link.offer, hd, (Queue.fits_iff _ _).2 hf]
  · simp [Link.offer, hd, Bool.eq_false_iff.2 fun h => hf.not_ge ((Queue.fits_iff _ _).1 h)]
  · simp [Link.offer, hd, ho, (Queue.fits_iff _ _).2 hf]
  · obtain ho | hf := h
    · simp [Link.offer, hd, ho]
    · simp [Link.offer, hd, Bool.eq_false_iff.2 fun h => hf.not_ge ((Queue.fits_iff _ _).1 h)]

theorem Item.size_of_isHbOpen {it : Item} (h : it.isHbOpen = true) : it.size = 1 := by
  cases it <;> simp_all [Item.isHbOpen, Item.size]

theorem Item.isBurst_of_isHbOpen {it : Item} (h : it.isHbOpen = true) : it.isBurst = false := by
  cases it <;> simp_all [Item.isHbOpen, Item.isBurst]

/-- Settles O22: the sizes, the branches of an offer, and the moves of a link whose head item is blocked. -/
theorem queueAdmission : Obligations.QueueAdmission := by
  refine ⟨fun b c x resync reason => ⟨?size, rfl, rfl, rfl, rfl⟩,
    fun it rest drops => ⟨Queue.fill_nil drops, Queue.fill_cons it rest drops⟩, State.headBlocked_iff,
    fun s t l c hblocked hexec => ?blocked,
    fun k it => ⟨fun hd hf => ?admitted, fun hd hf => ?overflow, fun hd ho hf => ?ends, fun hd h => ?dropped,
      k.offer_frame it |>.1, k.offer_frame it |>.2⟩⟩
  case size => simp only [Item.size]; omega
  case blocked =>
    have hmove := (exec_move hexec).linkMove l
    rw [State.takeable_of_headBlocked hblocked] at hmove
    obtain h | h | h | ⟨h, -⟩ := hmove.queue
    · exact .inr (.inr h.queue)
    · exact .inl h
    · exact .inr (.inl h)
    · cases h
  case admitted =>
    rw [(k.offer_spec it).1 hd hf]
    exact ⟨rfl, Queue.fill_snoc .., rfl⟩
  case overflow =>
    rw [(k.offer_spec it).2.1 hd hf]
    exact ⟨rfl, Queue.fill_snoc .., rfl⟩
  case ends =>
    rw [(k.offer_spec it).2.2.1 hd ho (by rw [Item.size_of_isHbOpen ho]; exact hf)]
    exact ⟨rfl, by simp [Link.enqueue, Item.isBurst_of_isHbOpen ho]⟩
  case dropped =>
    have hdrop : it.isHbOpen = false ∨ 2047 < k.queue.fill + it.size :=
      h.imp_right fun hf => by have := it.size_pos; omega
    rw [(k.offer_spec it).2.2.2 hd hdrop]
    exact ⟨rfl, rfl⟩

end Sys2Proof.Machine
end

section
/-! The receiver of a pad link keeps its fields in agreement with its state, through every word, frame and request: O5. -/

namespace Sys2Proof.Machine

open Sys2Proof Sys2Proof.Safety

/-! ### What agrees with the state of a receiver -/

theorem Receiver.aligned_iff (r : Receiver) :
    r.aligned = true ↔ r.state = .training ∨ r.state = .ready ∨ r.state = .run ∨ r.state = .resync := by
  unfold Receiver.aligned
  split <;> simp [*]

end Sys2Proof.Machine

namespace Sys2Proof.Safety.ReceiverLegal

open Sys2Proof Sys2Proof.Machine

variable {r : Receiver}

theorem frame_eq_none (h : ReceiverLegal r) (hr : r.state ≠ .ready) (hrun : r.state ≠ .run) (hre : r.state ≠ .resync) :
    r.frame = none := by
  by_contra hf
  have := h.framed (Option.isSome_iff_ne_none.2 hf)
  tauto

/-- Between frames the other fields stay legal. -/
theorem clearFrame (h : ReceiverLegal r) : ReceiverLegal { r with frame := none } :=
  { h with
    framed := fun hf => by cases hf
    opening := fun _ f hf => by cases hf
    begun := fun _ f hf => by cases hf
    skips := fun hs => ⟨(h.skips hs).1, rfl⟩ }

theorem clearSkipping (h : ReceiverLegal r) : ReceiverLegal { r with skipping := false } :=
  { h with skips := fun hs => by cases hs }

/-- A framing error in RUN leaves no frame and a receiver that skips (R66). -/
theorem skip (h : ReceiverLegal r) (hrun : r.state = .run) : ReceiverLegal { r with frame := none, skipping := true } :=
  { h.clearFrame with skips := fun _ => ⟨hrun, rfl⟩ }

theorem age (h : ReceiverLegal r) (n : Nat) :
    ReceiverLegal { r with errorWindow := ageWindow n r.errorWindow, signalTimer := 0 } :=
  { h with
    window := (ageWindow_length_le n r.errorWindow).trans h.window
    noLoss := fun ha => (ageWindow_length_le n r.errorWindow).trans_lt (h.noLoss ha)
    ages := fun _ => lt_of_mem_ageWindow }

theorem setTraining (h : ReceiverLegal r) {n : Nat} (hn : n < 64) : ReceiverLegal { r with trainingCount := n } :=
  { h with training := hn.le, counting := fun _ => hn }

/-- Down, a receiver has no alignment, no heartbeat state and no frame, and so nothing that could disagree (R62 to R64). -/
theorem down {st : RxState} (hst : st = .disabled ∨ st = .search ∨ st = .held) {ws : List Nat} {n : Nat}
    (hwindow : ws.length ≤ 4) (hages : ∀ a ∈ ws, a < 256) :
    ReceiverLegal
      { state := st, alignment := none, trainingCount := 0, errorWindow := ws, signalTimer := n, lastHeartbeat := none
        heartbeatOpen := false, burstsSinceOpen := 0, skipping := false, frame := none } := by
  constructor
  case window => exact hwindow
  case ages => exact hages
  all_goals rcases hst with rfl | rfl | rfl <;> simp [Receiver.aligned]

end Sys2Proof.Safety.ReceiverLegal

namespace Sys2Proof.Machine

open Sys2Proof Sys2Proof.Safety

namespace Link

variable {k : Link}

/-! ### Words (R59 to R62, R66) -/

theorem legal_age (h : ReceiverLegal k.rx) (n : Nat) : ReceiverLegal (k.age n).rx := by
  obtain ⟨-, e⟩ | ⟨-, e⟩ := k.age_cases n <;> rw [e]
  · exact h.age n
  · exact h

theorem legal_trainReset (h : ReceiverLegal k.rx) : ReceiverLegal k.trainReset.rx := h.setTraining (by simp)

theorem legal_trainUp (h : ReceiverLegal k.rx) (ht : k.rx.state = .training) : ReceiverLegal k.trainUp.rx := by
  have hcount := h.counting ht
  have ha : k.rx.aligned = true := by simp [Receiver.aligned, ht]
  have hal : k.rx.alignment.isSome = true := h.alignment ▸ ha
  have hskip : k.rx.skipping = false := Bool.eq_false_iff.2 fun hs => by
    have := (h.skips hs).1
    simp [ht] at this
  unfold Link.trainUp
  dsimp only
  split
  · exact
      { h with
        training := by dsimp only [Link.changeState]; omega
        counting := fun hs => by cases hs
        noLoss := fun _ => h.noLoss ha
        alignment := by simp [Link.changeState, Receiver.aligned, hal]
        running := fun hs => by cases hs
        opened := fun ho => by have := h.opened ho; simp [ht] at this
        framed := fun _ => .inl rfl
        opening := fun _ => h.opening (by simp [ht])
        begun := fun hs => by cases hs
        skips := fun hs => by simp [Link.changeState, hskip] at hs }
  · next hlt => exact h.setTraining (by simpa using hlt)

theorem legal_dataWords (h : ReceiverLegal k.rx) (n : Nat) : ReceiverLegal (k.dataWords n).rx := by
  unfold Link.dataWords
  split
  · exact legal_trainReset (legal_age h n)
  · exact legal_age h n

@[simp] theorem dataWords_frame (n : Nat) (k : Link) :
    (k.dataWords n).rx.frame = k.rx.frame ∧ (k.dataWords n).rx.state = k.rx.state := by
  unfold Link.dataWords
  split <;> simp [Link.trainReset]

/-- A cut leaves a receiver in RUN between frames (R66, R71). -/
theorem legal_cutFrame (h : ReceiverLegal k.rx) (hrun : k.rx.state = .run) :
    ReceiverLegal k.cutFrame.rx ∧ k.cutFrame.rx.state = .run ∧ k.cutFrame.rx.frame = none := by
  unfold Link.cutFrame
  split
  · next hf => exact ⟨h, hrun, hf⟩
  · split
    · rw [(Link.offer_frame _ _).1]
      exact ⟨h.clearFrame, hrun, rfl⟩
    · exact ⟨h.skip hrun, hrun, rfl⟩

/-- A control word in RUN between frames begins its own frame or none (R66, R69, R70). -/
theorem legal_beginFrame (h : ReceiverLegal k.rx) (hrun : k.rx.state = .run) (hf : k.rx.frame = none) (c : Word16) :
    ReceiverLegal (k.beginFrame c).rx ∧
    ((k.beginFrame c).rx.frame = none ∨ (k.beginFrame c).rx.frame = some ⟨c, []⟩) := by
  have begins {n : Nat} (hn : n ≤ 65535) (hk : controlKind c = .hbOpen ∨ k.rx.heartbeatOpen = true ∧
      (controlKind c = .hbClose ∨ ∃ ch, controlKind c = .burst ch)) :
      ReceiverLegal { k.rx with skipping := false, frame := some ⟨c, []⟩, burstsSinceOpen := n } :=
    { h with
      bursts := hn
      framed := fun _ => .inr (.inl hrun)
      opening := fun hne => absurd hrun hne
      begun := fun _ f hf => by cases hf; exact hk
      skips := fun hs => by cases hs }
  have error : ReceiverLegal { k.rx with frame := none, skipping := true } := h.skip hrun
  unfold Link.beginFrame
  dsimp only
  split
  · exact ⟨h.clearSkipping, .inl hf⟩
  · next hk => exact ⟨begins h.bursts (.inl hk), .inr rfl⟩
  · next hk =>
    split
    · next ho => exact ⟨begins h.bursts (.inr ⟨ho, .inl hk⟩), .inr rfl⟩
    · exact ⟨error, .inl rfl⟩
  · next ch hk =>
    split
    · next ho => exact ⟨begins (by simp [satAdd]) (.inr ⟨ho, .inr ⟨ch, hk⟩⟩), .inr rfl⟩
    · exact ⟨error, .inl rfl⟩
  · exact ⟨error, .inl rfl⟩

/-- A control word begins its own frame or leaves none (R61, R66, R68). -/
theorem legal_control (h : ReceiverLegal k.rx) (c : Word16) :
    ReceiverLegal (k.control c).rx ∧
    ((k.control c).rx.frame = none ∨ (k.control c).rx.frame = some ⟨c, []⟩) := by
  have quiet (hr : k.rx.state ≠ .ready) (hrun : k.rx.state ≠ .run) (hre : k.rx.state ≠ .resync) :
      k.rx.frame = none := ReceiverLegal.frame_eq_none h hr hrun hre
  have outside (hs : k.rx.state = .ready ∨ k.rx.state = .resync) :
      ReceiverLegal (k.control c).rx ∧
      ((k.control c).rx.frame = none ∨ (k.control c).rx.frame = some ⟨c, []⟩) := by
    rw [Link.control_outside_run hs]
    dsimp only
    have hne : k.rx.state ≠ .run := by rcases hs with hs | hs <;> simp [hs]
    split
    · next hk =>
      refine ⟨?_, .inr rfl⟩
      exact
        { h.age 1 with
          framed := fun _ => hs.imp_right .inr
          opening := fun _ f hf => by cases hf; exact hk
          begun := fun hrun => absurd hrun hne
          skips := fun hsk => absurd (h.skips hsk).1 hne }
    · exact ⟨(h.age 1).clearFrame, .inl rfl⟩
  cases hs : k.rx.state with
  | disabled | search | held =>
    simp only [Link.control, hs]
    exact ⟨h, .inl (quiet (by simp [hs]) (by simp [hs]) (by simp [hs]))⟩
  | training =>
    have hage := legal_age h 1
    have hf : k.rx.frame = none := quiet (by simp [hs]) (by simp [hs]) (by simp [hs])
    simp only [Link.control, hs]
    split
    · refine ⟨legal_trainUp hage (by simpa using hs), .inl ?_⟩
      unfold Link.trainUp
      dsimp only
      split <;> simpa [Link.changeState] using hf
    · exact ⟨legal_trainReset hage, .inl (by simpa [Link.trainReset] using hf)⟩
  | ready => exact outside (.inl hs)
  | resync => exact outside (.inr hs)
  | run =>
    simp only [Link.control, hs]
    obtain ⟨hcut, hrun, hf⟩ := legal_cutFrame (legal_age h 1) (by simpa using hs)
    exact legal_beginFrame hcut hrun hf c

theorem legal_startFrame (h : ReceiverLegal k.rx) (c : Word16) :
    ReceiverLegal (k.startFrame c).rx ∧
    ((k.startFrame c).rx.frame = none ∨ (k.startFrame c).rx.frame = some ⟨c, []⟩) := by
  by_cases hb : k.rx.frame = some ⟨c, []⟩
  · rw [Link.startFrame_of_begun hb]
    exact ⟨h, .inr hb⟩
  · rw [Link.startFrame_of_ne hb]
    exact legal_control h c

/-! ### Frames (R61, R66 to R71) -/

/-- Data words leave a frame in progress in its state. -/
theorem legal_setWords (h : ReceiverLegal k.rx) {f g : FrameInProgress} (hf : k.rx.frame = some g)
    (hc : g.control = f.control) : ReceiverLegal { k.rx with frame := some f } :=
  { h with
    framed := fun _ => h.framed (by simp [hf])
    opening := fun hne f' hf' => by cases hf'; exact hc ▸ h.opening hne g hf
    begun := fun hrun f' hf' => by cases hf'; exact hc ▸ h.begun hrun g hf
    skips := fun hs => by have := (h.skips hs).2; simp [hf] at this }

/-- Outside RUN a burst is never in progress, so its range is never looked at. -/
theorem run_of_burst (h : ReceiverLegal k.rx) {g : FrameInProgress} (hf : k.rx.frame = some g) {ch : BitVec 8}
    (hk : controlKind g.control = .burst ch) : k.rx.state = .run := by
  by_contra hne
  have := h.opening hne g hf
  simp [hk] at this

/-- The words of a frame leave it in progress, or no frame (R61, R66, R68 to R71). -/
theorem legal_receive (h : ReceiverLegal k.rx) (f : FrameInProgress) :
    ReceiverLegal (k.receive f).rx ∧ ((k.receive f).rx.frame = none ∨ (k.receive f).rx.frame = some f) := by
  obtain ⟨hstart, hframe⟩ := legal_startFrame h f.control
  have hdata := legal_dataWords hstart f.words.length
  rw [← (dataWords_frame f.words.length (k.startFrame f.control)).1] at hframe
  unfold Link.receive
  dsimp only
  generalize (k.startFrame f.control).dataWords f.words.length = k' at hdata hframe
  have hset {g : FrameInProgress} (hg : k'.rx.frame = some g) : ReceiverLegal { k'.rx with frame := some f } := by
    refine legal_setWords hdata hg ?_
    rcases hframe with hn | hs
    · rw [hn] at hg; cases hg
    · rw [hs] at hg; cases hg; rfl
  split
  · next hn => exact ⟨hdata, .inl hn⟩
  · next g ch hg hk =>
    split
    · exact ⟨hset hg, .inr rfl⟩
    · refine ⟨hdata.skip (run_of_burst hdata hg (ch := ch) ?_), .inl rfl⟩
      rcases hframe with hn | hs
      · rw [hn] at hg; cases hg
      · rw [hs] at hg; cases hg; exact hk
  · next g hg _ => exact ⟨hset hg, .inr rfl⟩

theorem legal_strayData (h : ReceiverLegal k.rx) : ReceiverLegal k.strayData.rx := by
  unfold Link.strayData
  split
  · exact h
  · next hrun =>
    split
    · exact legal_age h 1
    · exact (legal_age h 1).skip (by simpa using hrun)
  · exact legal_dataWords h 1

theorem legal_framingEvent (h : ReceiverLegal k.rx) (e : FramingEvent) : ReceiverLegal (k.framingEvent e).rx := by
  cases e with
  | strayData w => exact legal_strayData h
  | strayControl c => exact (legal_control h c).1
  | cut f c => exact (legal_control (legal_receive h f).1 c).1
  | badBurst f => exact (legal_receive h f).1

/-- An HB_OPEN that is passed on leaves the receiver in RUN with its heartbeat open (R61, R67, R68). -/
theorem legal_open (h : ReceiverLegal k.rx)
    (hs : k.rx.state = .ready ∨ k.rx.state = .run ∨ k.rx.state = .resync) (x : Heartbeat) :
    ReceiverLegal
      { k.rx with
        state := .run, frame := none, lastHeartbeat := some x, heartbeatOpen := true, burstsSinceOpen := 0 } := by
  have ha : k.rx.aligned = true := (Receiver.aligned_iff _).2 (by tauto)
  exact
    { h with
      counting := fun hst => by cases hst
      bursts := by simp
      noLoss := fun _ => h.noLoss ha
      alignment := by rw [← h.alignment, ha]; rfl
      running := fun _ => rfl
      opened := fun _ => rfl
      framed := fun hf => by cases hf
      opening := fun _ _ hf => by cases hf
      begun := fun _ _ hf => by cases hf
      skips := fun _ => ⟨rfl, rfl⟩ }

/-- A disorder in RUN leaves the receiver in RESYNC with no heartbeat open (R67). -/
theorem legal_disorder (h : ReceiverLegal k.rx) (hs : k.rx.state = .run) (ho : k.rx.heartbeatOpen = false)
    (hf : k.rx.frame = none) (hskip : k.rx.skipping = false) : ReceiverLegal { k.rx with state := .resync } := by
  have ha : k.rx.aligned = true := (Receiver.aligned_iff _).2 (by tauto)
  exact
    { h with
      counting := fun hst => by cases hst
      noLoss := fun _ => h.noLoss ha
      alignment := by rw [← h.alignment, ha]; rfl
      running := fun hst => by cases hst
      opened := fun hst => by simp [ho] at hst
      framed := fun hst => by simp [hf] at hst
      opening := fun _ _ hst => by simp [hf] at hst
      begun := fun hst => by cases hst
      skips := fun hst => by simp [hskip] at hst }

theorem legal_shut (h : ReceiverLegal k.rx) : ReceiverLegal { k.rx with frame := none, heartbeatOpen := false } :=
  { h.clearFrame with
    opened := fun ho => by cases ho
    begun := fun _ _ hf => by cases hf }

theorem implicitClose_rx (k : Link) : k.implicitClose.rx = { k.rx with heartbeatOpen := false } := by
  unfold Link.implicitClose
  split
  · simp
  · next h =>
    have : k.rx.heartbeatOpen = false := by simpa using h
    rw [← this]

theorem acceptHeartbeat_rx (x : Heartbeat) (resync : Bool) (k : Link) :
    (k.acceptHeartbeat x resync).rx =
      { k.rx with lastHeartbeat := some x, heartbeatOpen := true, burstsSinceOpen := 0 } := by
  simp [Link.acceptHeartbeat]

/-- What the sequence check leaves of the receiver: an open heartbeat, or RESYNC (R67). -/
theorem sequence_rx (x : Heartbeat) (k : Link) :
    (k.sequence x).rx = { k.rx with lastHeartbeat := some x, heartbeatOpen := true, burstsSinceOpen := 0 } ∨
    (k.sequence x).rx = { k.rx with state := .resync } := by
  unfold Link.sequence
  split
  · exact .inl (acceptHeartbeat_rx ..)
  · dsimp only
    split
    · exact .inl (acceptHeartbeat_rx ..)
    · split
      · exact .inl (acceptHeartbeat_rx ..)
      · exact .inr rfl

theorem legal_completeOpen (h : ReceiverLegal k.rx) (hf : k.rx.frame.isSome = true) (x : Heartbeat) :
    ReceiverLegal (k.completeOpen x).rx := by
  have hskip : k.rx.skipping = false := Bool.eq_false_iff.2 fun hs => by
    have := (h.skips hs).2
    simp [this] at hf
  unfold Link.completeOpen
  dsimp only
  split
  · next hs =>
    simp only [Link.changeState, acceptHeartbeat_rx]
    exact legal_open h (.inl hs) x
  · next hs =>
    simp only [Link.changeState, acceptHeartbeat_rx]
    exact legal_open h (.inr (.inr hs)) x
  · next hs =>
    rcases sequence_rx x ({ k with rx := { k.rx with frame := none } } : Link).implicitClose with e | e <;> rw [e] <;>
      simp only [implicitClose_rx]
    · exact hs ▸ legal_open h (.inr (.inl hs)) x
    · exact legal_disorder (k := { k with rx := { k.rx with frame := none, heartbeatOpen := false } })
        (legal_shut h) hs rfl rfl hskip
  all_goals exact h.clearFrame

theorem legal_openFrame (h : ReceiverLegal k.rx) (low : BitVec 8) (x : Heartbeat) :
    ReceiverLegal (k.openFrame low x).rx := by
  have h' := legal_dataWords (legal_receive h ⟨hbOpenControl low, []⟩).1 1
  unfold Link.openFrame
  dsimp only
  split
  · next hf => exact legal_completeOpen h' hf x
  · exact h'

theorem legal_closeFrame (h : ReceiverLegal k.rx) (low : BitVec 8) (x : Heartbeat) (declared status : Word16) :
    ReceiverLegal (k.closeFrame low x declared status).rx := by
  have h' := legal_dataWords (legal_receive h ⟨hbCloseControl low, [x, declared]⟩).1 1
  unfold Link.closeFrame
  dsimp only
  split
  · simp only [Link.completeClose, Link.offer_frame]
    exact legal_shut h'
  · exact h'

theorem legal_burstFrame (h : ReceiverLegal k.rx) (channel : BitVec 8) (start : Word16) (samples : List Word16)
    (check : Word16) : ReceiverLegal (k.burstFrame channel start samples check).rx := by
  have h' := legal_dataWords
    (legal_receive h ⟨burstControl channel, start :: BitVec.ofNat 16 samples.length :: samples⟩).1 1
  unfold Link.burstFrame
  dsimp only
  split
  · simp only [Link.completeBurst]
    split
    · simp only [Link.mapCounters, Link.offer_frame]
      exact h'.clearFrame
    · simp only [Link.offer_frame]
      exact h'.clearFrame
  · exact h'

/-! ### Code errors, loss of signal, and going down (R62 to R64) -/

theorem legal_goDown (h : ReceiverLegal k.rx) {st : RxState} (hst : st = .disabled ∨ st = .search ∨ st = .held) :
    ReceiverLegal (k.goDown st).rx := .down hst h.window h.ages

@[simp] theorem loseAlignment_rx (k : Link) : k.loseAlignment.rx = (k.goDown .search).rx := rfl

theorem markWindow_length_le (w : List Nat) : (markWindow w).length ≤ w.length + 1 :=
  Nat.succ_le_succ (ageWindow_length_le 1 w)

theorem lt_of_mem_markWindow {w : List Nat} {a : Nat} (h : a ∈ markWindow w) : a < 256 := by
  rcases List.mem_cons.1 h with rfl | h
  · exact Nat.zero_lt_succ _
  · exact lt_of_mem_ageWindow h

/-- What a code error inside a frame leaves of the receiver: no frame, and in RUN the skipping (R66). -/
theorem breakFrame_rx (k : Link) :
    k.breakFrame.rx = { k.rx with
      frame := none
      skipping := k.rx.skipping || decide (k.rx.state = .run ∧ k.rx.frame ≠ none) } := by
  unfold Link.breakFrame
  split
  · next hf => simp [← hf]
  · next hf hs => simp [hs, hf]
  · next hf hs => simp [show k.rx.state ≠ .run from hs]

theorem legal_codeError (h : ReceiverLegal k.rx) : ReceiverLegal k.codeError.rx := by
  have lossOrMark (hs : k.rx.state = .ready ∨ k.rx.state = .run ∨ k.rx.state = .resync) :
      ReceiverLegal (if Config.windowErrors ≤ k.countCodeError.markError.breakFrame.rx.errorWindow.length then
        k.countCodeError.markError.breakFrame.loseAlignment else k.countCodeError.markError.breakFrame).rx := by
    have ha : k.rx.aligned = true := (Receiver.aligned_iff _).2 (by tauto)
    have hrx := breakFrame_rx k.countCodeError.markError
    have hwin : k.countCodeError.markError.breakFrame.rx.errorWindow = markWindow k.rx.errorWindow := by rw [hrx]; rfl
    have hlen : (markWindow k.rx.errorWindow).length ≤ 4 := (markWindow_length_le _).trans (h.noLoss ha)
    split
    · rw [loseAlignment_rx]
      refine .down (.inr (.inl rfl)) ?_ ?_ <;> rw [hwin]
      · exact hlen
      · exact fun _ => lt_of_mem_markWindow
    · next hlt =>
      rw [hwin, Config.windowErrors, not_le] at hlt
      rw [hrx]
      have hclear := h.clearFrame
      exact
        { hclear with
          window := hlen
          noLoss := fun _ => hlt
          ages := fun _ => lt_of_mem_markWindow
          begun := fun _ _ hf => by cases hf
          skips := fun hs => ⟨by
            rcases Bool.or_eq_true_iff.1 hs with hs | hs
            · exact (h.skips hs).1
            · exact (of_decide_eq_true hs).1, rfl⟩ }
  cases hs : k.rx.state with
  | disabled | search | held => simpa only [Link.codeError, hs] using h
  | training =>
    have hf : k.rx.frame = none := ReceiverLegal.frame_eq_none h (by simp [hs]) (by simp [hs]) (by simp [hs])
    have hrun : k.rx.state ≠ .run := by simp [hs]
    simp only [Link.codeError, hs]
    exact
      { h with
        training := by simp
        counting := fun hst => by cases hst
        noLoss := fun hst => by cases hst
        alignment := rfl
        running := fun hst => by cases hst
        opened := fun ho => absurd (h.opened ho) hrun
        framed := fun hst => by simp [hf] at hst
        opening := fun _ _ hst => by simp [hf] at hst
        begun := fun hst => by cases hst
        skips := fun hst => absurd (h.skips hst).1 hrun }
  | ready => simpa only [Link.codeError, hs] using lossOrMark (.inl hs)
  | run => simpa only [Link.codeError, hs] using lossOrMark (.inr (.inl hs))
  | resync => simpa only [Link.codeError, hs] using lossOrMark (.inr (.inr hs))

theorem legal_loseSignal (h : ReceiverLegal k.rx) : ReceiverLegal k.loseSignal.rx := by
  unfold Link.loseSignal
  split
  · exact .down (.inr (.inl rfl)) h.window h.ages
  · exact h

theorem legal_findAlignment (h : ReceiverLegal k.rx) (pos : Nat) : ReceiverLegal (k.findAlignment pos).rx := by
  unfold Link.findAlignment
  split
  · next hs =>
    have hf : k.rx.frame = none := ReceiverLegal.frame_eq_none h (by simp [hs]) (by simp [hs]) (by simp [hs])
    have hrun : k.rx.state ≠ .run := by simp [hs]
    exact
      { h with
        training := by simp
        counting := fun _ => by simp
        window := by simp
        noLoss := fun _ => by simp
        ages := fun _ ha => by cases ha
        alignment := rfl
        running := fun hst => by cases hst
        opened := fun ho => absurd (h.opened ho) hrun
        framed := fun hst => by simp [hf] at hst
        opening := fun _ _ hst => by simp [hf] at hst
        begun := fun hst => by cases hst
        skips := fun hst => absurd (h.skips hst).1 hrun }
  · exact h

theorem legal_event {k' : Link} (h : ReceiverLegal k.rx) (he : LinkEvent k k') : ReceiverLegal k'.rx := by
  cases he with
  | alignmentFound pos => exact legal_findAlignment h pos
  | trainingReset w =>
    unfold Link.resetTraining
    split
    · exact legal_trainReset (legal_age h 1)
    · exact h
  | codeError => exact legal_codeError h
  | codeErrorInFrame f => exact legal_codeError (legal_receive h f).1
  | signalLoss => exact legal_loseSignal h
  | openFrame low x => exact legal_openFrame h low x
  | closeFrame low x d st => exact legal_closeFrame h low x d st
  | burstFrame ch b ws c => exact legal_burstFrame h ch b ws c
  | framing e => exact legal_framingEvent h e

/-- A receiver that is enabled or released changes between states without word alignment (R63, R64). -/
theorem legal_changeDown (h : ReceiverLegal k.rx) (hk : k.rx.state = .disabled ∨ k.rx.state = .held) {st : RxState}
    (hst : st = .disabled ∨ st = .search) : ReceiverLegal (k.changeState st).rx := by
  have hrun : k.rx.state ≠ .run := by rcases hk with hk | hk <;> simp [hk]
  have hf : k.rx.frame = none := ReceiverLegal.frame_eq_none h
    (by rcases hk with hk | hk <;> simp [hk]) hrun (by rcases hk with hk | hk <;> simp [hk])
  have hal : k.rx.aligned = false := by rcases hk with hk | hk <;> simp [Receiver.aligned, hk]
  have hnew : ({ k.rx with state := st } : Receiver).aligned = false := by
    rcases hst with rfl | rfl <;> rfl
  exact
    { h with
      counting := fun hs => by rcases hst with rfl | rfl <;> cases hs
      noLoss := fun ha => by rw [Link.changeState, hnew] at ha; cases ha
      alignment := by rw [Link.changeState, hnew, ← hal]; exact h.alignment
      running := fun hs => by rcases hst with rfl | rfl <;> cases hs
      opened := fun ho => absurd (h.opened ho) hrun
      framed := fun hs => by simp [Link.changeState, hf] at hs
      opening := fun _ _ hs => by simp [Link.changeState, hf] at hs
      begun := fun hs => by rcases hst with rfl | rfl <;> cases hs
      skips := fun hs => absurd (h.skips hs).1 hrun }

theorem legal_enableChange (h : ReceiverLegal k.rx) (before after : Bool) :
    ReceiverLegal (k.enableChange before after).rx := by
  unfold Link.enableChange
  split
  · split
    · exact h
    · exact h
    all_goals exact legal_goDown h (.inl rfl)
  · split
    · next hd => exact legal_changeDown h (.inl hd) (.inr rfl)
    · exact h
  · exact h
  · exact h

theorem legal_release (h : ReceiverLegal k.rx) (enabled : Bool) : ReceiverLegal (k.release enabled).rx := by
  unfold Link.release
  split
  · next hh => exact legal_changeDown h (.inr hh) (by cases enabled <;> simp)
  · exact h

theorem legal_runRestarted (h : ReceiverLegal k.rx) : ReceiverLegal k.runRestarted.rx := by
  have hquiet (hrun : k.rx.state ≠ .run) : ReceiverLegal k.rx.restarted :=
    { h with
      bursts := by simp [Receiver.restarted]
      running := fun hs => absurd hs hrun
      opened := fun ho => by cases ho
      framed := fun hs => by cases hs
      opening := fun _ _ hs => by cases hs
      begun := fun _ _ hs => by cases hs
      skips := fun hs => by cases hs }
  have hready (ha : k.rx.aligned = true) : ReceiverLegal { k.rx.restarted with state := .ready } :=
    { h with
      counting := fun hs => by cases hs
      noLoss := fun _ => h.noLoss ha
      alignment := ha.symm.trans h.alignment
      bursts := by simp [Receiver.restarted]
      running := fun hs => by cases hs
      opened := fun ho => by cases ho
      framed := fun hs => by cases hs
      opening := fun _ _ hs => by cases hs
      begun := fun hs => by cases hs
      skips := fun hs => by cases hs }
  unfold Link.runRestarted
  dsimp only
  split
  · next hs => exact hready ((Receiver.aligned_iff _).2 (by tauto))
  · next hs => exact hready ((Receiver.aligned_iff _).2 (by tauto))
  all_goals next hs => exact hquiet (by simp [hs])

end Link

/-- Settles O5: every word, frame, request and restart keeps the receiver of its link legal. -/
theorem receiversStayLegal : Obligations.ReceiversStayLegal := by
  refine keptByStep_of_linkMove (Q := fun k => ReceiverLegal k.rx) fun b k k' hmove h => ?_
  cases hmove with
  | quiet hr _ => exact hr ▸ h
  | event he => exact Link.legal_event h he
  | taken _ _ _ _ hr _ => exact hr ▸ h
  | enabled before after => exact Link.legal_enableChange h before after
  | held =>
    unfold Link.hold
    split
    · exact h
    · exact Link.legal_goDown h (.inr (.inr rfl))
  | released enabled => exact Link.legal_release h enabled
  | runRestarted => exact Link.legal_runRestarted h
  | softReset enabled => exact .down (by cases enabled <;> simp) (Nat.zero_le _) (fun _ ha => by cases ha)

end Sys2Proof.Machine
end

section
/-! Words at a receiver outside RUN, training, and alignment loss (R59 to R62, R68, R74): O15, O16 and O17. -/

namespace Sys2Proof.Machine

open Sys2Proof Sys2Proof.Safety

/-! ### The control words of the three kinds of frame (section 11.1) -/

/-- The high byte of a control word that is written as a kind and a low byte. -/
theorem field_of_kind_and_low (kind : Nat) (low : BitVec 8) (hk : kind < 256) :
    field (BitVec.ofNat 16 (kind * 256 + low.toNat)) 8 8 = kind := by
  have := low.isLt
  simp only [field, BitVec.toNat_ofNat]
  omega

theorem ne_train_of_kind {c : Word16} {kind : Nat} (h : field c 8 8 = kind) (hk : kind ≠ 0xC5) :
    c ≠ Config.trainControl := by
  rintro rfl
  exact hk (h.symm.trans (by decide))

@[simp] theorem controlKind_hbOpenControl (low : BitVec 8) : controlKind (hbOpenControl low) = .hbOpen := by
  have h : field (hbOpenControl low) 8 8 = 0xA1 := field_of_kind_and_low 0xA1 low (by decide)
  simp [controlKind, h, ne_train_of_kind h (by decide)]

@[simp] theorem controlKind_hbCloseControl (low : BitVec 8) : controlKind (hbCloseControl low) = .hbClose := by
  have h : field (hbCloseControl low) 8 8 = 0xA2 := field_of_kind_and_low 0xA2 low (by decide)
  simp [controlKind, h, ne_train_of_kind h (by decide)]

theorem ofNat_burstControl (channel : BitVec 8) : BitVec.ofNat 8 (burstControl channel).toNat = channel := by
  have := channel.isLt
  apply BitVec.eq_of_toNat_eq
  simp only [burstControl, BitVec.toNat_ofNat]
  omega

@[simp] theorem controlKind_burstControl (channel : BitVec 8) : controlKind (burstControl channel) = .burst channel := by
  have h : field (burstControl channel) 8 8 = 0xA4 := field_of_kind_and_low 0xA4 channel (by decide)
  rw [controlKind, if_neg (ne_train_of_kind h (by decide)), h, ofNat_burstControl]
  rfl

theorem controlKind_train : controlKind Config.trainControl = .train := by decide

/-! ### Receivers without word alignment (R59, R61, R62) -/

/-- A receiver without word alignment and without a frame: DISABLED, HELD or SEARCH. -/
structure Link.Deaf (k : Link) : Prop where
  aligned : k.rx.aligned = false
  frame : k.rx.frame = none

namespace Link.Deaf

variable {k : Link}

theorem state (h : k.Deaf) : k.rx.state = .disabled ∨ k.rx.state = .search ∨ k.rx.state = .held := by
  have := h.aligned
  unfold Receiver.aligned at this
  split at this <;> simp_all

theorem age (h : k.Deaf) (n : Nat) : k.age n = k := by simp [Link.age, h.aligned]

theorem control (h : k.Deaf) (c : Word16) : k.control c = k := by
  rcases h.state with hs | hs | hs <;> simp [Link.control, hs]

theorem startFrame (h : k.Deaf) (c : Word16) : k.startFrame c = k := by
  rw [Link.startFrame_of_ne (by simp [h.frame]), h.control]

theorem dataWords (h : k.Deaf) (n : Nat) : k.dataWords n = k := by
  rcases h.state with hs | hs | hs <;> simp [Link.dataWords, hs, h.age]

theorem receive (h : k.Deaf) (f : FrameInProgress) : k.receive f = k := by
  simp [Link.receive, h.startFrame, h.dataWords, h.frame]

theorem framingEvent (h : k.Deaf) (e : FramingEvent) : k.framingEvent e = k := by
  cases e with
  | strayData w => rcases h.state with hs | hs | hs <;> simp [Link.framingEvent, Link.strayData, h.frame, hs, h.dataWords]
  | strayControl c => exact h.control c
  | cut f c => simp [Link.framingEvent, h.receive, h.control]
  | badBurst f => exact h.receive f

theorem codeError (h : k.Deaf) : k.codeError = k := by
  rcases h.state with hs | hs | hs <;> simp [Link.codeError, hs]

theorem openFrame (h : k.Deaf) (low : BitVec 8) (x : Heartbeat) : k.openFrame low x = k := by
  simp [Link.openFrame, h.receive, h.dataWords, h.frame]

theorem closeFrame (h : k.Deaf) (low : BitVec 8) (x : Heartbeat) (d st : Word16) : k.closeFrame low x d st = k := by
  simp [Link.closeFrame, h.receive, h.dataWords, h.frame]

theorem burstFrame (h : k.Deaf) (ch : BitVec 8) (b : Word16) (ws : List Word16) (c : Word16) :
    k.burstFrame ch b ws c = k := by
  simp [Link.burstFrame, h.receive, h.dataWords, h.frame]

theorem resetTraining (h : k.Deaf) (w : LaneWord) : k.resetTraining w = k := by
  rcases h.state with hs | hs | hs <;> simp [Link.resetTraining, hs]

theorem loseSignal (h : k.Deaf) : k.loseSignal = k := by simp [Link.loseSignal, h.aligned]

end Link.Deaf

/-! ### READY and RESYNC (R61, R68) -/

namespace Link

variable {k : Link}

/-- The link after `n` words that leave `frame` in progress. -/
def aged (frame : Option FrameInProgress) (n : Nat) (k : Link) : Link :=
  { k with rx := { k.rx with frame := frame, errorWindow := ageWindow n k.rx.errorWindow, signalTimer := 0 } }

theorem aged_aged (f g : Option FrameInProgress) (m n : Nat) (k : Link) :
    (k.aged f m).aged g n = k.aged g (m + n) := by
  simp [aged, ageWindow_ageWindow]

/-- A receiver in READY or RESYNC in which no frame but an HB_OPEN is in progress. -/
structure Waits (k : Link) : Prop where
  state : k.rx.state = .ready ∨ k.rx.state = .resync
  opening : ∀ g, k.rx.frame = some g → controlKind g.control = .hbOpen

theorem Waits.of_legal (h : ReceiverLegal k.rx) (hs : k.rx.state = .ready ∨ k.rx.state = .resync) : k.Waits :=
  ⟨hs, fun g => h.opening (by rcases hs with hs | hs <;> simp [hs]) g⟩

namespace Waits

theorem control (h : k.Waits) (c : Word16) :
    k.control c = k.aged (if controlKind c = .hbOpen then some ⟨c, []⟩ else none) 1 :=
  control_outside_run h.state c

theorem dataWords (h : k.Waits) (n : Nat) : k.dataWords n = k.aged k.rx.frame n := by
  rcases h.state with hs | hs <;> simp [Link.dataWords, Link.age, Receiver.aligned, hs, aged]

theorem receive (h : k.Waits) (f : FrameInProgress) :
    k.receive f = k.aged (if controlKind f.control = .hbOpen then some f else none)
      (f.words.length + if k.rx.frame = some ⟨f.control, []⟩ then 0 else 1) :=
  receive_outside_run h.state h.opening f

theorem aged (h : k.Waits) {frame : Option FrameInProgress} (n : Nat)
    (hf : ∀ g, frame = some g → controlKind g.control = .hbOpen) : (k.aged frame n).Waits := ⟨h.state, hf⟩

/-- The words of a frame of another kind than HB_OPEN leave no frame in progress. -/
theorem receive_other (h : k.Waits) {f : FrameInProgress} (hf : controlKind f.control ≠ .hbOpen) :
    k.receive f = k.aged none (f.words.length + 1) := by
  have hne : k.rx.frame ≠ some ⟨f.control, []⟩ := fun e => hf (h.opening ⟨f.control, []⟩ e)
  simp [h.receive, hf, hne]

/-- The words of a frame of another kind than HB_OPEN, and a last word after them (R61, R68). -/
theorem receive_other_then_word (h : k.Waits) {f : FrameInProgress} (hf : controlKind f.control ≠ .hbOpen) :
    (k.receive f).dataWords 1 = k.aged none (f.words.length + 2) := by
  rw [h.receive_other hf, (h.aged _ (by simp)).dataWords]
  exact Link.aged_aged ..

/-- An HB_CLOSE frame (R61, R68). -/
theorem closeFrame (h : k.Waits) (low : BitVec 8) (x : Heartbeat) (d st : Word16) :
    k.closeFrame low x d st = k.aged none 4 := by
  have hr := h.receive_other_then_word (f := ⟨hbCloseControl low, [x, d]⟩) (by simp)
  simp only [Link.closeFrame, hr]
  rfl

/-- A BURST frame (R61, R68). -/
theorem burstFrame (h : k.Waits) (ch : BitVec 8) (b : Word16) (ws : List Word16) (c : Word16) :
    k.burstFrame ch b ws c = k.aged none (ws.length + 4) := by
  have hr := h.receive_other_then_word (f := ⟨burstControl ch, b :: BitVec.ofNat 16 ws.length :: ws⟩) (by simp)
  simp only [Link.burstFrame, hr]
  rfl

/-- A frame that a control word cuts: the frame is abandoned, and only an HB_OPEN control word begins another (R61, R68). -/
theorem cut (h : k.Waits) (f : FrameInProgress) (c : Word16) :
    (k.receive f).control c =
      k.aged (if controlKind c = .hbOpen then some ⟨c, []⟩ else none)
        (f.words.length + if k.rx.frame = some ⟨f.control, []⟩ then 1 else 2) := by
  have hw : (k.receive f).Waits := by
    rw [h.receive]
    exact h.aged _ fun g hg => by
      obtain ⟨ho, hg⟩ := Option.ite_none_right_eq_some.mp hg
      exact Option.some.inj hg ▸ ho
  rw [hw.control, h.receive, Link.aged_aged]
  congr 1
  split <;> rfl

/-- A data word between frames (R61, R68). -/
theorem strayData (h : k.Waits) (hf : k.rx.frame = none) : k.strayData = k.aged none 1 := by
  rcases h.state with hs | hs <;> simp [Link.strayData, hf, hs, h.dataWords]

end Waits

end Link

/-- Settles O15: an unaligned receiver is `Link.Deaf`, one in READY or RESYNC `Link.Waits`, and each kind of word is taken
by one lemma about either. -/
theorem framesOutsideRunAreIgnored : Obligations.FramesOutsideRunAreIgnored := by
  refine ⟨fun s l ha hf => ?deaf, fun s l c n hl hs hc => ?waits, fun s l next c n hl hs hc => ?cuts⟩
  case deaf =>
    have h : (s.link l).Deaf := ⟨ha, hf⟩
    have ignored : ∀ {g : Link → Link}, g (s.link l) = s.link l →
        (.next (s.mapLink l g) : Host.Outcome State Fault Refusal) = .next s := fun hg => by rw [State.mapLink_self hg]
    refine ⟨fun pos hs => ignored (by simp [Link.findAlignment, hs]), ignored (h.control _),
      fun w => ignored (h.resetTraining w), fun f => ?_, ignored h.loseSignal, fun low x => ignored (h.openFrame low x),
      fun low x d st => ignored (h.closeFrame low x d st), fun ch b ws k => ignored (h.burstFrame ch b ws k),
      fun ch b n ws k => ignored ((congrArg _ (h.receive _)).trans (h.control k)), fun e => ignored (h.framingEvent e)⟩
    cases f with
    | none => exact ignored h.codeError
    | some f => exact ignored ((congrArg _ (h.receive f)).trans h.codeError)
  case waits =>
    have h : (s.link l).Waits := .of_legal hl hs
    have taken : ∀ {g : Link → Link}, g (s.link l) = (s.link l).aged none n →
        (.next (s.mapLink l g) : Host.Outcome State Fault Refusal) = .next (s.mapLink l (Link.aged none n)) :=
      fun hg => by rw [State.mapLink_congr hg]
    have other : ∀ {w : Word16}, controlKind w ≠ .hbOpen → (s.link l).control w = (s.link l).aged none 1 :=
      fun hw => by rw [h.control, if_neg hw]
    rcases hc with ⟨rfl, rfl⟩ | ⟨low, x, d, st, rfl, rfl⟩ | ⟨ch, b, ws, w, rfl, rfl⟩ | ⟨ch, b, m, ws, w, rfl, rfl, hw⟩ |
      ⟨w, rfl, rfl, hf⟩ | ⟨w, rfl, rfl, hw⟩ | ⟨f, rfl, rfl, hf⟩
    · exact taken (other (by decide))
    · exact taken (h.closeFrame low x d st)
    · exact taken (h.burstFrame ch b ws w)
    · have hne : (s.link l).rx.frame ≠ some ⟨burstControl ch, []⟩ := fun e => by simpa using h.opening _ e
      refine taken ((h.cut _ w).trans ?_)
      simp [hne, hw]
    · exact taken (h.strayData hf)
    · exact taken (other hw)
    · obtain ⟨ch, hch⟩ : ∃ ch, controlKind f.control = .burst ch := by
        simp only [FramingEvent.wellFormed] at hf
        split at hf
        · exact ⟨_, ‹_›⟩
        · simp at hf
      exact taken (h.receive_other (by simp [hch]))
  case cuts =>
    have h : (s.link l).Waits := .of_legal hl hs
    have taken : ∀ {g : Link → Link},
        g (s.link l) = (s.link l).aged (if controlKind next = .hbOpen then some ⟨next, []⟩ else none) n →
        (.next (s.mapLink l g) : Host.Outcome State Fault Refusal) =
          .next (s.mapLink l (Link.aged (if controlKind next = .hbOpen then some ⟨next, []⟩ else none) n)) :=
      fun hg => by rw [State.mapLink_congr hg]
    rcases hc with ⟨f, rfl, -, -, rfl⟩ | ⟨ch, b, m, ws, rfl, rfl⟩ | ⟨rfl, rfl⟩
    · exact taken (h.cut f next)
    · have hne : (s.link l).rx.frame ≠ some ⟨burstControl ch, []⟩ := fun e => by simpa using h.opening _ e
      refine taken ((h.cut _ next).trans ?_)
      simp [hne]
    · exact taken (h.control next)

/-! ### Training (R60) -/

namespace Link

theorem findAlignment_of_search {k : Link} (h : k.rx.state = .search) (pos : Nat) :
    k.findAlignment pos =
      { k with
        rx := { k.rx with
          state := .training, alignment := some pos, trainingCount := 1, errorWindow := [], signalTimer := 0 }
        delta := { k.delta with stateChanged := true } } := by
  simp [findAlignment, h, changeState]

/-- A TRAIN word in TRAINING counts; the 64th brings READY. -/
theorem control_train_of_training {k : Link} (h : k.rx.state = .training) :
    k.control Config.trainControl =
      if 64 ≤ k.rx.trainingCount + 1 then
        { k with
          rx := { k.rx with
            state := .ready, trainingCount := k.rx.trainingCount + 1
            errorWindow := ageWindow 1 k.rx.errorWindow, signalTimer := 0 }
          delta := { k.delta with stateChanged := true } }
      else
        { k with rx := { k.rx with
            trainingCount := k.rx.trainingCount + 1
            errorWindow := ageWindow 1 k.rx.errorWindow, signalTimer := 0 } } := by
  simp only [control, h, if_true, age, Receiver.aligned, trainUp, changeState]

theorem resetTraining_of_training {k : Link} (h : k.rx.state = .training) {w : LaneWord}
    (hw : w ≠ .control Config.trainControl) :
    k.resetTraining w =
      { k with rx := { k.rx with
          trainingCount := 0, errorWindow := ageWindow 1 k.rx.errorWindow, signalTimer := 0 } } := by
  simp [resetTraining, h, hw, age, Receiver.aligned, trainReset]

/-- The link after `n` further TRAIN words from a TRAIN word that fixed the alignment at `pos`. -/
def trained (pos n : Nat) (k : Link) : Link :=
  { k with
    rx := { k.rx with
      state := if n = 63 then .ready else .training
      alignment := some pos, trainingCount := n + 1, errorWindow := [], signalTimer := 0 }
    delta := { k.delta with stateChanged := true } }

theorem control_trained {n : Nat} (hn : n < 63) (pos : Nat) (k : Link) :
    (k.trained pos n).control Config.trainControl = k.trained pos (n + 1) := by
  rw [control_train_of_training (by simp [trained, hn.ne])]
  by_cases h : n + 1 = 63
  · obtain rfl : n = 62 := by omega
    simp [trained]
  · have h' : ¬ 64 ≤ n + 1 + 1 := by omega
    simp [trained, h, h', hn.ne]

end Link

/-- A run of TRAIN words while the receiver trains. -/
theorem execAll_trainWords {s : State} {l : LinkId} {k : Link} {pos : Nat} (n m : Nat) (hn : n + m ≤ 63)
    (hk : s.link l = k.trained pos n) :
    execAll (List.replicate m (.trainWord l)) s = .next (s.mapLink l fun _ => k.trained pos (n + m)) := by
  induction m generalizing s n with
  | zero =>
    rw [State.mapLink_self hk.symm]
    rfl
  | succ m ih =>
    have step : exec (.trainWord l) s = .next (s.mapLink l fun _ => k.trained pos (n + 1)) := by
      refine congrArg Host.Outcome.next (State.mapLink_congr ?_)
      rw [hk, Link.control_trained (by omega)]
    simp only [List.replicate_succ, execAll, step]
    rw [ih (n + 1) (by omega) (by simp), State.mapLink_mapLink, Nat.add_right_comm, Nat.add_assoc]

/-- Settles O16: one lemma for each kind of word, and induction on the number of TRAIN words. -/
theorem trainingCounts : Obligations.TrainingCounts := by
  refine ⟨fun s l => ⟨fun pos hs => ?_, fun hs hn => ?_, fun hs hn => ?_, fun w hs hw => ?_⟩, fun s l pos n hs hn => ?run⟩
  · exact congrArg Host.Outcome.next (State.mapLink_congr (Link.findAlignment_of_search hs pos))
  · refine congrArg Host.Outcome.next (State.mapLink_congr ?_)
    rw [Link.control_train_of_training hs, if_neg (by omega)]
  · refine congrArg Host.Outcome.next (State.mapLink_congr ?_)
    rw [Link.control_train_of_training hs, if_pos (by omega), hn]
  · exact congrArg Host.Outcome.next (State.mapLink_congr (Link.resetTraining_of_training hs hw))
  case run =>
    have first : exec (.alignmentFound l pos) s = .next (s.mapLink l fun _ => (s.link l).trained pos 0) := by
      refine congrArg Host.Outcome.next (State.mapLink_congr ?_)
      rw [Link.findAlignment_of_search hs]
      simp [Link.trained]
    refine ⟨s.mapLink l fun _ => (s.link l).trained pos n, ?_, ?_⟩
    · simp only [execAll, first]
      have rest := execAll_trainWords (s := s.mapLink l fun _ => (s.link l).trained pos 0) 0 n (by omega)
        (State.link_mapLink ..)
      rw [rest, State.mapLink_mapLink, Nat.zero_add]
    · rw [State.link_mapLink]
      exact ⟨rfl, rfl, rfl, rfl, rfl, rfl, rfl, rfl⟩

/-! ### Alignment loss (R62) -/

/-- The receiver acts on words: READY, RUN or RESYNC. -/
def Link.acts (k : Link) : Prop := k.rx.state = .ready ∨ k.rx.state = .run ∨ k.rx.state = .resync

namespace Link

variable {k : Link}

/-- A word with a code error, before the window is looked at: counted, and the frame in progress broken. -/
def struck (k : Link) : Link := k.countCodeError.markError.breakFrame

theorem struck_eq (k : Link) (h : k.acts) :
    k.struck = { k with
      rx := { k.rx with
        frame := none, errorWindow := 0 :: ageWindow 1 k.rx.errorWindow, signalTimer := 0
        skipping := k.rx.skipping || decide (k.rx.state = .run ∧ k.rx.frame ≠ none) }
      counters := { k.counters with
        codeErrors := satAdd cap32 k.counters.codeErrors 1
        framingErrors :=
          if k.rx.state = .run ∧ k.rx.frame ≠ none then satAdd cap32 k.counters.framingErrors 1
          else k.counters.framingErrors } } := by
  obtain ⟨⟨st, al, tc, ew, sg, lh, ho, bs, sk, fr⟩, d, cs, q⟩ := k
  cases fr with
  | none =>
    simp [struck, breakFrame, markError, countCodeError, mapCounters, markWindow]
  | some g =>
    obtain h | h | h := h <;> simp only at h <;> subst h <;>
      simp [struck, breakFrame, markError, countCodeError, mapCounters, markWindow, framingError]

theorem codeError_of_acts (h : k.acts) :
    k.codeError = if Config.windowErrors ≤ k.struck.rx.errorWindow.length then k.struck.loseAlignment else k.struck := by
  obtain h | h | h := h <;> simp only [codeError, h] <;> rfl

theorem codeError_of_training (h : k.rx.state = .training) :
    k.codeError = { k with
      rx := { k.rx with state := .search, alignment := none, trainingCount := 0 }
      delta := { k.delta with stateChanged := true }
      counters := { k.counters with codeErrors := satAdd cap32 k.counters.codeErrors 1 } } := by
  simp [codeError, h, countCodeError, changeState, mapCounters]

theorem loseAlignment_eq (k : Link) :
    k.loseAlignment = {
      rx := { k.rx with
        state := .search, alignment := none, trainingCount := 0, lastHeartbeat := none, heartbeatOpen := false
        burstsSinceOpen := 0, skipping := false, frame := none }
      delta := { k.delta with stateChanged := true, lost := true }
      counters := { k.counters with
        alignmentLosses := satAdd cap32 k.counters.alignmentLosses 1
        ingressDrops := satAdd cap32 k.counters.ingressDrops k.queue.items.length }
      queue := ⟨[.linkDown .lost], false⟩ } := rfl

end Link

theorem ageWindow_eq_filter_map (n : Nat) (marks : List Nat) :
    ageWindow n marks = (marks.filter fun a => decide (a + n < 256)).map fun a => a + n := by
  rw [ageWindow, List.filter_map]
  rfl

/-- Settles O17: `Link.struck` is the word with the error, and `Link.loseAlignment_eq` what the loss leaves. -/
theorem alignmentLoss : Obligations.AlignmentLoss := by
  refine ⟨ageWindow_eq_filter_map, fun s l => ⟨fun hs => ?_, fun hs hn => ?_, fun hs hn => ?_, fun f hl hs => ?_,
    fun f => ?_⟩, fun s l ha => ?_⟩
  · exact ⟨_, rfl, by simp [Link.codeError_of_training hs]⟩
  · refine ⟨_, rfl, ?_⟩
    have hw : ¬ Config.windowErrors ≤ (s.link l).struck.rx.errorWindow.length := by
      rw [Link.struck_eq _ hs]
      exact Nat.not_le.mpr hn
    simp only [State.link_mapLink, Link.codeError_of_acts hs, if_neg hw]
    rw [Link.struck_eq _ hs]
    simp
  · refine ⟨_, rfl, ?_⟩
    have hw : Config.windowErrors ≤ (s.link l).struck.rx.errorWindow.length := by
      rw [Link.struck_eq _ hs]
      exact hn
    simp only [State.link_mapLink, Link.codeError_of_acts hs, if_pos hw, Link.loseAlignment_eq]
    rw [Link.struck_eq _ hs]
    simp
  · have h : (s.link l).Waits := .of_legal hl hs
    show Host.Outcome.next _ = .next _
    rw [State.mapLink_mapLink]
    refine congrArg Host.Outcome.next (State.mapLink_congr ?_)
    have hact : ∀ frame n, ((s.link l).aged frame n).acts := fun _ _ => by
      obtain hs | hs := hs
      · exact .inl hs
      · exact .inr (.inr hs)
    have hrun : (s.link l).rx.state ≠ .run := by obtain hs | hs := hs <;> simp [hs]
    show ((s.link l).receive f).codeError = ((s.link l).aged none _).codeError
    rw [h.receive, Link.codeError_of_acts (hact _ _), Link.codeError_of_acts (hact _ _), Link.struck_eq _ (hact _ _),
      Link.struck_eq _ (hact _ _)]
    simp [Link.aged, hrun]
  · show Host.Outcome.next _ = .next _
    rw [State.mapLink_mapLink]
  · refine ⟨_, rfl, ?_⟩
    have lost : (s.link l).loseSignal =
        Link.loseAlignment { s.link l with rx := { (s.link l).rx with signalTimer := Config.signalPeriods } } := by
      rw [Link.loseSignal, if_pos ha]
    rw [State.link_mapLink, lost, Link.loseAlignment_eq]
    refine ⟨rfl, rfl, rfl, rfl, ?_⟩
    show { s with links := s.links.set l (s.link l).loseSignal } = _
    rw [lost, Link.loseAlignment_eq]

end Sys2Proof.Machine
end

section
/-! Frames and framing errors in RUN, and the frame that opens RUN (R61, R66 to R71): O18 to O21. -/

namespace Sys2Proof.Machine

open Sys2Proof Sys2Proof.Safety

namespace Link

variable {k : Link}

/-! ### HB_OPEN frames (R61, R67, R68) -/

theorem receive_open_outside_run (h : k.rx.state = .ready ∨ k.rx.state = .resync) (low : BitVec 8) :
    (k.receive ⟨hbOpenControl low, []⟩).dataWords 1 =
      k.aged (some ⟨hbOpenControl low, []⟩) (if k.rx.frame = some ⟨hbOpenControl low, []⟩ then 1 else 2) := by
  have ha : k.rx.state = .ready ∨ k.rx.state = .run ∨ k.rx.state = .resync := by tauto
  have ht : k.rx.state ≠ .training := by obtain h | h := h <;> simp [h]
  by_cases hb : k.rx.frame = some ⟨hbOpenControl low, []⟩
  · obtain h | h := h <;>
      simp [receive, startFrame, hb, dataWords, h, age, Receiver.aligned, aged, ageWindow_ageWindow]
  · simp only [receive, startFrame, hb, if_false]
    rw [control_outside_run h]
    obtain h | h := h <;> simp [dataWords, h, age, Receiver.aligned, aged, ageWindow_ageWindow]

/-- The first HB_OPEN frame: offered without a sequence check, and RUN begins. -/
theorem openFrame_outside_run (h : k.rx.state = .ready ∨ k.rx.state = .resync) (low : BitVec 8) (x : Heartbeat) :
    k.openFrame low x =
      { k.offer (.hbOpen x (decide (k.rx.state = .resync))) with
        rx := { k.rx with
          state := .run, lastHeartbeat := some x, heartbeatOpen := true, burstsSinceOpen := 0, frame := none
          errorWindow := ageWindow (if k.rx.frame = some ⟨hbOpenControl low, []⟩ then 1 else 2) k.rx.errorWindow
          signalTimer := 0 }
        delta := { k.delta with stateChanged := true } } := by
  unfold openFrame
  rw [receive_open_outside_run h]
  obtain h | h := h <;>
    simp [aged, completeOpen, h, acceptHeartbeat, changeState, offer_setRx]

/-- The link after the implicit close, with its receiver left out: the close offered and counted, if a heartbeat is open. -/
def closedImplicitly (last : Heartbeat) (k : Link) : Link :=
  if k.rx.heartbeatOpen then
    (k.offer (.hbClose ⟨last, none, false, true, false, false⟩)).mapCounters fun c =>
      { c with framingErrors := satAdd cap32 c.framingErrors 1 }
  else k

theorem implicitClose_setRx {r : Receiver} {last : Heartbeat} (ho : r.heartbeatOpen = k.rx.heartbeatOpen)
    (hl : r.lastHeartbeat = some last) :
    ({ k with rx := r } : Link).implicitClose =
      { k.closedImplicitly last with rx := { r with heartbeatOpen := false } } := by
  unfold implicitClose closedImplicitly
  cases hk : k.rx.heartbeatOpen
  · have hr : r.heartbeatOpen = false := by rw [ho, hk]
    rw [if_neg (by simp [hr]), if_neg (by simp), ← hr]
  · simp [ho, hk, hl, offer_setRx, mapCounters]

@[simp] theorem closedImplicitly_delta (last : Heartbeat) (k : Link) : (k.closedImplicitly last).delta = k.delta := by
  unfold closedImplicitly
  split <;> simp [mapCounters]

theorem acceptHeartbeat_setRx (x : Heartbeat) (resync : Bool) (r : Receiver) (k : Link) :
    ({ k with rx := r } : Link).acceptHeartbeat x resync =
      { k.offer (.hbOpen x resync) with
        rx := { r with lastHeartbeat := some x, heartbeatOpen := true, burstsSinceOpen := 0 } } := by
  simp [acceptHeartbeat, offer_setRx]

/-- An offer of an item that is no burst reads and changes no counter but the drops. -/
theorem offer_setGaps (x : Heartbeat) (resync : Bool) (n : Nat) (k : Link) :
    ({ k with counters := { k.counters with gaps := n } } : Link).offer (.hbOpen x resync) =
      { k.offer (.hbOpen x resync) with counters := { (k.offer (.hbOpen x resync)).counters with gaps := n } } := by
  simp only [offer]
  split
  · split <;> rfl
  · split <;> rfl

/-- The sequence check of an HB_OPEN in order: offered, and counted unless it is the next heartbeat. -/
theorem sequence_in_order {r : Receiver} {last x : Heartbeat} (hl : r.lastHeartbeat = some last)
    (hd : 1 ≤ (x - last).toNat ∧ (x - last).toNat ≤ 32767) :
    ({ k with rx := r } : Link).sequence x =
      { k.offer (.hbOpen x false) with
        rx := { r with lastHeartbeat := some x, heartbeatOpen := true, burstsSinceOpen := 0 }
        counters := { (k.offer (.hbOpen x false)).counters with
          gaps := if (x - last).toNat = 1 then (k.offer (.hbOpen x false)).counters.gaps
            else satAdd cap32 k.counters.gaps 1 } } := by
  simp only [sequence, hl]
  by_cases h1 : (x - last).toNat = 1
  · simp [h1, acceptHeartbeat_setRx]
  · have h2 : 2 ≤ (x - last).toNat ∧ (x - last).toNat < Config.halfTurn := ⟨by omega, by simp only [Config.halfTurn]; omega⟩
    simp only [h1, h2, if_true, if_false, and_self, mapCounters]
    have := acceptHeartbeat_setRx x false r { k with counters := { k.counters with gaps := satAdd cap32 k.counters.gaps 1 } }
    rw [offer_setGaps] at this
    exact this

/-- The sequence check of an HB_OPEN out of order: RESYNC, and counted. -/
theorem sequence_disorder {r : Receiver} {last x : Heartbeat} (hl : r.lastHeartbeat = some last)
    (hd : (x - last).toNat = 0 ∨ 32768 ≤ (x - last).toNat) :
    ({ k with rx := r } : Link).sequence x =
      { k with
        rx := { r with state := .resync }
        delta := { k.delta with stateChanged := true, resync := true }
        counters := { k.counters with disorders := satAdd cap32 k.counters.disorders 1 } } := by
  have h1 : ¬ (x - last).toNat = 1 := by omega
  have h2 : ¬ (2 ≤ (x - last).toNat ∧ (x - last).toNat < Config.halfTurn) := by simp only [Config.halfTurn]; omega
  simp only [sequence, hl, h1, h2, if_false, mapCounters, changeState]

theorem offer_gaps (it : Item) (k : Link) : (k.offer it).counters.gaps = k.counters.gaps := by
  obtain ⟨-, -, h⟩ | ⟨-, -, h⟩ | ⟨-, -, h⟩ := k.offer_cases it <;> rw [h]
  · simp only [enqueue]
    split <;> rfl
  · rfl
  · rfl

/-- The receiver in RUN as the words of an HB_OPEN frame and the implicit close leave it, before the sequence check. -/
def reopening (r : Receiver) : Receiver :=
  { r with
    heartbeatOpen := false, frame := none, skipping := !decide (r.frame = none) && r.skipping
    errorWindow := ageWindow (if r.frame = none then 2 else 1) r.errorWindow, signalTimer := 0 }

/-- An HB_OPEN frame in RUN: the implicit close, then the sequence check. -/
theorem openFrame_run (h : k.rx.state = .run) {low : BitVec 8}
    (hf : k.rx.frame = none ∨ k.rx.frame = some ⟨hbOpenControl low, []⟩) {last : Heartbeat}
    (hl : k.rx.lastHeartbeat = some last) (x : Heartbeat) :
    k.openFrame low x = Link.sequence x { k.closedImplicitly last with rx := reopening k.rx } := by
  have hw : (if k.rx.frame = none then 1 else 0) + 1 = if k.rx.frame = none then 2 else 1 := by split <;> rfl
  have shut := implicitClose_setRx (k := k)
    (r := { reopening k.rx with heartbeatOpen := k.rx.heartbeatOpen }) (last := last) rfl hl
  refine Eq.trans ?_ (congrArg (sequence x) shut)
  unfold openFrame
  rw [receive_of_begun (f := ⟨hbOpenControl low, []⟩) h hf (.inl (by simp))]
  simp only [dataWords, h, age, Receiver.aligned, ageWindow_ageWindow, completeOpen, controlKind_hbOpenControl, reopening]
  simp only [reduceCtorEq, false_and, if_false, if_true, Option.isSome_some, List.length_nil, Nat.zero_add, hw]

theorem openFrame_in_order (h : k.rx.state = .run) {low : BitVec 8}
    (hf : k.rx.frame = none ∨ k.rx.frame = some ⟨hbOpenControl low, []⟩) {last x : Heartbeat}
    (hl : k.rx.lastHeartbeat = some last) (hd : 1 ≤ (x - last).toNat ∧ (x - last).toNat ≤ 32767) :
    k.openFrame low x =
      { (k.closedImplicitly last).offer (.hbOpen x false) with
        rx := { reopening k.rx with lastHeartbeat := some x, heartbeatOpen := true, burstsSinceOpen := 0 }
        counters := { ((k.closedImplicitly last).offer (.hbOpen x false)).counters with
          gaps := if (x - last).toNat = 1 then ((k.closedImplicitly last).offer (.hbOpen x false)).counters.gaps
            else satAdd cap32 (k.closedImplicitly last).counters.gaps 1 } } :=
  (openFrame_run h hf hl x).trans (sequence_in_order hl hd)

theorem openFrame_disorder (h : k.rx.state = .run) {low : BitVec 8}
    (hf : k.rx.frame = none ∨ k.rx.frame = some ⟨hbOpenControl low, []⟩) {last x : Heartbeat}
    (hl : k.rx.lastHeartbeat = some last) (hd : (x - last).toNat = 0 ∨ 32768 ≤ (x - last).toNat) :
    k.openFrame low x =
      { k.closedImplicitly last with
        rx := { reopening k.rx with state := .resync }
        delta := { k.delta with stateChanged := true, resync := true }
        counters := { (k.closedImplicitly last).counters with
          disorders := satAdd cap32 (k.closedImplicitly last).counters.disorders 1 } } := by
  have := (openFrame_run h hf hl x).trans (sequence_disorder hl hd)
  rwa [closedImplicitly_delta] at this

end Link

theorem not_skipping_of_began {r : Receiver} (h : ReceiverLegal r) : (!decide (r.frame = none) && r.skipping) = false := by
  cases hs : r.skipping
  · simp
  · simp [(h.skips hs).2]

/-- Settles O18: outside RUN by `Link.openFrame_outside_run`, in RUN by `Link.openFrame_run` and the two outcomes of the
sequence check. -/
theorem heartbeatFramesReceived : Obligations.HeartbeatFramesReceived := by
  refine ⟨fun s l low x hs => ⟨_, rfl, ?_⟩, fun s l low x last hs hf hl => ⟨_, rfl, ?_⟩⟩
  · rw [State.link_mapLink, Link.openFrame_outside_run hs]
    refine ⟨rfl, fun hlegal => ?_, rfl, rfl, rfl⟩
    refine Bool.eq_false_iff.mpr fun hk => ?_
    have := (hlegal.skips hk).1
    obtain hs | hs := hs <;> simp [hs] at this
  · rw [State.link_mapLink]
    by_cases hd : 1 ≤ (x - last).toNat ∧ (x - last).toNat ≤ 32767
    · rw [Link.openFrame_in_order hs hf hl hd]
      refine ⟨not_skipping_of_began, fun _ => ⟨rfl, ?_, rfl, ?_⟩, fun hd' => ?_⟩
      · simp
      · rw [Link.offer_gaps]
        rfl
      · omega
    · have := (x - last).isLt
      have hd' : (x - last).toNat = 0 ∨ 32768 ≤ (x - last).toNat := by omega
      rw [Link.openFrame_disorder hs hf hl hd']
      exact ⟨not_skipping_of_began, fun h => absurd h hd, fun _ => ⟨rfl, rfl, rfl, rfl⟩⟩

/-! ### HB_CLOSE frames (R69) -/

namespace Link

variable {k : Link}

/-- An HB_CLOSE frame in RUN while a heartbeat is open: offered. -/
theorem closeFrame_open (h : k.rx.state = .run) (ho : k.rx.heartbeatOpen = true) {low : BitVec 8}
    (hf : k.rx.frame = none ∨ k.rx.frame = some ⟨hbCloseControl low, []⟩) (x : Heartbeat) (declared status : Word16) :
    k.closeFrame low x declared status =
      let framing : Bool := k.rx.lastHeartbeat ≠ some x
      let offered := k.offer (.hbClose
        { heartbeat := x, declared := some declared, feTruncated := flagBit status 0, implicit := false
          framing := framing, countMismatch := decide (declared.toNat ≠ k.rx.burstsSinceOpen) })
      { offered with
        rx := { k.rx with
          frame := none, heartbeatOpen := false
          skipping := !decide (k.rx.frame = none) && k.rx.skipping
          errorWindow := ageWindow (if k.rx.frame = none then 4 else 3) k.rx.errorWindow, signalTimer := 0 }
        counters := if framing then
            { offered.counters with framingErrors := satAdd cap32 offered.counters.framingErrors 1 }
          else offered.counters } := by
  have hw : [x, declared].length + (if k.rx.frame = none then 1 else 0) + 1 = if k.rx.frame = none then 4 else 3 := by
    split <;> rfl
  unfold closeFrame
  rw [receive_of_begun (f := ⟨hbCloseControl low, [x, declared]⟩) h hf (.inr ⟨ho, .inl (by simp)⟩)]
  simp only [dataWords, h, age, Receiver.aligned, ageWindow_ageWindow, completeClose, controlKind_hbCloseControl]
  simp only [reduceCtorEq, false_and, if_false, if_true, Option.isSome_some, hw]
  rw [offer_setRx]

/-- The words of an HB_CLOSE frame in RUN with no heartbeat open are a framing error. -/
theorem closeFrame_shut (h : k.rx.state = .run) (ho : k.rx.heartbeatOpen = false) (hf : k.rx.frame = none)
    (low : BitVec 8) (x : Heartbeat) (declared status : Word16) :
    k.closeFrame low x declared status =
      { k with
        rx := { k.rx with
          frame := none, skipping := true
          errorWindow := ageWindow 4 k.rx.errorWindow, signalTimer := 0 }
        counters := { k.counters with framingErrors := satAdd cap32 k.counters.framingErrors 1 } } := by
  unfold closeFrame
  rw [receive_of_shut (f := ⟨hbCloseControl low, [x, declared]⟩) h hf ho (.inl (by simp))]
  simp [dataWords, h, age, Receiver.aligned, ageWindow_ageWindow]

theorem offer_framingErrors (it : Item) (k : Link) : (k.offer it).counters.framingErrors = k.counters.framingErrors := by
  obtain ⟨-, -, h⟩ | ⟨-, -, h⟩ | ⟨-, -, h⟩ := k.offer_cases it <;> rw [h]
  · simp only [enqueue]
    split <;> rfl
  · rfl
  · rfl

end Link

/-- Settles O19: by whether a heartbeat is open. -/
theorem heartbeatClose : Obligations.HeartbeatClose := by
  intro s l low x declared status hs hf framing offered began
  refine ⟨_, rfl, ?_⟩
  rw [State.link_mapLink]
  cases ho : (s.link l).rx.heartbeatOpen
  · have hn : (s.link l).rx.frame = none := hf.resolve_right (by simp [ho])
    rw [Link.closeFrame_shut hs ho hn]
    simp [began, hn, ho]
  · rw [Link.closeFrame_open hs ho (hf.imp_right And.right)]
    refine ⟨by simp [began], by simp, fun _ => ⟨not_skipping_of_began, rfl, ?_⟩, by simp⟩
    show (if framing = true then _ else offered.counters) = _
    have hfr : offered.counters.framingErrors = (s.link l).counters.framingErrors := Link.offer_framingErrors ..
    rw [← hfr]
    split <;> rfl

/-! ### BURST frames (R70, R71) -/

theorem burstOf_burstControl (channel : BitVec 8) (start count : Word16) (samples : List Word16) (bad truncated : Bool)
    (hc : samples.length ≤ count.toNat) :
    burstOf (burstControl channel) (start :: count :: samples) bad truncated =
      { channel := channel, start := start.toNat
        samples := (samples.take (512 - start.toNat)).map fun w => BitVec.ofNat 10 w.toNat
        checkError := bad, truncated := truncated
        boundaryClamp := decide (512 < start.toNat + count.toNat) } := by
  have kept : samples.take (keptBins start.toNat count.toNat) = samples.take (512 - start.toNat) := by
    rw [keptBins, Nat.min_comm, ← List.take_take, List.take_of_length_le (l := samples) hc]
  simp only [burstOf, ofNat_burstControl, kept]
  rfl

theorem toNat_ofNat_length {samples : List Word16} (h : samples.length ≤ 512) :
    (BitVec.ofNat 16 samples.length).toNat = samples.length := by
  simp only [BitVec.toNat_ofNat]
  omega

namespace Link

variable {k : Link}

/-- The link once the words `f` of a burst in RUN have arrived, the first of them its control word. -/
theorem receive_burst (h : k.rx.state = .run) (ho : k.rx.heartbeatOpen = true) {channel : BitVec 8}
    (hf : k.rx.frame = none ∨ k.rx.frame = some ⟨burstControl channel, []⟩) {words : List Word16}
    (hh : burstHeaderInRange words = true) (n : Nat) :
    (k.receive ⟨burstControl channel, words⟩).age n =
      { k with rx := { k.rx with
        frame := some ⟨burstControl channel, words⟩
        burstsSinceOpen :=
          if k.rx.frame = none then satAdd cap16 k.rx.burstsSinceOpen 1 else k.rx.burstsSinceOpen
        skipping := !decide (k.rx.frame = none) && k.rx.skipping
        errorWindow := ageWindow (words.length + (if k.rx.frame = none then 1 else 0) + n) k.rx.errorWindow
        signalTimer := 0 } } := by
  rw [receive_of_begun (f := ⟨burstControl channel, words⟩) h hf (.inr ⟨ho, .inr ⟨channel, by simp, hh⟩⟩)]
  simp only [age, h, Receiver.aligned, ageWindow_ageWindow, if_true, controlKind_burstControl]

theorem dataWords_of_run (h : k.rx.state = .run) (n : Nat) : k.dataWords n = k.age n := by simp [dataWords, h]

theorem receive_state_of_begun (h : k.rx.state = .run) (f : FrameInProgress)
    (hf : k.rx.frame = none ∨ k.rx.frame = some ⟨f.control, []⟩)
    (ho : controlKind f.control = .hbOpen ∨ k.rx.heartbeatOpen = true ∧
      (controlKind f.control = .hbClose ∨
        ∃ ch, controlKind f.control = .burst ch ∧ burstHeaderInRange f.words = true)) :
    (k.receive f).rx.state = .run := by
  rw [receive_of_begun h hf ho]
  exact h

/-- A complete BURST frame in RUN while a heartbeat is open: offered with its check. -/
theorem burstFrame_open (h : k.rx.state = .run) (ho : k.rx.heartbeatOpen = true) {channel : BitVec 8}
    (hf : k.rx.frame = none ∨ k.rx.frame = some ⟨burstControl channel, []⟩) {start : Word16} (hs : start.toNat ≤ 511)
    {samples : List Word16} (hn : 1 ≤ samples.length ∧ samples.length ≤ 512) (check : Word16) :
    k.burstFrame channel start samples check =
      let bad : Bool := crc (start :: BitVec.ofNat 16 samples.length :: samples) ≠ check
      let offered := k.offer (.burst
        { channel := channel, start := start.toNat
          samples := (samples.take (512 - start.toNat)).map fun w => BitVec.ofNat 10 w.toNat
          checkError := bad, truncated := false
          boundaryClamp := decide (512 < start.toNat + samples.length) })
      { offered with
        rx := { k.rx with
          frame := none
          burstsSinceOpen :=
            if k.rx.frame = none then satAdd cap16 k.rx.burstsSinceOpen 1 else k.rx.burstsSinceOpen
          skipping := !decide (k.rx.frame = none) && k.rx.skipping
          errorWindow := ageWindow (samples.length + if k.rx.frame = none then 4 else 3) k.rx.errorWindow
          signalTimer := 0 }
        counters := if bad then
            { offered.counters with checkErrors := satAdd cap32 offered.counters.checkErrors 1 }
          else offered.counters } := by
  have hlen := toNat_ofNat_length hn.2
  have hh : burstHeaderInRange (start :: BitVec.ofNat 16 samples.length :: samples) = true := by
    simp [burstHeaderInRange, hlen, hs, hn.1, hn.2]
  have hw : (start :: BitVec.ofNat 16 samples.length :: samples).length + (if k.rx.frame = none then 1 else 0) + 1 =
      samples.length + if k.rx.frame = none then 4 else 3 := by
    simp only [List.length_cons]
    split <;> rfl
  have hrun := receive_state_of_begun h ⟨burstControl channel, start :: BitVec.ofNat 16 samples.length :: samples⟩ hf
    (.inr ⟨ho, .inr ⟨channel, by simp, hh⟩⟩)
  unfold burstFrame
  simp only [dataWords_of_run hrun, receive_burst h ho hf hh, Option.isSome_some, if_true, completeBurst, offer_setRx,
    burstOf_burstControl _ _ _ _ _ _ hlen.ge, hlen, hw, mapCounters]
  split <;> simp_all

/-- The words of a BURST frame in RUN with no heartbeat open are a framing error. -/
theorem burstFrame_shut (h : k.rx.state = .run) (ho : k.rx.heartbeatOpen = false) (hf : k.rx.frame = none)
    (channel : BitVec 8) (start : Word16) (samples : List Word16) (check : Word16) :
    k.burstFrame channel start samples check =
      { k with
        rx := { k.rx with
          frame := none, skipping := true
          errorWindow := ageWindow (samples.length + 4) k.rx.errorWindow, signalTimer := 0 }
        counters := { k.counters with framingErrors := satAdd cap32 k.counters.framingErrors 1 } } := by
  unfold burstFrame
  dsimp only
  rw [receive_of_shut (f := ⟨burstControl channel, start :: BitVec.ofNat 16 samples.length :: samples⟩) h hf ho
    (.inr ⟨channel, by simp⟩)]
  simp [dataWords, h, age, Receiver.aligned, ageWindow_ageWindow]

theorem offer_checkErrors (it : Item) (k : Link) : (k.offer it).counters.checkErrors = k.counters.checkErrors := by
  obtain ⟨-, -, h⟩ | ⟨-, -, h⟩ | ⟨-, -, h⟩ := k.offer_cases it <;> rw [h]
  · simp only [enqueue]
    split <;> rfl
  · rfl
  · rfl

theorem control_of_run (h : k.rx.state = .run) (c : Word16) : k.control c = (k.age 1).cutFrame.beginFrame c := by
  simp [control, h]

end Link

/-- Settles O20: the words of the burst by `Link.receive_burst`, then what its last word does. -/
theorem burstFramesReceived : Obligations.BurstFramesReceived := by
  constructor
  · intro s l channel start samples check hs begun hf hstart h1 h512 bad offered
    refine ⟨_, rfl, ?_⟩
    rw [State.link_mapLink]
    have hb : (s.link l).rx.frame = none ∨ begun := hf.imp_right And.right
    have hbegun : begun ↔ (s.link l).rx.frame ≠ none := by
      obtain hb | hb := hb <;> simp [begun, hb]
    cases ho : (s.link l).rx.heartbeatOpen
    · have hn : (s.link l).rx.frame = none := hf.resolve_right (by simp [ho])
      rw [Link.burstFrame_shut hs ho hn]
      have hb : ¬ begun := by simp [hbegun, hn]
      simp [hb]
    · rw [Link.burstFrame_open hs ho hb hstart ⟨h1, h512⟩]
      refine ⟨?_, by simp, fun _ => ⟨not_skipping_of_began, rfl, ?_⟩, by simp⟩
      · by_cases hn : (s.link l).rx.frame = none <;> simp [hbegun, hn]
      · show (if bad = true then _ else offered.counters) = _
        have hch : offered.counters.checkErrors = (s.link l).counters.checkErrors := Link.offer_checkErrors ..
        rw [← hch]
        split <;> rfl
  · intro s l channel start count samples next hs ho begun hf hstart h1 hcount h512 offered
    have hbegun : begun ↔ (s.link l).rx.frame ≠ none := by
      obtain hb | hb := hf <;> simp [begun, hb]
    have hh : burstHeaderInRange (start :: count :: samples) = true := by
      simp [burstHeaderInRange, hstart, h512]
      omega
    have hrun := Link.receive_state_of_begun hs ⟨burstControl channel, start :: count :: samples⟩ hf
      (.inr ⟨ho, .inr ⟨channel, by simp, hh⟩⟩)
    have sampled : frameHasSample ⟨burstControl channel, start :: count :: samples⟩ = true := by
      obtain ⟨a, rest, rfl⟩ := List.exists_cons_of_length_pos h1
      simp [frameHasSample]
    refine ⟨(((s.link l).receive ⟨burstControl channel, start :: count :: samples⟩).age 1).cutFrame, ?_, ?_⟩
    · exact congrArg Host.Outcome.next (State.mapLink_congr (Link.control_of_run hrun next))
    · rw [Link.receive_burst hs ho hf hh]
      simp only [Link.cutFrame, sampled, if_true, Link.offer_setRx, burstOf_burstControl _ _ _ _ _ _ hcount]
      refine ⟨?_, by simp, rfl, rfl⟩
      by_cases hn : (s.link l).rx.frame = none <;> simp [hbegun, hn]

end Sys2Proof.Machine
end

section
/-! Framing errors in RUN (R66): O21. -/

namespace Sys2Proof.Machine

open Sys2Proof Sys2Proof.Safety

/-! ### The kinds of frame that can be in progress -/

/-- A well-formed frame in progress is an HB_OPEN, an HB_CLOSE, or a BURST whose header is in range as far as it has come. -/
theorem kind_of_wellFormed {f : FrameInProgress} (h : f.wellFormed = true) :
    controlKind f.control = .hbOpen ∨ controlKind f.control = .hbClose ∨
      ∃ ch, controlKind f.control = .burst ch ∧ burstHeaderInRange f.words = true := by
  unfold FrameInProgress.wellFormed at h
  split at h
  · exact .inl ‹_›
  · exact .inr (.inl ‹_›)
  · next _ _ hk hw => exact .inr (.inr ⟨_, hk, by rw [hw]; rfl⟩)
  · next _ _ _ hk hw => exact .inr (.inr ⟨_, hk, by rw [hw]; exact h⟩)
  · next _ _ _ _ _ hk hw => exact .inr (.inr ⟨_, hk, by rw [hw]; exact (Bool.and_eq_true_iff.mp h).1⟩)
  · simp at h

theorem badBurst_of_wellFormed {f : FrameInProgress} (h : (FramingEvent.badBurst f).wellFormed = true) :
    ∃ ch, controlKind f.control = .burst ch ∧ burstHeaderInRange f.words = false := by
  simp only [FramingEvent.wellFormed, Bool.and_eq_true] at h
  obtain ⟨⟨⟨⟨hk, -⟩, -⟩, hr⟩, -⟩ := h
  split at hk
  · exact ⟨_, ‹_›, by simpa using hr⟩
  · simp at hk

namespace Link

variable {k : Link}

/-- The bursts since the open once the control word of `f` has arrived. -/
def burstsWith (f : FrameInProgress) (k : Link) : Nat :=
  match controlKind f.control with
  | .burst _ => if k.rx.frame = none then satAdd cap16 k.rx.burstsSinceOpen 1 else k.rx.burstsSinceOpen
  | _ => k.rx.burstsSinceOpen

/-- The link in RUN while `f` is in progress, its control word counted among the words when it has just begun. -/
def during (f : FrameInProgress) (k : Link) : Link :=
  { k with rx := { k.rx with
    frame := some f, burstsSinceOpen := k.burstsWith f
    skipping := !decide (k.rx.frame = none) && k.rx.skipping
    errorWindow := ageWindow (f.words.length + if k.rx.frame = none then 1 else 0) k.rx.errorWindow
    signalTimer := 0 } }

theorem receive_eq_during {f : FrameInProgress} (h : k.rx.state = .run)
    (hf : k.rx.frame = none ∨ k.rx.frame = some ⟨f.control, []⟩)
    (ho : controlKind f.control = .hbOpen ∨ k.rx.heartbeatOpen = true) (hw : f.wellFormed = true) :
    k.receive f = k.during f := by
  have ho' : controlKind f.control = .hbOpen ∨ k.rx.heartbeatOpen = true ∧
      (controlKind f.control = .hbClose ∨
        ∃ ch, controlKind f.control = .burst ch ∧ burstHeaderInRange f.words = true) := by
    obtain ho | ho := ho
    · exact .inl ho
    · exact (kind_of_wellFormed hw).imp_right fun hk => ⟨ho, hk⟩
  rw [receive_of_begun h hf ho']
  rfl

/-- A frame in progress without a sample is a framing error where a control word cuts it (R66). -/
theorem cutFrame_during {f : FrameInProgress} (h : k.rx.state = .run) (hs : frameHasSample f = false) :
    ((k.during f).age 1).cutFrame =
      { k with
        rx := { k.rx with
          frame := none, skipping := true, burstsSinceOpen := k.burstsWith f
          errorWindow := ageWindow (f.words.length + if k.rx.frame = none then 2 else 1) k.rx.errorWindow
          signalTimer := 0 }
        counters := { k.counters with framingErrors := satAdd cap32 k.counters.framingErrors 1 } } := by
  have hw : f.words.length + (if k.rx.frame = none then 1 else 0) + 1 =
      f.words.length + if k.rx.frame = none then 2 else 1 := by split <;> rfl
  simp only [during, age, h, Receiver.aligned, if_true, cutFrame, hs, framingError, ageWindow_ageWindow, hw]
  rfl

theorem framingEvent_cut {f : FrameInProgress} (h : k.rx.state = .run)
    (hf : k.rx.frame = none ∨ k.rx.frame = some ⟨f.control, []⟩)
    (ho : controlKind f.control = .hbOpen ∨ k.rx.heartbeatOpen = true) (hw : f.wellFormed = true) (next : Word16) :
    k.framingEvent (.cut f next) = ((k.during f).age 1).cutFrame.beginFrame next := by
  rw [framingEvent, receive_eq_during h hf ho hw, control_of_run (k := k.during f) h]

/-- A burst whose start bin or count is out of range (R66). -/
theorem framingEvent_badBurst {f : FrameInProgress} (h : k.rx.state = .run)
    (hf : k.rx.frame = none ∨ k.rx.frame = some ⟨f.control, []⟩)
    (ho : controlKind f.control = .hbOpen ∨ k.rx.heartbeatOpen = true)
    (hw : (FramingEvent.badBurst f).wellFormed = true) :
    k.framingEvent (.badBurst f) =
      { k with
        rx := { k.rx with
          frame := none, skipping := true, burstsSinceOpen := k.burstsWith f
          errorWindow := ageWindow (f.words.length + if k.rx.frame = none then 1 else 0) k.rx.errorWindow
          signalTimer := 0 }
        counters := { k.counters with framingErrors := satAdd cap32 k.counters.framingErrors 1 } } := by
  obtain ⟨ch, hk, hh⟩ := badBurst_of_wellFormed hw
  rw [framingEvent, receive_of_bad_header h hf (ho.resolve_left (by simp [hk])) hk hh]
  simp only [burstsWith, hk]

/-- A code error inside a frame in RUN, before the window is looked at: a framing error as well (R62, R66). -/
theorem struck_during {f : FrameInProgress} (h : k.rx.state = .run) :
    (k.during f).struck =
      { k with
        rx := { k.rx with
          frame := none, skipping := true, burstsSinceOpen := k.burstsWith f
          errorWindow := 0 :: ageWindow (f.words.length + if k.rx.frame = none then 2 else 1) k.rx.errorWindow
          signalTimer := 0 }
        counters := { k.counters with
          codeErrors := satAdd cap32 k.counters.codeErrors 1
          framingErrors := satAdd cap32 k.counters.framingErrors 1 } } := by
  have hw : f.words.length + (if k.rx.frame = none then 1 else 0) + 1 =
      f.words.length + if k.rx.frame = none then 2 else 1 := by split <;> rfl
  rw [struck_eq (k.during f) (.inr (.inl h))]
  simp [during, h, ageWindow_ageWindow, hw]

theorem codeError_during {f : FrameInProgress} (h : k.rx.state = .run) :
    (k.during f).codeError =
      if 4 ≤ (k.during f).struck.rx.errorWindow.length then (k.during f).struck.loseAlignment
      else (k.during f).struck :=
  codeError_of_acts (.inr (.inl h))

/-! ### Words between frames (R66) -/

theorem beginFrame_train {c : Word16} (hc : controlKind c = .train) (k : Link) :
    k.beginFrame c = { k with rx := { k.rx with skipping := false } } := by
  simp [beginFrame, hc]

/-- A control word that begins a frame: an HB_OPEN, or an HB_CLOSE while a heartbeat is open. -/
theorem beginFrame_opens {c : Word16}
    (hc : controlKind c = .hbOpen ∨ controlKind c = .hbClose ∧ k.rx.heartbeatOpen = true) :
    k.beginFrame c = { k with rx := { k.rx with skipping := false, frame := some ⟨c, []⟩ } } := by
  obtain hc | ⟨hc, ho⟩ := hc
  · simp [beginFrame, hc]
  · simp [beginFrame, hc, ho]

theorem beginFrame_burst {c : Word16} (hc : ∃ ch, controlKind c = .burst ch) (ho : k.rx.heartbeatOpen = true) :
    k.beginFrame c = { k with rx := { k.rx with
      skipping := false, frame := some ⟨c, []⟩, burstsSinceOpen := satAdd cap16 k.rx.burstsSinceOpen 1 } } := by
  obtain ⟨ch, hc⟩ := hc
  simp [beginFrame, hc, ho]

/-- A control word that begins nothing: unknown, or an HB_CLOSE or BURST with no heartbeat open. -/
theorem beginFrame_refused {c : Word16}
    (hc : controlKind c = .unknown ∨
      k.rx.heartbeatOpen = false ∧ (controlKind c = .hbClose ∨ ∃ ch, controlKind c = .burst ch)) :
    k.beginFrame c =
      { k with
        rx := { k.rx with skipping := true, frame := none }
        counters := { k.counters with framingErrors := satAdd cap32 k.counters.framingErrors 1 } } := by
  obtain hc | ⟨ho, hc | ⟨ch, hc⟩⟩ := hc
  · simp [beginFrame, hc, framingError]
  · simp [beginFrame, hc, ho, framingError]
  · simp [beginFrame, hc, ho, framingError]

theorem control_between_frames (h : k.rx.state = .run) (hf : k.rx.frame = none) (c : Word16) :
    k.control c =
      Link.beginFrame c
        { k with rx := { k.rx with errorWindow := ageWindow 1 k.rx.errorWindow, signalTimer := 0 } } := by
  rw [control_of_run h, age_of_aligned (.inr (.inl h))]
  simp only [cutFrame, hf]

theorem strayData_between_frames (h : k.rx.state = .run) (hf : k.rx.frame = none) :
    k.strayData = { k with
      rx := { k.rx with skipping := true, errorWindow := ageWindow 1 k.rx.errorWindow, signalTimer := 0 }
      counters := if k.rx.skipping then k.counters
        else { k.counters with framingErrors := satAdd cap32 k.counters.framingErrors 1 } } := by
  obtain ⟨⟨st, al, tc, ew, sg, lh, ho, bs, sk, fr⟩, d, cs, q⟩ := k
  simp only at h hf
  subst h hf
  cases sk <;> simp [strayData, age, Receiver.aligned, framingError]

end Link

/-- A word with a code error inside a frame in RUN (R62, R66). -/
theorem codeErrorWord_during {s : State} {l : LinkId} {f : FrameInProgress} (hs : (s.link l).rx.state = .run)
    (hf : (s.link l).rx.frame = none ∨ (s.link l).rx.frame = some ⟨f.control, []⟩)
    (ho : controlKind f.control = .hbOpen ∨ (s.link l).rx.heartbeatOpen = true) (hw : f.wellFormed = true)
    {window : List Nat}
    (hwin : 0 :: ageWindow (f.words.length + if (s.link l).rx.frame = none then 2 else 1) (s.link l).rx.errorWindow =
      window) :
    ∃ t, exec (.codeErrorWord l (some f)) s = .next t ∧
      (t.link l).counters.codeErrors = satAdd cap32 (s.link l).counters.codeErrors 1 ∧
      (t.link l).counters.framingErrors = satAdd cap32 (s.link l).counters.framingErrors 1 ∧
      (window.length < 4 → t = s.mapLink l fun k =>
        { k with
          rx := { k.rx with
            skipping := true, frame := none, burstsSinceOpen := (s.link l).burstsWith f
            errorWindow := window, signalTimer := 0 }
          counters := { k.counters with
            framingErrors := satAdd cap32 (s.link l).counters.framingErrors 1
            codeErrors := satAdd cap32 k.counters.codeErrors 1 } }) ∧
      (4 ≤ window.length →
        (t.link l).rx.state = .search ∧ (t.link l).rx.skipping = false ∧ (t.link l).rx.errorWindow = window) := by
  have hstruck := Link.struck_during (f := f) hs
  rw [hwin] at hstruck
  have hcode : ((s.link l).receive f).codeError = _ :=
    (congrArg Link.codeError (Link.receive_eq_during hs hf ho hw)).trans (Link.codeError_during hs)
  rw [hstruck] at hcode
  refine ⟨s.mapLink l fun k => (k.receive f).codeError, rfl, ?_⟩
  by_cases hlen : 4 ≤ window.length
  · rw [if_pos hlen, Link.loseAlignment_eq] at hcode
    rw [State.link_mapLink, hcode]
    exact ⟨rfl, rfl, fun h => absurd hlen (by omega), fun _ => ⟨rfl, rfl, rfl⟩⟩
  · rw [if_neg hlen] at hcode
    rw [State.link_mapLink, hcode]
    refine ⟨rfl, rfl, fun _ => State.mapLink_congr (hcode.trans rfl), fun h => absurd h hlen⟩

/-- Settles O21: a frame in progress is `Link.during`, whether its control word has just begun it or a cut did before. -/
theorem framingErrors : Obligations.FramingErrors := by
  refine ⟨?between, ?begun, fun k c => ⟨fun hc => Link.beginFrame_train hc k, Link.beginFrame_opens, Link.beginFrame_burst,
    Link.beginFrame_refused⟩⟩
  case between =>
    intro s l hs hf counted
    have taken : ∀ {g g' : Link → Link}, g (s.link l) = g' (s.link l) →
        (.next (s.mapLink l g) : Host.Outcome State Fault Refusal) = .next (s.mapLink l g') :=
      fun hg => by rw [State.mapLink_congr hg]
    refine ⟨?_, fun w => ?_, fun c hc => ?_, fun f ho => ?_⟩
    · exact taken ((Link.control_between_frames hs hf _).trans (Link.beginFrame_train controlKind_train _))
    · refine taken ((Link.strayData_between_frames hs hf).trans ?_)
      rfl
    · refine taken ((Link.control_between_frames hs hf c).trans ?_)
      refine (Link.beginFrame_refused (k := { s.link l with rx := { (s.link l).rx with
        errorWindow := ageWindow 1 (s.link l).rx.errorWindow, signalTimer := 0 } }) hc).trans ?_
      simp only [hf]
      rfl
    · intro bursts
      have hb : (s.link l).burstsWith f = bursts := by
        simp only [Link.burstsWith, hf, if_true, bursts] <;> rfl
      have hcut := fun hsample => Link.cutFrame_during (f := f) hs hsample
      simp only [hf, if_true, hb] at hcut
      refine ⟨fun hw hsample => ⟨fun next => ⟨_, taken (Link.framingEvent_cut hs (.inl hf) ho hw next), ?_⟩, ?_⟩,
        fun hw => ?_, fun hw => ?_⟩
      · rw [hcut hsample]
        exact ⟨rfl, rfl, rfl, rfl⟩
      · refine taken ((Link.framingEvent_cut hs (.inl hf) ho hw _).trans ?_)
        rw [Link.beginFrame_train controlKind_train, hcut hsample]
      · refine taken ((Link.framingEvent_badBurst hs (.inl hf) ho hw).trans ?_)
        simp only [hf, if_true, hb]
        rfl
      · rw [← hb]
        exact codeErrorWord_during hs (.inl hf) ho hw (by rw [if_pos hf])
  case begun =>
    intro s l f hs hf ho counted
    have taken : ∀ {g g' : Link → Link}, g (s.link l) = g' (s.link l) →
        (.next (s.mapLink l g) : Host.Outcome State Fault Refusal) = .next (s.mapLink l g') :=
      fun hg => by rw [State.mapLink_congr hg]
    have hne : ¬ (s.link l).rx.frame = none := by simp [hf]
    have hb : (s.link l).burstsWith f = (s.link l).rx.burstsSinceOpen := by
      simp only [Link.burstsWith, if_neg hne]
      split <;> rfl
    refine ⟨fun hw hsample next => ⟨_, taken (Link.framingEvent_cut hs (.inr hf) ho hw next), ?_⟩,
      fun hw => ?_, fun hw => ?_⟩
    · rw [Link.cutFrame_during (f := f) hs hsample]
      simp only [if_neg hne, hb]
      simp [counted]
    · refine taken ((Link.framingEvent_badBurst hs (.inr hf) ho hw).trans ?_)
      simp only [if_neg hne, hb]
      rfl
    · intro window
      have := codeErrorWord_during hs (.inr hf) ho hw (window := window) (by rw [if_neg hne])
      rw [hb] at this
      exact this

end Sys2Proof.Machine
end

section
/-! The moves of ring, cell pool, settings and record, apart from all that leaves these alone: the frame that the invariants
of these parts (O6 to O11) are proved in. -/

namespace Sys2Proof.Machine

open Sys2Proof Sys2Proof.Safety

/-! ### What spares ring, pool, settings and record -/

/-- From `s` to `t` ring, cell pool, settings and record stay, but for intake states and arbiter's pointer, and but for a pause
of the emitter. -/
structure State.Spares (s t : State) : Prop where
  ring : t.ring = { s.ring with intake := t.ring.intake, arbiter := t.ring.arbiter }
  freeCells : t.freeCells = s.freeCells
  settings : t.settings = s.settings
  emitter : t.emitter = { s.emitter with state := t.emitter.state }
  idle : t.emitter.state = .idle ↔ s.emitter.state = .idle
  tx : t.uplink.tx = s.uplink.tx

namespace State.Spares

theorem refl (s : State) : s.Spares s := ⟨rfl, rfl, rfl, rfl, Iff.rfl, rfl⟩

variable {s t u : State}

theorem trans (h : s.Spares t) (h' : t.Spares u) : s.Spares u where
  ring := by rw [h'.ring, h.ring]
  freeCells := h'.freeCells.trans h.freeCells
  settings := h'.settings.trans h.settings
  emitter := by rw [h'.emitter, h.emitter]
  idle := h'.idle.trans h.idle
  tx := h'.tx.trans h.tx

/-- Where these parts are the same. -/
theorem of_eq (hr : t.ring = s.ring) (hf : t.freeCells = s.freeCells) (hs : t.settings = s.settings)
    (he : t.emitter = s.emitter) (hx : t.uplink.tx = s.uplink.tx) : s.Spares t :=
  ⟨by rw [hr], hf, hs, by rw [he], by rw [he], hx⟩

theorem mapLinks (f : LinkId → Link → Link) (s : State) : s.Spares (s.mapLinks f) :=
  of_eq (s.mapLinks_ring f) (s.mapLinks_freeCells f) (s.mapLinks_settings f) (s.mapLinks_emitter f)
    (congrArg Uplink.tx (s.mapLinks_uplink f))

theorem of_lane (h : s.ChangesLane t) : s.Spares t :=
  ⟨by rw [h.ring], h.freeCells, h.settings, h.emitter, h.idle, by rw [h.uplink]⟩

theorem slots (h : s.Spares t) : t.ring.slots = s.ring.slots := by rw [h.ring]

theorem slot (h : s.Spares t) (i : SlotId) : t.slot i = s.slot i := by simp only [State.slot, h.slots]

theorem cursor (h : s.Spares t) : t.ring.cursor = s.ring.cursor := by rw [h.ring]

theorem cursorSlot (h : s.Spares t) : t.ring.cursorSlot = s.ring.cursorSlot := by rw [h.ring]

theorem newest (h : s.Spares t) : t.ring.newest = s.ring.newest := by rw [h.ring]

theorem emitterSlot (h : s.Spares t) : t.emitter.slot = s.emitter.slot := by rw [h.emitter]

theorem next (h : s.Spares t) : t.emitter.next = s.emitter.next := by rw [h.emitter]

theorem row (h : s.Spares t) : t.emitter.row = s.emitter.row := by rw [h.emitter]

theorem stopping (h : s.Spares t) : t.emitter.stopping = s.emitter.stopping := by rw [h.emitter]

theorem slotAt (h : s.Spares t) (j : Fin 8) : t.slotAt j = s.slotAt j := by simp only [State.slotAt, h.cursorSlot]

/-- The start of a taking (R13). -/
theorem beginTaking {l : LinkId} {it : Item} (h : s.beginTaking = some (l, it, t)) : s.Spares t := by
  obtain ⟨hr, hf, -, hs, he, hu, -⟩ := State.beginTaking_frame h
  exact ⟨by rw [hr], hf, hs, by rw [he], by rw [he], by rw [hu]⟩

theorem mapGlobals (f : GlobalCounters → GlobalCounters) (s : State) : s.Spares (s.mapGlobals f) :=
  .of_eq rfl rfl rfl rfl rfl

theorem handover (s : State) : s.Spares s.handover := by
  obtain ⟨r, -, -, h⟩ | ⟨-, h⟩ := s.handover_cases <;> rw [h]
  · exact .of_eq rfl rfl rfl rfl rfl
  · exact refl s

theorem formReply (q : Request) (a : Answer) (s : State) : s.Spares (s.formReply q a) :=
  .of_eq rfl rfl rfl rfl rfl

end State.Spares

/-! ### The moves of the core -/

/-- What one command can do to ring, cell pool, settings and record. -/
inductive CoreMove (s : State) : State → Prop where
  | takeOpen (l : LinkId) (x : Heartbeat) (hs : s.emitter.stopping = none) : CoreMove s (s.takeOpen l x)
  | takeBurst (l : LinkId) (b : Burst) : CoreMove s (s.takeBurstItem l b)
  | takeClose (l : LinkId) (c : Close) : CoreMove s (s.takeClose l c)
  | takeLoss (l : LinkId) : CoreMove s (s.takeLossItem l)
  | takeDown (l : LinkId) (reason : DownReason) : CoreMove s (s.takeDownItem l reason)
  | timebase :
    CoreMove s { s with ring := { s.ring with slots := Vector.ofFn fun i : SlotId => s.ring.slots[i].countDown } }
  | expiry (i : SlotId) (hf : (s.slot i).state = .filling) : CoreMove s (s.giveUp i).settle
  | epochMarkSent (i : SlotId) (f : UplinkFrame) (h : s.sending .epochMark = some (i, f)) :
    CoreMove s (s.afterEpochMark i).recordBoundary
  | headSent (i : SlotId) (f : UplinkFrame) (h : s.sending .head = some (i, f)) :
    CoreMove s (s.afterHead i).recordBoundary
  | rowSent (i : SlotId) (f : UplinkFrame) (h : s.sending .row = some (i, f)) :
    CoreMove s (s.afterRow i f).recordBoundary
  | tailSent (i : SlotId) (f : UplinkFrame) (first : Bool) (h : s.sending .tail = some (i, f)) :
    CoreMove s (s.afterTail first i)
  /-- The boundary after a TRAIN word or a REPLY. -/
  | boundary : CoreMove s s.transmitTrain.boundary
  | writeSettings (c : Settings) (hc : s.settings.commit = none) :
    CoreMove s { s with settings := { s.settings with staging := c.limited } }
  | commitNow (hf : s.settings.staging.firstFault = none) (hr : s.ring.cursor = none) (hc : s.settings.commit = none) :
    CoreMove s s.commitNow.1
  | commitPending (fc : Heartbeat) (hf : s.settings.staging.firstFault = none) (hr : s.ring.cursor = some fc)
    (hc : s.settings.commit = none) : CoreMove s (s.commitPendingFrom fc).1
  | forceClose (i : SlotId) (hi : s.oldestFilling = some i) :
    CoreMove s ((s.giveUp i).mapSlot i fun t => { t with flags := { t.flags with forced := true } }).settle
  | setStopping (k : RestartKind) : CoreMove s (s.setStopping k)
  | restart {t : State} (hr : t.ring = .reset) (hc : t.freeCells = refilled) (hs : t.settings = s.applyCommit.settings)
    (he : t.emitter = .reset) (htx : t.uplink.tx = .train ∨ ∃ f, t.uplink.tx = .frame f ∧ f.kind = .reply) : CoreMove s t
  | pinReset : CoreMove s State.reset

/-- A core move, between two changes that spare the core. -/
def CoreStep (s t : State) : Prop := s.Spares t ∨ ∃ s' u, s.Spares s' ∧ CoreMove s' u ∧ u.Spares t

theorem CoreStep.of_core {s t : State} (h : CoreMove s t) : CoreStep s t := .inr ⟨s, t, .refl s, h, .refl t⟩

/-! ### Every command is a core step -/

/-- An IDLE emitter leaves the choice at a boundary to REPLY and TRAIN words. -/
theorem State.boundary_of_idle {s : State} (h : s.emitter.state = .idle) :
    s.boundary.emitter = s.emitter ∧
      (s.boundary.uplink.tx = .train ∨ ∃ f, s.boundary.uplink.tx = .frame f ∧ f.kind = .reply) := by
  have hp : s.pauseAtBoundary = s := by simp [State.pauseAtBoundary, h]
  have ho : s.offered = none := by simp [State.offered, h]
  unfold State.boundary
  rw [hp]
  unfold State.arbitrate
  rw [ho]
  split
  · exact ⟨rfl, .inl rfl⟩
  · split
    · exact ⟨rfl, .inr ⟨_, rfl, rfl⟩⟩
    · exact ⟨rfl, .inl rfl⟩

/-- Where a restart takes effect, the choice that was due is made over an IDLE emitter. -/
theorem State.resumeUplink_of_idle {s : State} (h : s.emitter.state = .idle) (hb : s.atFrameBoundary = true) :
    s.resumeUplink.emitter = s.emitter ∧
      (s.resumeUplink.uplink.tx = .train ∨ ∃ f, s.resumeUplink.uplink.tx = .frame f ∧ f.kind = .reply) := by
  obtain ⟨-, e⟩ | ⟨ht, e⟩ := s.resumeUplink_cases <;> rw [e]
  · exact State.boundary_of_idle h
  · refine ⟨rfl, ?_⟩
    unfold State.atFrameBoundary at hb
    cases htx : s.uplink.tx with
    | train => exact .inl rfl
    | boundary => exact absurd htx ht
    | frame f => exact .inr ⟨f, rfl, by simpa [htx] using hb⟩

theorem State.atFrameBoundary_congr {s t : State} (h : t.uplink.tx = s.uplink.tx) :
    t.atFrameBoundary = s.atFrameBoundary := by
  simp only [State.atFrameBoundary, h]

theorem State.restartCore_settings (s : State) : s.restartCore.settings = s.applyCommit.settings := rfl

/-- A restart, with the choice that was due. -/
theorem coreMove_resumed {s v : State} (hb : s.atFrameBoundary = true) (hr : v.ring = .reset) (hf : v.freeCells = refilled)
    (hs : v.settings = s.applyCommit.settings) (he : v.emitter = .reset) (hu : v.uplink.tx = s.uplink.tx) :
    CoreMove s v.resumeUplink := by
  obtain ⟨he', htx⟩ := State.resumeUplink_of_idle (s := v) (by simp [he, Emitter.reset])
    ((State.atFrameBoundary_congr hu).trans hb)
  exact .restart (by simp [hr]) (by simp [hf]) (by simp [hs]) (he'.trans he) htx

theorem coreMove_runRestart {s : State} (hb : s.atFrameBoundary = true) : CoreMove s s.runRestart := by
  obtain ⟨-, hr, hf, he, hu, -⟩ := s.restartCore_frame
  exact coreMove_resumed hb (by simp [hr]) (by simp [hf]) (by simp [State.restartCore_settings]) (by simp [he]) (by simp [hu])

theorem coreMove_softReset {s : State} (hb : s.atFrameBoundary = true) : CoreMove s s.softReset := by
  obtain ⟨-, hr, hf, he, hu, -⟩ := s.restartCore_frame
  have hs := s.restartCore_settings
  unfold State.softReset
  generalize s.restartCore = r at hr hf he hu hs
  exact coreMove_resumed hb (by simp [hr]) (by simp [hf]) (by simp [hs]) (by simp [he]) (by simp [hu])

/-- The end of a TRAIN word or a REPLY: what spares the core, then the boundary. -/
theorem coreStep_boundary {s v : State} (h : s.Spares v) : CoreStep s v.transmitTrain.boundary :=
  .inr ⟨v, _, h, .boundary, .refl _⟩

theorem RequestAct.coreStep {q : Request} {s t : State} (h : RequestAct q s t) : CoreStep s t := by
  cases h with
  | nothing => exact .inl (.refl s)
  | writeSettings hc => exact .of_core (.writeSettings _ hc)
  | writePad | copyBank | reject | clearCause | drawFree | hold | release =>
    exact .inl (.of_eq rfl rfl rfl rfl rfl)
  | clearDelta => exact .inl (.mapLinks _ s)
  | clearCounters =>
    unfold State.clearCounters
    exact .inl ((State.Spares.mapLinks _ s).trans (.mapGlobals _ _))
  | setLive =>
    unfold setLiveAct
    exact .inl (.of_eq (by simp) (by simp) (by simp) (by simp) (by simp))
  | commitNow hf hr hc => exact .of_core (.commitNow hf hr hc)
  | commitPending fc hf hr hc hp => exact .of_core (.commitPending fc hf hr hc)
  | forceClose i hi => exact .of_core (.forceClose i hi)
  | setStopping k => exact .of_core (.setStopping k)
  | softReset => exact .inr ⟨s, _, .refl s, .setStopping .soft, .of_eq rfl rfl rfl rfl rfl⟩

/-- Every move is a core step. -/
theorem Move.coreStep {s t : State} (h : Move s t) : CoreStep s t := by
  have taking {l : LinkId} {it : Item} {s' t : State} (hb : s.beginTaking = some (l, it, s')) (h : CoreMove s' t) :
      CoreStep s t := .inr ⟨s', t, .beginTaking hb, h, .refl t⟩
  cases h with
  | nothing => exact .inl (.refl s)
  | link l k _ => exact .inl (.of_eq rfl rfl rfl rfl rfl)
  | takeOpen l x _ s' hb =>
    refine taking hb (.takeOpen l x ?_)
    obtain ⟨-, -, -, -, he, -, -, -, -, -, hstop⟩ := State.beginTaking_frame hb
    rw [he, hstop]
  | takeBurst l b s' hb => exact taking hb (.takeBurst l b)
  | takeClose l c s' hb => exact taking hb (.takeClose l c)
  | takeLoss l s' hb => exact taking hb (.takeLoss l)
  | takeDown l reason s' hb => exact taking hb (.takeDown l reason)
  | timebase => exact .of_core .timebase
  | expiry i hf hd => exact .of_core (.expiry i hf)
  | epochMarkSent i f h => exact .of_core (.epochMarkSent i f h)
  | headSent i f h => exact .of_core (.headSent i f h)
  | rowSent i f h => exact .of_core (.rowSent i f h)
  | tailSent i f first h => exact .of_core (.tailSent i f first h)
  | replySent f h hk => exact coreStep_boundary (.refl s)
  | replySentHandover f h hk =>
    obtain ⟨r, -, -, e⟩ | ⟨-, e⟩ := s.transmitTrain.handover_cases <;> rw [e]
    · exact coreStep_boundary (v := { s with
        control := { s.control with holder := none }, uplink := { s.uplink with port := some r } })
        (.of_eq rfl rfl rfl rfl rfl)
    · exact coreStep_boundary (.refl s)
  | trainWordSent h =>
    have e : ({ s with uplink := { s.uplink with opening := s.uplink.opening - 1 } } : State) =
        ({ s with uplink := { s.uplink with opening := s.uplink.opening - 1 } } : State).transmitTrain := by
      simp [State.transmitTrain, h]
    rw [e]
    exact coreStep_boundary (.of_eq rfl rfl rfl rfl rfl)
  | handover => exact .inl (.handover s)
  | laneAlignment pos _ => exact .inl (.of_lane (.mapLane ..))
  | laneWord w => exact .inl (.of_lane (.laneWord w s))
  | laneCodeError f => exact .inl (.of_lane ((State.ChangesLane.inRequest f s).trans (.laneCodeError _)))
  | laneSignalLoss f => exact .inl (.of_lane ((State.ChangesLane.inRequest f s).trans (.laneSignalLoss _)))
  | requestFrame ws => exact .inl (.of_lane (.requestWordsArrive ws s))
  | requestCut ws c => exact .inl (.of_lane ((State.ChangesLane.requestWordsArrive ws s).trans (.laneControl c _)))
  | request q rest t a _ _ _ h =>
    have pop : s.Spares { s with control := { s.control with queue := rest } } := .of_eq rfl rfl rfl rfl rfl
    obtain hq | ⟨s', u, h1, h2, h3⟩ := h.coreStep
    · exact .inl ((pop.trans hq).trans (.formReply q a t))
    · exact .inr ⟨s', u, pop.trans h1, h2, h3.trans (.formReply q a t)⟩
  | copyEntry | copyDone => exact .inl (.of_eq rfl rfl rfl rfl rfl)
  | pinReset => exact .inr ⟨s, State.reset, .refl s, .pinReset, .of_eq rfl rfl rfl rfl rfl⟩
  | runRestart _ hb => exact .of_core (coreMove_runRestart hb)
  | softReset _ hb => exact .of_core (coreMove_softReset hb)

theorem coreStep_of_step {s t : State} (h : step s = .next t) : CoreStep s t := by
  unfold step at h
  split at h
  · obtain rfl := Host.Outcome.next.inj h
    exact .inl (.refl s)
  · next c rest _ =>
    have dequeue : s.Spares { s with pending := rest } := .of_eq rfl rfl rfl rfl rfl
    obtain hq | ⟨s', u, h1, h2, h3⟩ := (exec_move h).coreStep
    · exact .inl (dequeue.trans hq)
    · exact .inr ⟨s', u, dequeue.trans h1, h2, h3⟩

/-- What reads the core alone and is kept by the core moves is kept by every step. -/
theorem keptByStep_of_core {P : State → Prop} (hspare : ∀ s t, s.Spares t → P s → P t)
    (hcore : ∀ s t, CoreMove s t → P s → P t) : KeptByStep P := by
  intro s t hs h
  obtain h | ⟨s', u, h1, h2, h3⟩ := coreStep_of_step h
  · exact hspare s t h hs
  · exact hspare u t h3 (hcore s' u h2 (hspare s s' h1 hs))

end Sys2Proof.Machine
end

section
/-! The settings copies stay in range and in force (R133, R134, R138): O6. -/

namespace Sys2Proof.Machine

open Sys2Proof Sys2Proof.Safety

/-! ### Limited records are in range (R133, R135) -/

theorem limit_range {lo hi : Nat} (h : lo ≤ hi) (v : Nat) : lo ≤ limit lo hi v ∧ limit lo hi v ≤ hi := by
  simp only [limit]
  omega

theorem curveInRange_limited (v : Curve) : CurveInRange v.limited := by
  obtain ⟨h1, h1'⟩ := limit_range (lo := 1) (hi := 3) (by omega) v.segments
  obtain ⟨h2, h2'⟩ := limit_range (lo := 1) (hi := 1022) (by omega) v.knee1
  obtain ⟨h3, h3'⟩ := limit_range (lo := 1) (hi := 1022) (by omega) v.knee2
  obtain ⟨h4, h4'⟩ := limit_range (lo := 1) (hi := 4) (by omega) v.shift2
  obtain ⟨h5, h5'⟩ := limit_range (lo := 1) (hi := 4) (by omega) v.shift3
  exact ⟨h1, h1', h2, h2', h3, h3', h4, h4', h5, h5'⟩

theorem inRange_limited (c : Settings) : InRange c.limited where
  span := Nat.min_le_left ..
  margin := Nat.min_le_left ..
  baseline := by simp only [Settings.limited]; omega
  pre := Nat.min_le_left ..
  post := Nat.min_le_left ..
  mergeGap := Nat.min_le_left ..
  curveA := curveInRange_limited _
  curveB := curveInRange_limited _
  windows j := by simp [Settings.limited, Window.limited]
  rowTotal := Nat.min_le_left ..

theorem inForce_default : InForce Settings.default := by
  refine ⟨⟨by decide, by decide, by decide, by decide, by decide, by decide, ?_, ?_, by decide, by decide⟩, by decide⟩ <;>
    · unfold CurveInRange; decide

/-! ### A commit that becomes pending (R141) -/

/-- The commit state of a commit that becomes pending with the cursor at `fc`. -/
def State.newCommit (s : State) (fc : Heartbeat) : PendingCommit where
  switchHeartbeat := switchAfter (s.ring.newest.getD (fc - 1)) s.settings.active.span s.settings.staging.span
  oldSpan := s.settings.active.span
  oldEpoch := s.settings.epoch
  outgoing := s.settings.active

/-- Staging in force with the commit pending, before any slot is cut. -/
def State.withCommit (s : State) (fc : Heartbeat) : State :=
  { s.bringIntoForce with settings := { s.bringIntoForce.settings with commit := some (s.newCommit fc) } }

/-- The commit becomes pending, cuts the last old slice, and is released at once where it stands at the cursor. -/
theorem State.commitPendingFrom_fst (s : State) (fc : Heartbeat) :
    (s.commitPendingFrom fc).1 = (((s.withCommit fc).cutLastOld (s.newCommit fc) fc).releaseCommit).settle := by
  simp only [State.commitPendingFrom, State.withCommit, State.newCommit]

end Sys2Proof.Machine

/-! ### What keeps the copies legal -/

namespace Sys2Proof.Safety.SettingsLegal

open Sys2Proof Sys2Proof.Machine

variable {s t : State}

theorem congr (h : SettingsLegal s) (e : t.settings = s.settings) : SettingsLegal t where
  staging := e ▸ h.staging
  active := e ▸ h.active
  outgoing := by rw [e]; exact h.outgoing

/-- The end of a commit, by release or restart (R145, R146). -/
theorem endCommit (h : SettingsLegal s) : SettingsLegal s.endCommit where
  staging := h.active.1
  active := h.active
  outgoing := by simp [State.endCommit]

theorem releaseCommit (h : SettingsLegal s) : SettingsLegal s.releaseCommit := by
  obtain ⟨c, -, -, e⟩ | ⟨-, e⟩ := s.releaseCommit_cases <;> rw [e]
  · exact h.endCommit.congr rfl
  · exact h

theorem applyCommit (h : SettingsLegal s) : SettingsLegal s.applyCommit := by
  unfold State.applyCommit
  split
  · exact h.endCommit
  · exact h

theorem releaseSlot (h : SettingsLegal s) (i : SlotId) : SettingsLegal (s.releaseSlot i) := by
  have h' : SettingsLegal ((s.emptySlot i).advanceCursor (s.slot i)) := h.congr (by simp)
  exact h'.releaseCommit.congr rfl

theorem afterTail (h : SettingsLegal s) (first : Bool) (i : SlotId) : SettingsLegal (s.afterTail first i) := by
  have hr : SettingsLegal (s.countEmitted.releaseSlot i) := (h.congr (t := s.countEmitted) (by simp)).releaseSlot i
  obtain ⟨-, e⟩ | ⟨-, -, e⟩ | ⟨-, -, e⟩ := s.afterTail_cases first i <;> rw [e]
  · exact h.congr rfl
  · exact hr.congr (by simp)
  · exact hr.congr (by simp)

/-- Staging, in range and without a fault, comes into force (R140, R141). -/
theorem bringIntoForce (h : SettingsLegal s) (hf : s.settings.staging.firstFault = none)
    (hc : s.settings.commit = none) : SettingsLegal s.bringIntoForce where
  staging := h.staging
  active := ⟨h.staging, hf⟩
  outgoing := by simp [State.bringIntoForce, hc]

theorem commitPendingFrom (h : SettingsLegal s) (hf : s.settings.staging.firstFault = none) (fc : Heartbeat) :
    SettingsLegal (s.commitPendingFrom fc).1 := by
  rw [State.commitPendingFrom_fst]
  have hv : SettingsLegal (s.withCommit fc) := by
    refine ⟨h.staging, ⟨h.staging, hf⟩, fun c hc => ?_⟩
    obtain rfl := Option.some.inj hc
    exact ⟨h.active, rfl, rfl, rfl⟩
  exact ((hv.congr (State.ChangesSlots.cutLastOld ..).settings).releaseCommit).congr (State.settle_frame _).2.2.2.1

theorem reset : SettingsLegal State.reset where
  staging := inForce_default.1
  active := inForce_default
  outgoing := by simp [State.reset, SettingsUnit.reset]

end Sys2Proof.Safety.SettingsLegal

namespace Sys2Proof.Machine

open Sys2Proof Sys2Proof.Safety

/-- What the core moves do to the settings. -/
theorem CoreMove.settingsLegal {s t : State} (h : CoreMove s t) (hs : SettingsLegal s) : SettingsLegal t := by
  cases h with
  | takeOpen l x _ => exact hs.congr (State.Takes.takeOpen l x s).settings
  | takeBurst l b => exact hs.congr (State.Takes.takeBurstItem l b s).settings
  | takeClose l c => exact hs.congr (State.Takes.takeClose l c s).settings
  | takeLoss l => exact hs.congr (State.Takes.takeLossItem l s).settings
  | takeDown l reason => exact hs.congr (State.Takes.takeDownItem l reason s).settings
  | timebase => exact hs.congr rfl
  | expiry i _ => exact hs.congr (by simp)
  | epochMarkSent i f _ => exact hs.congr (by simp [State.afterEpochMark])
  | headSent i f _ => exact hs.congr (by simp [State.afterHead])
  | rowSent i f _ =>
    obtain ⟨e, -, ⟨-, h⟩ | ⟨-, h⟩⟩ := s.afterRow_cases i f <;> exact hs.congr (by rw [h]; simp)
  | tailSent i f first _ => exact hs.afterTail first i
  | boundary => exact hs.congr (by simp)
  | writeSettings c hc =>
    exact ⟨inRange_limited c, hs.active, fun c' hc' => by simp [hc] at hc'⟩
  | commitNow hf hr hc => exact (hs.bringIntoForce hf hc).congr rfl
  | commitPending fc hf hr hc => exact hs.commitPendingFrom hf fc
  | forceClose i _ => exact hs.congr (by simp)
  | setStopping k => exact hs.congr rfl
  | restart hr hc he _ _ => exact hs.applyCommit.congr he
  | pinReset => exact SettingsLegal.reset

/-- Settles O6: only a write, a commit and the end of one touch the copies. -/
theorem settingsStayLegal : Obligations.SettingsStayLegal :=
  keptByStep_of_core (fun _ _ h hs => hs.congr h.settings) fun _ _ h hs => h.settingsLegal hs

end Sys2Proof.Machine
end

section
/-! What the operations at the slots do to each slot: examination and settling by an equation, opening by an equation, and the
frames of those that write link records and of those that file pulses. -/

namespace Sys2Proof.Machine

open Sys2Proof Sys2Proof.Safety

/-! ### Examination and settling (R28, R114) -/

/-- Some link of the slot is PENDING. -/
theorem Slot.hasPending_iff (t : Slot) : t.hasPending = true ↔ ∃ l : LinkId, t.links[l].verdict = .pending := by
  simp only [Slot.hasPending, List.any_eq_true, decide_eq_true_eq]
  constructor
  · rintro ⟨r, hr, hv⟩
    obtain ⟨l, hl, rfl⟩ := List.getElem_of_mem hr
    exact ⟨⟨l, by simpa using hl⟩, by simpa using hv⟩
  · rintro ⟨l, hv⟩
    exact ⟨t.links[l], by simp, hv⟩

theorem Slot.hasPending_eq_false (t : Slot) : t.hasPending = false ↔ ∀ l : LinkId, t.links[l].verdict ≠ .pending := by
  rw [← Bool.not_eq_true, t.hasPending_iff]
  push Not
  rfl

/-- The slot after its examination for completion. -/
def Slot.examined (t : Slot) : Slot :=
  if t.state = .filling ∧ t.hasPending = false then { t with state := .complete, deadline := none } else t

theorem Slot.examined_of_ne {t : Slot} (h : t.state ≠ .filling) : t.examined = t := by simp [Slot.examined, h]

theorem Slot.examined_of_pending {t : Slot} (h : t.hasPending = true) : t.examined = t := by simp [Slot.examined, h]

theorem Slot.examined_of_done {t : Slot} (h : t.state = .filling) (hp : t.hasPending = false) :
    t.examined = { t with state := .complete, deadline := none } := by simp [Slot.examined, h, hp]

/-- An examination changes state and deadline alone. -/
@[simp] theorem Slot.examined_frame (t : Slot) :
    t.examined.first = t.first ∧ t.examined.span = t.span ∧ t.examined.margin = t.margin ∧
    t.examined.epoch = t.epoch ∧ t.examined.flags = t.flags ∧ t.examined.links = t.links ∧
    t.examined.rows = t.rows ∧ t.examined.totals = t.totals := by
  unfold Slot.examined
  split <;> simp

@[simp] theorem Slot.examined_hasPending (t : Slot) : t.examined.hasPending = t.hasPending := by
  simp [Slot.hasPending]

theorem Slot.examined_state_free (t : Slot) : t.examined.state = .free ↔ t.state = .free := by
  unfold Slot.examined
  split
  · next h => simp [h.1]
  · rfl

theorem Slot.examined_state_emitting (t : Slot) : t.examined.state = .emitting ↔ t.state = .emitting := by
  unfold Slot.examined
  split
  · next h => simp [h.1]
  · rfl

@[simp] theorem Slot.examined_examined (t : Slot) : t.examined.examined = t.examined := by
  by_cases h : t.state = .filling ∧ t.hasPending = false
  · exact Slot.examined_of_ne (by simp [Slot.examined, h])
  · have : t.examined = t := by simp only [Slot.examined, h, if_false]
    rw [this, this]

namespace State

@[simp] theorem slot_examine_self (i : SlotId) (s : State) : (s.examine i).slot i = (s.slot i).examined := by
  obtain ⟨hf, hp, e⟩ | ⟨h, e⟩ := s.examine_cases i <;> rw [e]
  · rw [State.slot_completeSlot, Slot.examined_of_done hf hp]
  · obtain h | h := h
    · rw [Slot.examined_of_ne h]
    · rw [Slot.examined_of_pending h]

theorem slot_examine_ite (i i' : SlotId) (s : State) :
    (s.examine i).slot i' = if i' = i then (s.slot i').examined else s.slot i' := by
  split
  · next h => subst h; simp
  · next h => exact State.slot_examine_ne h s

/-- Examinations of some slots examine these. -/
theorem slot_foldl_examine (is : List SlotId) (i : SlotId) (s : State) :
    (is.foldl (fun s i => s.examine i) s).slot i = if i ∈ is then (s.slot i).examined else s.slot i := by
  induction is generalizing s with
  | nil => rfl
  | cons a is ih =>
    rw [List.foldl_cons, ih, slot_examine_ite]
    by_cases h : i = a
    · simp [h]
    · simp [h]

theorem slot_examineAll_eq (s : State) (i : SlotId) : s.examineAll.slot i = (s.slot i).examined := by
  rw [State.examineAll, slot_foldl_examine, if_pos (List.mem_finRange i)]

/-- The emitter takes the cursor slot as the event at the slots ends. -/
def takesNext (s : State) : Prop :=
  s.emitter.state = .idle ∧ s.emitter.stopping = none ∧ s.ring.cursor ≠ none ∧
    (s.slot s.ring.cursorSlot).examined.state = .complete

/-- The emitter as it takes the slot record `t` at the cursor. -/
def emitterAt (s : State) (t : Slot) : Emitter :=
  { s.emitter with
    state := if s.uplink.paused then .pausedInRecord else .record
    slot := some s.ring.cursorSlot
    next := some (if s.emitter.lastEpoch = some t.epoch then .head else .epochMark)
    row := (s.settings.settingsOf t.epoch).order.firstRow
    continuation := false, sections := 0, pulsesSent := 0, samplesSent := 0 }

/-- The emitter's taking, in its two cases (R114). -/
theorem emitterTakes_eq (s : State) :
    ((s.emitter.state = .idle ∧ s.emitter.stopping = none ∧ s.ring.cursor ≠ none ∧
        (s.slot s.ring.cursorSlot).state = .complete) →
      (∀ i, s.emitterTakes.slot i = if i = s.ring.cursorSlot then { s.slot i with state := .emitting } else s.slot i) ∧
      s.emitterTakes.emitter = s.emitterAt (s.slot s.ring.cursorSlot)) ∧
    (¬ (s.emitter.state = .idle ∧ s.emitter.stopping = none ∧ s.ring.cursor ≠ none ∧
        (s.slot s.ring.cursorSlot).state = .complete) → s.emitterTakes = s) := by
  obtain ⟨hi, hs, hc, hd, e⟩ | ⟨hn, e⟩ := s.emitterTakes_cases
  · refine ⟨fun _ => ⟨fun i => ?_, by rw [e]; rfl⟩, fun h => absurd ⟨hi, hs, hc, hd⟩ h⟩
    rw [e]
    refine (State.slot_mapSlot_ite s.ring.cursorSlot i (fun t => { t with state := .emitting }) s).trans ?_
    split
    · next h => rw [h]
    · rfl
  · exact ⟨fun h => absurd h hn, fun _ => e⟩

theorem takesNext_iff (s : State) :
    s.takesNext ↔ s.examineAll.emitter.state = .idle ∧ s.examineAll.emitter.stopping = none ∧
      s.examineAll.ring.cursor ≠ none ∧ (s.examineAll.slot s.examineAll.ring.cursorSlot).state = .complete := by
  obtain ⟨-, -, -, -, he, -, -, -, -, hcur, hcs, -⟩ := s.examineAll_frame
  rw [takesNext, he, hcur, hcs, slot_examineAll_eq]

/-- A settling with a taking. -/
theorem settle_of_takes {s : State} (h : s.takesNext) :
    (∀ i, s.settle.slot i =
      if i = s.ring.cursorSlot then { (s.slot i).examined with state := .emitting } else (s.slot i).examined) ∧
    s.settle.emitter = s.emitterAt (s.slot s.ring.cursorSlot) := by
  obtain ⟨-, -, -, hset, he, hu, -, -, -, -, hcs, -⟩ := s.examineAll_frame
  obtain ⟨hslot, hemit⟩ := s.examineAll.emitterTakes_eq.1 (s.takesNext_iff.mp h)
  refine ⟨fun i => ?_, ?_⟩
  · rw [State.settle, hslot, hcs, slot_examineAll_eq]
  · rw [State.settle, hemit, hcs, slot_examineAll_eq]
    simp [emitterAt, hset, he, hu, hcs]

/-- A settling without a taking. -/
theorem settle_of_not_takes {s : State} (h : ¬ s.takesNext) :
    (∀ i, s.settle.slot i = (s.slot i).examined) ∧ s.settle.emitter = s.emitter := by
  obtain ⟨-, -, -, -, he, -⟩ := s.examineAll_frame
  have e := s.examineAll.emitterTakes_eq.2 (fun h' => h (s.takesNext_iff.mpr h'))
  rw [State.settle, e]
  exact ⟨slot_examineAll_eq s, he⟩

/-! ### Opening (R10, R12) -/

theorem slot_openAt (starts : Bool) (s : State) (j : Fin 8) (i : SlotId) :
    (s.openAt starts j).slot i =
      if i = s.slotAt j ∧ (s.slot i).state = .free then (s.openedSlot j.val (starts && decide (j = 0))).examined
      else s.slot i := by
  unfold State.openAt
  by_cases hi : i = s.slotAt j
  · subst hi
    split
    · next h => simp [h]
    · next h => simp [h]
  · split
    · rw [State.slot_examine_ne hi, State.slot_mapSlot_ne hi, if_neg (by simp [hi])]
    · simp [hi]

/-- What opening at each offset of a list in turn does to the slot at offset `k`. -/
theorem slot_foldl_openAt (starts : Bool) (js : List (Fin 8)) (hjs : js.Nodup) (s : State) (k : Fin 8) :
    (js.foldl (State.openAt starts) s).slot (s.slotAt k) =
      if k ∈ js ∧ (s.slot (s.slotAt k)).state = .free then (s.openedSlot k.val (starts && decide (k = 0))).examined
      else s.slot (s.slotAt k) := by
  induction js generalizing s with
  | nil => simp
  | cons j js ih =>
    have hc := State.ChangesSlots.openAt starts s j
    obtain ⟨hj, hjs⟩ := List.nodup_cons.mp hjs
    have h := ih hjs (s.openAt starts j)
    rw [hc.slotAt, hc.openedSlot] at h
    rw [List.foldl_cons, h, slot_openAt]
    by_cases hk : k = j
    · subst hk
      simp [hj]
    · have hne : s.slotAt k ≠ s.slotAt j := fun e => hk (s.slotAt_injective e)
      simp [hk, hne]

/-- Fill-opening opens every FREE slot up to its offset, when the slot there is FREE, and no other (R12). -/
theorem slot_fillOpen (t : Fin 8) (starts : Bool) (s : State) (k : Fin 8) :
    (s.fillOpen t starts).slot (s.slotAt k) =
      if (s.slot (s.slotAt t)).state = .free ∧ k ≤ t ∧ (s.slot (s.slotAt k)).state = .free then
        (s.openedSlot k.val (starts && decide (k = 0))).examined
      else s.slot (s.slotAt k) := by
  unfold State.fillOpen
  split
  · next h =>
    rw [slot_foldl_openAt starts _ ((List.nodup_finRange 8).filter _)]
    simp [h]
  · next h => simp [h]

end State

/-! ### Operations that write link records alone -/

/-- From `s` to `t` slots change in link records alone, and pool, emitter and control unit not at all. -/
structure State.Judges (s t : State) : Prop where
  slots : ∀ i, t.slot i = { s.slot i with links := (t.slot i).links }
  freeCells : t.freeCells = s.freeCells
  emitter : t.emitter = s.emitter
  control : t.control = s.control

namespace State.Judges

variable {s t u : State}

theorem refl (s : State) : s.Judges s := ⟨fun _ => rfl, rfl, rfl, rfl⟩

theorem trans (h : s.Judges t) (h' : t.Judges u) : s.Judges u :=
  ⟨fun i => by rw [h'.slots i, h.slots i], h'.freeCells.trans h.freeCells, h'.emitter.trans h.emitter,
    h'.control.trans h.control⟩

theorem foldl {α : Type} {f : State → α → State} (hf : ∀ (s : State) a, s.Judges (f s a)) (as : List α) (s : State) :
    s.Judges (as.foldl f s) := by
  induction as generalizing s with
  | nil => exact refl s
  | cons a as ih => exact (hf s a).trans (ih (f s a))

theorem state (h : s.Judges t) (i : SlotId) : (t.slot i).state = (s.slot i).state := by rw [h.slots i]

theorem rows (h : s.Judges t) (i : SlotId) : (t.slot i).rows = (s.slot i).rows := by rw [h.slots i]

theorem totals (h : s.Judges t) (i : SlotId) : (t.slot i).totals = (s.slot i).totals := by rw [h.slots i]

theorem flags (h : s.Judges t) (i : SlotId) : (t.slot i).flags = (s.slot i).flags := by rw [h.slots i]

theorem margin (h : s.Judges t) (i : SlotId) : (t.slot i).margin = (s.slot i).margin := by rw [h.slots i]

theorem deadline (h : s.Judges t) (i : SlotId) : (t.slot i).deadline = (s.slot i).deadline := by rw [h.slots i]

theorem slice (h : s.Judges t) (i : SlotId) : (t.slot i).first = (s.slot i).first ∧ (t.slot i).span = (s.slot i).span ∧
    (t.slot i).epoch = (s.slot i).epoch := by rw [h.slots i]; exact ⟨rfl, rfl, rfl⟩

theorem mapSlot (i : SlotId) (f : Slot → Slot) (hf : ∀ t, f t = { t with links := (f t).links })
    (s : State) : s.Judges (s.mapSlot i f) := by
  refine ⟨fun i' => ?_, rfl, rfl, rfl⟩
  rw [State.slot_mapSlot_ite]
  split
  · next h => rw [h]; exact hf _
  · rfl

theorem mapRecord (i : SlotId) (l : LinkId) (f : LinkRecord → LinkRecord) (s : State) : s.Judges (s.mapRecord i l f) :=
  mapSlot i _ (fun _ => rfl) s

theorem of_eq (hr : t.ring.slots = s.ring.slots) (hf : t.freeCells = s.freeCells) (he : t.emitter = s.emitter)
    (hc : t.control = s.control) : s.Judges t := ⟨fun i => by simp only [State.slot, hr], hf, he, hc⟩

theorem countLate (l : LinkId) (s : State) : s.Judges (s.countLate l) := of_eq rfl rfl rfl rfl

theorem setIntake (l : LinkId) (i : Intake) (s : State) : s.Judges (s.setIntake l i) := of_eq rfl rfl rfl rfl

theorem updateNewest (x : Heartbeat) (s : State) : s.Judges (s.updateNewest x) := by
  unfold State.updateNewest
  split
  · exact refl s
  · exact of_eq rfl rfl rfl rfl

theorem setCursor (x : Heartbeat) (s : State) : s.Judges (s.setCursor x) := by
  unfold State.setCursor
  split
  · exact refl s
  · exact of_eq rfl rfl rfl rfl

theorem skipHeartbeat (l : LinkId) (s : State) (y : Heartbeat) : s.Judges (s.skipHeartbeat l y) := by
  unfold State.skipHeartbeat
  dsimp only
  split <;> split
  · exact (mapRecord ..).trans (mapRecord ..)
  · exact mapRecord ..
  · exact mapRecord ..
  · exact refl s

theorem startsLater (l : LinkId) (s : State) (j : Fin 8) : s.Judges (s.startsLater l j) := by
  unfold State.startsLater
  split
  · exact mapRecord ..
  · exact refl s

theorem firstHeartbeat (l : LinkId) (x : Heartbeat) (t : Fin 8) (s : State) : s.Judges (s.firstHeartbeat l x t) := by
  unfold State.firstHeartbeat
  split
  · exact (mapRecord ..).trans (foldl (startsLater l) _ _)
  · exact foldl (startsLater l) _ _

theorem continuity (l : LinkId) (x : Heartbeat) (t : Fin 8) (s : State) : s.Judges (s.continuity l x t) := by
  unfold State.continuity
  split
  · exact firstHeartbeat ..
  · exact foldl (skipHeartbeat l) _ _

theorem closeOwn (l : LinkId) (x : Heartbeat) (c : Close) (own : Option SlotId) (s : State) :
    s.Judges (s.closeOwn l x c own) := by
  cases own with
  | none => exact refl s
  | some i => exact mapSlot i _ (fun _ => rfl) s

theorem closeMargin (l : LinkId) (receiving : Option SlotId) (s : State) : s.Judges (s.closeMargin l receiving) := by
  cases receiving with
  | none => exact refl s
  | some i => exact mapRecord ..

theorem downAt (l : LinkId) (reason : DownReason) (s : State) (i : SlotId) : s.Judges (s.downAt l reason i) := by
  unfold State.downAt
  split
  · exact mapRecord ..
  · exact refl s

end State.Judges

/-! ### Takings as record writings and one settling -/

/-- The state of a taking of an HB_OPEN after the opening of slots, before it settles. -/
def State.openedFor (l : LinkId) (x : Heartbeat) (t : Fin 8) (s : State) : State :=
  let s' := ((s.continuity l x t).intakeAt l x).updateNewest x
  if s'.waitsFor l (s'.slotAt t) then s' else s'.countLate l

theorem State.openedFor_judges (l : LinkId) (x : Heartbeat) (t : Fin 8) (s : State) : s.Judges (s.openedFor l x t) := by
  have h : s.Judges (((s.continuity l x t).intakeAt l x).updateNewest x) :=
    ((State.Judges.continuity l x t s).trans (.setIntake ..)).trans (.updateNewest ..)
  unfold State.openedFor
  dsimp only
  split
  · exact h
  · exact h.trans (.countLate ..)

/-- An HB_OPEN taken starts its first slice partially. -/
def State.startsPartially (x : Heartbeat) (s : State) : Bool :=
  s.ring.cursor = none ∧ x ≠ sliceStart s.settings.active.span x

/-- The taking of an HB_OPEN: behind, beyond, or in the ring (R16). -/
theorem State.takeOpen_eq (l : LinkId) (x : Heartbeat) (s : State) :
    s.takeOpen l x = match (s.setCursor x).place x with
      | .behind => ((s.setCursor x).intakeAt l x).countLate l
      | .beyond => s.setCursor x
      | .within t => (((s.setCursor x).fillOpen t (s.startsPartially x)).openedFor l x t).settle := by
  cases h : (s.setCursor x).place x with
  | behind => simp only [State.takeOpen, h]
  | beyond => simp only [State.takeOpen, h]
  | within t =>
    simp only [State.takeOpen, h]
    unfold State.startsPartially State.openedFor
    dsimp only

end Sys2Proof.Machine
end

section
/-! What the filing of a burst leaves of every slot; and O11, that verdicts and margin states go on agreeing with the state of
their slot. -/

namespace Sys2Proof.Machine

open Sys2Proof Sys2Proof.Safety

/-! ### Filing a burst (R20, R21) -/

/-- From `t` to `t'` a slot keeps state, slice, margin, epoch and deadline, and each record its verdict and margin state: what
the filing of pulses and the counting of bursts do to a slot. -/
structure Slot.Files (t t' : Slot) : Prop where
  slot : t' = { t with flags := t'.flags, links := t'.links, rows := t'.rows, totals := t'.totals }
  records : ∀ l : LinkId, t'.links[l] =
    { t.links[l] with
      flags := t'.links[l].flags, pulseCount := t'.links[l].pulseCount, droppedCount := t'.links[l].droppedCount }

namespace Slot.Files

theorem refl (t : Slot) : t.Files t := ⟨rfl, fun _ => rfl⟩

theorem trans {t t' t'' : Slot} (h : t.Files t') (h' : t'.Files t'') : t.Files t'' :=
  ⟨by rw [h'.slot, h.slot], fun l => by rw [h'.records, h.records]⟩

theorem mapTotals (f : Totals → Totals) (t : Slot) : t.Files (t.mapTotals f) := ⟨rfl, fun _ => rfl⟩

theorem appendPulse (row : RowId) (p : StoredPulse) (t : Slot) : t.Files (t.appendPulse row p) := ⟨rfl, fun _ => rfl⟩

theorem setFlags (f : SlotFlags) (t : Slot) : t.Files { t with flags := f } := ⟨rfl, fun _ => rfl⟩

/-- A link record that changes in its flags and counts alone. -/
theorem mapRecord (l : LinkId) {f : LinkRecord → LinkRecord}
    (hf : ∀ r, f r = { r with flags := (f r).flags, pulseCount := (f r).pulseCount, droppedCount := (f r).droppedCount })
    (t : Slot) : t.Files (t.mapRecord l f) := by
  refine ⟨rfl, fun l' => ?_⟩
  by_cases h : l' = l
  · subst h
    rw [Slot.mapRecord_links]
    exact hf _
  · rw [Slot.mapRecord_links_ne h]

variable {t t' : Slot}

theorem state (h : t.Files t') : t'.state = t.state := by rw [h.slot]

theorem verdict (h : t.Files t') (l : LinkId) : t'.links[l].verdict = t.links[l].verdict := by rw [h.records]

theorem closedLast (h : t.Files t') (l : LinkId) : t'.links[l].closedLast = t.links[l].closedLast := by rw [h.records]

theorem marginState (h : t.Files t') (l : LinkId) : t'.links[l].margin = t.links[l].margin := by rw [h.records]

theorem slice (h : t.Files t') : t'.first = t.first ∧ t'.span = t.span ∧ t'.margin = t.margin ∧ t'.epoch = t.epoch ∧
    t'.deadline = t.deadline := by rw [h.slot]; exact ⟨rfl, rfl, rfl, rfl, rfl⟩

theorem hasPending (h : t.Files t') : t'.hasPending = t.hasPending := by
  rw [Bool.eq_iff_iff, Slot.hasPending_iff, Slot.hasPending_iff]
  simp only [h.verdict]

end Slot.Files

/-- From `s` to `t` every slot files, and the emitter stays. -/
structure State.Files (s t : State) : Prop where
  slots : ∀ i, (s.slot i).Files (t.slot i)
  emitter : t.emitter = s.emitter

namespace State.Files

variable {s t u : State}

theorem refl (s : State) : s.Files s := ⟨fun _ => .refl _, rfl⟩

theorem trans (h : s.Files t) (h' : t.Files u) : s.Files u :=
  ⟨fun i => (h.slots i).trans (h'.slots i), h'.emitter.trans h.emitter⟩

theorem foldl {α : Type} {f : State → α → State} (hf : ∀ (s : State) a, s.Files (f s a)) (as : List α) (s : State) :
    s.Files (as.foldl f s) := by
  induction as generalizing s with
  | nil => exact refl s
  | cons a as ih => exact (hf s a).trans (ih (f s a))

theorem mapSlot (i : SlotId) {f : Slot → Slot} (hf : ∀ t : Slot, t.Files (f t)) (s : State) : s.Files (s.mapSlot i f) := by
  refine ⟨fun i' => ?_, rfl⟩
  rw [State.slot_mapSlot_ite]
  split
  · next h => rw [h]; exact hf _
  · exact .refl _

theorem of_eq (hr : t.ring.slots = s.ring.slots) (he : t.emitter = s.emitter) : s.Files t :=
  ⟨fun i => by simp only [State.slot, hr]; exact .refl _, he⟩

theorem mapGlobals (f : GlobalCounters → GlobalCounters) (s : State) : s.Files (s.mapGlobals f) := of_eq rfl rfl

theorem countLate (l : LinkId) (s : State) : s.Files (s.countLate l) := of_eq rfl rfl

theorem appendStored (i : SlotId) (row : RowId) (p : StoredPulse) (n : Nat) (s : State) :
    s.Files (s.appendStored i row p n) :=
  mapSlot i (fun t => ((Slot.Files.appendPulse row p t).trans (.mapRecord _ (fun _ => rfl) _)).trans (.mapTotals _ _)) s

theorem dropPulse (i : SlotId) (l : LinkId) (s : State) : s.Files (s.dropPulse i l) := by
  have h : s.Files (s.mapSlot i fun t =>
      let t' := (t.mapRecord l fun r => { r with droppedCount := satAdd cap16 r.droppedCount 1 }).mapTotals
        fun u => { u with poolDrops := satAdd cap32 u.poolDrops 1 }
      { t' with flags := { t'.flags with poolExhausted := true } }) :=
    mapSlot i (fun t => ((Slot.Files.mapRecord l (fun _ => rfl) t).trans (.mapTotals _ _)).trans (.setFlags _ _)) s
  exact h.trans (of_eq rfl rfl)

theorem store (i : SlotId) (row : RowId) (p : Pulse) (n : Nat) (s : State) : s.Files (s.store i row p n) := by
  obtain ⟨_, _, free, -, -, h⟩ | ⟨-, h⟩ := s.store_cases i row p n <;> rw [h]
  · have hcells : s.Files { s with freeCells := free } := of_eq rfl rfl
    exact hcells.trans (appendStored ..)
  · exact dropPulse ..

theorem fileOwn (x : BurstContext) (own : Option SlotId) (p : FormedPulse) (s : State) : s.Files (s.fileOwn x own p) := by
  cases own with
  | none => exact refl s
  | some i => exact store ..

theorem fileCopy (x : BurstContext) (receiving : Option SlotId) (p : FormedPulse) (s : State) :
    s.Files (s.fileCopy x receiving p) := by
  unfold State.fileCopy
  split
  · exact refl s
  · split
    · exact store ..
    · exact refl s

theorem filePulses (x : BurstContext) (own receiving : Option SlotId) (ps : List FormedPulse) (s : State) :
    s.Files (s.filePulses x own receiving ps) :=
  (mapGlobals _ s).trans (foldl (fun s p => (fileOwn x own p s).trans (fileCopy x receiving p _)) ps _)

theorem fileBurst (l : LinkId) (x : Heartbeat) (b : Burst) (e : PadEntry) (row : RowId)
    (own receiving : Option SlotId) (charged : SlotId) (s : State) :
    s.Files (s.fileBurst l x b e row own receiving charged) := by
  have hmark : s.Files (if b.checkError || b.truncated then
      s.mapRecord charged l fun r => { r with flags := { r.flags with checkError := true } } else s) := by
    split
    · exact mapSlot _ (fun t => .mapRecord l (fun _ => rfl) t) s
    · exact refl s
  unfold State.fileBurst
  dsimp only
  split
  · exact hmark.trans (mapSlot _ (fun t => .mapRecord l (fun _ => rfl) t) _)
  · split
    · exact hmark.trans ((mapSlot _ (fun t => .mapTotals _ t) _).trans (mapGlobals ..))
    · exact hmark.trans (filePulses ..)

theorem applyBurst (l : LinkId) (x : Heartbeat) (b : Burst) (own receiving : Option SlotId) (charged : SlotId)
    (s : State) : s.Files (s.applyBurst l x b own receiving charged) := by
  have count : ∀ f, s.Files (s.mapSlot charged (Slot.mapTotals f)) := fun f => mapSlot _ (fun t => .mapTotals f t) s
  unfold State.applyBurst
  dsimp only
  split
  · split
    · split
      · exact (count _).trans (mapGlobals ..)
      · exact fileBurst ..
    · exact count _
  · exact count _

theorem takeBurstItem (l : LinkId) (b : Burst) (s : State) : s.Files (s.takeBurstItem l b) := by
  unfold State.takeBurstItem
  split
  · exact countLate ..
  · split
    · exact countLate ..
    · exact applyBurst ..
    · exact applyBurst ..

end State.Files

/-! ### Records that agree with their slot (R26, R27) -/

/-- A record's verdict and margin state agree with the state and the margin of its slot. -/
structure RecordSound (st : SlotState) (margin : Nat) (r : LinkRecord) : Prop where
  awaited : st = .filling → (r.margin = .awaited ↔ r.verdict = .pending ∧ r.closedLast = true)
  needed : r.margin = .awaited → 0 < margin
  final : st ≠ .filling → r.verdict ≠ .pending ∧ r.margin ≠ .awaited

namespace RecordSound

variable {st : SlotState} {margin : Nat} {r : LinkRecord}

/-- A record that waits for nothing is sound in every slot. -/
theorem of_settled (hv : r.verdict ≠ .pending) (hm : r.margin ≠ .awaited) : RecordSound st margin r :=
  ⟨fun _ => by simp [hv, hm], fun h => absurd h hm, fun _ => ⟨hv, hm⟩⟩

theorem congr {r' : LinkRecord} (h : RecordSound st margin r) (hv : r'.verdict = r.verdict) (hc : r'.closedLast = r.closedLast)
    (hm : r'.margin = r.margin) : RecordSound st margin r' :=
  ⟨by rw [hv, hc, hm]; exact h.awaited, by rw [hm]; exact h.needed, by rw [hv, hm]; exact h.final⟩

theorem miss (mark : LinkFlags → LinkFlags) (r : LinkRecord) : RecordSound st margin (r.miss mark) := by
  unfold LinkRecord.miss
  split
  · exact of_settled (by simp) (by simp)
  · next h => exact of_settled (by simp) h

theorem marginAbsent (r : LinkRecord) : RecordSound st margin r.marginAbsent :=
  of_settled (by simp [LinkRecord.marginAbsent]) (by simp [LinkRecord.marginAbsent])

/-- A PENDING record without closed-last awaits no margin. -/
theorem not_awaited (h : RecordSound st margin r) (hc : r.closedLast = false) : r.margin ≠ .awaited := by
  intro hm
  by_cases hs : st = .filling
  · simp [(h.awaited hs).mp hm] at hc
  · exact (h.final hs).2 hm

theorem giveUp (h : RecordSound st margin r) : RecordSound st margin r.giveUp := by
  unfold LinkRecord.giveUp
  split
  · split
    · exact marginAbsent r
    · next hc => exact of_settled (by simp) (h.not_awaited (by simpa using hc))
  · exact h

/-- A record is settled when its link is given up. -/
theorem giveUp_verdict (r : LinkRecord) : r.giveUp.verdict ≠ .pending := by
  unfold LinkRecord.giveUp
  split
  · split <;> simp [LinkRecord.marginAbsent]
  · next h => exact h

theorem takeDown (h : RecordSound st margin r) (reason : DownReason) : RecordSound st margin (r.takeDown reason) := by
  unfold LinkRecord.takeDown
  split
  · split
    · exact marginAbsent r
    · next hc =>
      have hm := h.not_awaited (by simpa using hc)
      split <;> exact of_settled (by simp) hm
  · exact h

theorem cutMargin (h : RecordSound .filling margin r) : RecordSound .filling 0 r.cutMargin := by
  unfold LinkRecord.cutMargin
  split
  · exact of_settled (by simp) (by simp)
  · next hm => exact ⟨h.awaited, fun hm' => absurd hm' hm, h.final⟩

/-- The own part of an HB_CLOSE, at a link that the slot waits for. -/
theorem close (h : RecordSound .filling margin r) (hv : r.verdict = .pending) (c : Close) (last : Bool) :
    RecordSound .filling margin (r.close c last margin) := by
  unfold LinkRecord.close
  dsimp only
  split
  · split
    · next hm =>
      refine of_settled (by simp) fun ha => ?_
      have := h.needed ha
      omega
    · next hm => exact ⟨fun _ => by simp [hv], fun _ => by omega, fun hn => absurd rfl hn⟩
  · exact h.congr rfl rfl rfl

theorem opening (expected : Bool) (rx : RxState) : RecordSound .filling margin (openingRecord expected rx) := by
  have hm : (openingRecord expected rx).margin = .notNeeded ∧ (openingRecord expected rx).closedLast = false := by
    unfold openingRecord
    split
    · split <;> exact ⟨rfl, rfl⟩
    · exact ⟨rfl, rfl⟩
  obtain ⟨hm, hc⟩ := hm
  exact ⟨fun _ => by simp [hm, hc], by simp [hm], fun hn => absurd rfl hn⟩

end RecordSound

/-- What a change of all link records leaves of a slot. -/
@[simp] theorem Slot.mapRecords_frame (f : LinkRecord → LinkRecord) (t : Slot) :
    (t.mapRecords f).state = t.state ∧ (t.mapRecords f).first = t.first ∧ (t.mapRecords f).span = t.span ∧
    (t.mapRecords f).margin = t.margin ∧ (t.mapRecords f).epoch = t.epoch ∧ (t.mapRecords f).deadline = t.deadline ∧
    (t.mapRecords f).flags = t.flags ∧ (t.mapRecords f).rows = t.rows ∧ (t.mapRecords f).totals = t.totals := by
  simp only [Slot.mapRecords, and_self]

/-- A slot is legal but for its waiting: what holds between the event at a slot and its examination. -/
structure SlotSound (t : Slot) : Prop where
  records : ∀ l : LinkId, RecordSound t.state t.margin t.links[l]
  deadline : t.state ≠ .filling → t.deadline = none

end Sys2Proof.Machine

namespace Sys2Proof.Safety.SlotLegal

open Sys2Proof Sys2Proof.Machine

theorem sound {t : Slot} (h : SlotLegal t) : SlotSound t :=
  ⟨fun l => ⟨fun hs => h.awaited hs l, h.needed l, fun hs => h.final hs l⟩, h.deadline⟩

theorem of_sound {t : Slot} (h : SlotSound t) (hw : t.state = .filling → t.hasPending = true) : SlotLegal t :=
  ⟨hw, fun hs l => (h.records l).awaited hs, fun l => (h.records l).needed, fun hs l => (h.records l).final hs, h.deadline⟩

theorem free : SlotLegal Slot.free := by
  refine ⟨by simp [Slot.free], by simp [Slot.free], fun l => ?_, fun _ l => ?_, by simp [Slot.free]⟩ <;>
    simp [Slot.free, LinkRecord.free]

theorem files {t t' : Slot} (h : SlotLegal t) (hf : t.Files t') : SlotLegal t' := by
  obtain ⟨-, -, hmargin, -, hdeadline⟩ := hf.slice
  refine .of_sound ⟨fun l => ?_, by rw [hf.state, hdeadline]; exact h.deadline⟩ (by rw [hf.state, hf.hasPending]; exact h.waits)
  rw [hf.state, hmargin]
  exact (h.sound.records l).congr (hf.verdict l) (hf.closedLast l) (hf.marginState l)

/-- The emitter's taking of a COMPLETE slot. -/
theorem emitting {t : Slot} (h : SlotLegal t) (hs : t.state = .complete) : SlotLegal { t with state := .emitting } :=
  ⟨by simp, by simp, h.needed, fun _ => h.final (by simp [hs]), fun _ => h.deadline (by simp [hs])⟩

end Sys2Proof.Safety.SlotLegal

namespace Sys2Proof.Machine

open Sys2Proof Sys2Proof.Safety

namespace SlotSound

variable {t : Slot}

theorem mapRecord (h : SlotSound t) {l : LinkId} {f : LinkRecord → LinkRecord}
    (hf : RecordSound t.state t.margin (f t.links[l])) : SlotSound (t.mapRecord l f) := by
  refine ⟨fun l' => ?_, h.deadline⟩
  by_cases hl : l' = l
  · subst hl
    rw [Slot.mapRecord_links]
    exact hf
  · rw [Slot.mapRecord_links_ne hl]
    exact h.records l'

theorem mapRecords (h : SlotSound t) {f : LinkRecord → LinkRecord} (hf : ∀ l : LinkId, RecordSound t.state t.margin (f t.links[l])) :
    SlotSound (t.mapRecords f) := by
  obtain ⟨hs, -, -, hm, -, hd, -⟩ := t.mapRecords_frame f
  refine ⟨fun l => ?_, by rw [hs, hd]; exact h.deadline⟩
  rw [Slot.mapRecords_links, hs, hm]
  exact hf l

theorem setFlags (h : SlotSound t) (f : SlotFlags) : SlotSound { t with flags := f } := ⟨h.records, h.deadline⟩

theorem giveUp (h : SlotSound t) : SlotSound { t.mapRecords LinkRecord.giveUp with flags := { t.flags with incomplete := true } } :=
  (h.mapRecords fun l => (h.records l).giveUp).setFlags _

/-- An examined slot is legal. -/
theorem examined (h : SlotSound t) : SlotLegal t.examined := by
  by_cases hd : t.state = .filling ∧ t.hasPending = false
  · rw [Slot.examined_of_done hd.1 hd.2]
    have hv := t.hasPending_eq_false.mp hd.2
    refine .of_sound ⟨fun l => .of_settled (hv l) fun hm => hv l ?_, by simp⟩ (by simp)
    exact (((h.records l).awaited hd.1).mp hm).1
  · have e : t.examined = t := by simp only [Slot.examined, hd, if_false]
    rw [e]
    exact .of_sound h fun hs => by simpa [hs] using hd

theorem cut (h : SlotSound t) : SlotSound t.cut := by
  unfold Slot.cut
  dsimp only
  split
  · next hs =>
    refine ⟨fun l => ?_, fun hn => absurd hs hn⟩
    rw [Slot.mapRecords_links]
    have := (hs ▸ h.records l : RecordSound .filling t.margin t.links[l]).cutMargin
    exact hs ▸ this
  · next hs => exact ⟨fun l => .of_settled ((h.records l).final hs).1 ((h.records l).final hs).2, h.deadline⟩

theorem opened (s : State) (j : Nat) (starts : Bool) : SlotSound (s.openedSlot j starts) := by
  refine ⟨fun l => ?_, fun hn => absurd rfl hn⟩
  have e : (s.openedSlot j starts).links[l] = openingRecord
      ((s.settings.settingsOf (s.epochAt j)).expected.getLsbD l.val) (s.link l).rx.state := by
    simp [State.openedSlot]
  rw [e]
  exact .opening ..

end SlotSound

/-- Every slot is sound. -/
def SlotsSound (s : State) : Prop := ∀ i : SlotId, SlotSound (s.slot i)

namespace SlotsSound

variable {s t : State}

theorem of_legal (h : SlotsLegal s) : SlotsSound s := fun i => (h i).sound

theorem mapSlot (h : SlotsSound s) {i : SlotId} {f : Slot → Slot} (hf : SlotSound (f (s.slot i))) :
    SlotsSound (s.mapSlot i f) := by
  intro i'
  rw [State.slot_mapSlot_ite]
  split
  · exact hf
  · exact h i'

theorem mapRecord (h : SlotsSound s) {i : SlotId} {l : LinkId} {f : LinkRecord → LinkRecord}
    (hf : RecordSound (s.slot i).state (s.slot i).margin (f (s.record i l))) : SlotsSound (s.mapRecord i l f) :=
  h.mapSlot ((h i).mapRecord hf)

theorem congr (h : SlotsSound s) (e : t.ring.slots = s.ring.slots) : SlotsSound t := by
  intro i
  have : t.slot i = s.slot i := by simp only [State.slot, e]
  exact this ▸ h i

theorem foldl {α : Type} {f : State → α → State} (hf : ∀ (s : State) a, SlotsSound s → SlotsSound (f s a)) (as : List α)
    (h : SlotsSound s) : SlotsSound (as.foldl f s) := by
  induction as generalizing s with
  | nil => exact h
  | cons a as ih => exact ih (hf s a h)

/-- What every event at the slots ends with makes sound slots legal. -/
theorem settle (h : SlotsSound s) : SlotsLegal s.settle := by
  intro i
  by_cases ht : s.takesNext
  · rw [(State.settle_of_takes ht).1 i]
    split
    · next hi => exact (h i).examined.emitting (by rw [hi]; exact ht.2.2.2)
    · exact (h i).examined
  · rw [(State.settle_of_not_takes ht).1 i]
    exact (h i).examined

theorem fillOpen (h : SlotsSound s) (t : Fin 8) (starts : Bool) : SlotsSound (s.fillOpen t starts) := by
  intro i
  obtain ⟨k, rfl⟩ := s.slotAt_surjective i
  rw [State.slot_fillOpen]
  split
  · exact (SlotSound.opened ..).examined.sound
  · exact h _

theorem skipHeartbeat (h : SlotsSound s) (l : LinkId) (y : Heartbeat) : SlotsSound (s.skipHeartbeat l y) := by
  unfold State.skipHeartbeat
  dsimp only
  have h1 : ∀ i, SlotsSound (s.mapRecord i l (LinkRecord.miss fun f => { f with gap := true })) :=
    fun i => h.mapRecord (.miss ..)
  split <;> split
  · exact (h1 _).mapRecord (.marginAbsent _)
  · exact h.mapRecord (.marginAbsent _)
  · exact h1 _
  · exact h

theorem startsLater (h : SlotsSound s) (l : LinkId) (j : Fin 8) : SlotsSound (s.startsLater l j) := by
  unfold State.startsLater
  split
  · exact h.mapRecord (.miss ..)
  · exact h

theorem continuity (h : SlotsSound s) (l : LinkId) (x : Heartbeat) (t : Fin 8) : SlotsSound (s.continuity l x t) := by
  unfold State.continuity
  split
  · unfold State.firstHeartbeat
    dsimp only
    refine foldl (fun s j hs => hs.startsLater l j) _ ?_
    split
    · exact h.mapRecord (((h _).records l).congr rfl rfl rfl)
    · exact h
  · exact foldl (fun s y hs => hs.skipHeartbeat l y) _ h

theorem openedFor (h : SlotsSound s) (l : LinkId) (x : Heartbeat) (t : Fin 8) : SlotsSound (s.openedFor l x t) := by
  have h' : SlotsSound (((s.continuity l x t).intakeAt l x).updateNewest x) := by
    refine ((h.continuity l x t).congr (t := (s.continuity l x t).intakeAt l x) rfl).congr ?_
    unfold State.updateNewest
    split <;> rfl
  unfold State.openedFor
  dsimp only
  split
  · exact h'
  · exact h'.congr rfl

theorem setCursor (h : SlotsSound s) (x : Heartbeat) : SlotsSound (s.setCursor x) := by
  refine h.congr ?_
  unfold State.setCursor
  split <;> rfl

/-- The slot of an own part is FILLING and its record PENDING. -/
theorem ownPart_pending {l : LinkId} {x : Heartbeat} {i : SlotId} (h : s.ownPart l x = some i) :
    (s.slot i).state = .filling ∧ (s.record i l).verdict = .pending := by
  have := (Option.filter_eq_some_iff.mp h).2
  simpa [State.waitsFor] using this

theorem closeOwn (h : SlotsSound s) {l : LinkId} {c : Close} {x : Heartbeat} {own : Option SlotId}
    (hown : ∀ i, own = some i → (s.slot i).state = .filling ∧ (s.record i l).verdict = .pending) :
    SlotsSound (s.closeOwn l x c own) := by
  cases own with
  | none => exact h
  | some i =>
    obtain ⟨hf, hv⟩ := hown i rfl
    refine h.mapSlot ((h i).mapRecord ?_)
    have hr := (h i).records l
    rw [hf] at hr ⊢
    exact hr.close hv c _

theorem closeMargin (h : SlotsSound s) (l : LinkId) (receiving : Option SlotId) : SlotsSound (s.closeMargin l receiving) := by
  cases receiving with
  | none => exact h
  | some i => exact h.mapRecord (.of_settled (by simp) (by simp))

theorem downAt (h : SlotsSound s) (l : LinkId) (reason : DownReason) (i : SlotId) : SlotsSound (s.downAt l reason i) := by
  unfold State.downAt
  split
  · exact h.mapRecord (((h i).records l).takeDown reason)
  · exact h

theorem giveUp (h : SlotsSound s) (i : SlotId) : SlotsSound (s.giveUp i) := h.mapSlot (h i).giveUp

theorem cutLastOld (h : SlotsSound s) (c : PendingCommit) (fc : Heartbeat) : SlotsSound (s.cutLastOld c fc) := by
  unfold State.cutLastOld
  split
  · dsimp only
    split
    · exact h
    · exact h.mapSlot (h _).cut
  · exact h

end SlotsSound

/-! ### Every step keeps the slots legal -/

theorem SlotsLegal.congr {s t : State} (h : SlotsLegal s) (e : t.ring.slots = s.ring.slots) : SlotsLegal t := by
  intro i
  have : t.slot i = s.slot i := by simp only [State.slot, e]
  exact this ▸ h i

theorem slotsLegal_of_free {s : State} (h : s.ring = .reset) : SlotsLegal s := by
  intro i
  have : s.slot i = .free := by simp [State.slot, h, Ring.reset]
  exact this ▸ .free

theorem slotsLegal_takeOpen {s : State} (h : SlotsLegal s) (l : LinkId) (x : Heartbeat) : SlotsLegal (s.takeOpen l x) := by
  have hc : SlotsLegal (s.setCursor x) := by
    refine SlotsLegal.congr h ?_
    unfold State.setCursor
    split <;> rfl
  rw [State.takeOpen_eq]
  split
  · exact SlotsLegal.congr hc rfl
  · exact hc
  · exact (((SlotsSound.of_legal hc).fillOpen _ _).openedFor l x _).settle

theorem slotsLegal_takeClose {s : State} (h : SlotsLegal s) (l : LinkId) (c : Close) : SlotsLegal (s.takeClose l c) := by
  unfold State.takeClose
  split
  · exact SlotsLegal.congr h rfl
  · next x _ =>
    have h1 : SlotsSound (s.closeIntake l) := (SlotsSound.of_legal h).congr rfl
    have h2 := (h1.closeOwn (l := l) (c := c) (x := x) (own := s.ownPart l x) fun i hi =>
      SlotsSound.ownPart_pending (s := s) hi).closeMargin l (s.marginPart l x)
    dsimp only
    refine SlotsSound.settle ?_
    split
    · exact h2.congr rfl
    · exact h2

theorem slotsLegal_takeLoss {s : State} (h : SlotsLegal s) (l : LinkId) : SlotsLegal (s.takeLossItem l) := by
  have h0 := SlotsSound.of_legal h
  have h1 : ∀ i, SlotsSound (s.mapRecord i l (LinkRecord.miss fun f => { f with ingressLoss := true })) :=
    fun i => h0.mapRecord (.miss ..)
  unfold State.takeLossItem
  split
  · exact h
  · dsimp only
    refine SlotsSound.settle (SlotsSound.congr ?_ (s := match s.marginPart l _ with | some i => _ | none => _) rfl)
    split <;> split
    · exact (h1 _).mapRecord (.marginAbsent _)
    · exact h0.mapRecord (.marginAbsent _)
    · exact h1 _
    · exact h0

theorem slotsLegal_takeDown {s : State} (h : SlotsLegal s) (l : LinkId) (reason : DownReason) :
    SlotsLegal (s.takeDownItem l reason) := by
  have hv := SlotsSound.foldl (fun s i h => h.downAt l reason i) (List.finRange 8) (SlotsSound.of_legal h)
  unfold State.takeDownItem
  generalize (List.finRange 8).foldl (State.downAt l reason) s = v at hv
  exact (hv.congr (t := v.setIntake l ⟨none, none⟩) rfl).settle

theorem CoreMove.slotsLegal {s t : State} (h : CoreMove s t) (hs : SlotsLegal s) : SlotsLegal t := by
  have h0 := SlotsSound.of_legal hs
  cases h with
  | takeOpen l x _ => exact slotsLegal_takeOpen hs l x
  | takeBurst l b => exact fun i => (hs i).files ((State.Files.takeBurstItem l b s).slots i)
  | takeClose l c => exact slotsLegal_takeClose hs l c
  | takeLoss l => exact slotsLegal_takeLoss hs l
  | takeDown l reason => exact slotsLegal_takeDown hs l reason
  | timebase =>
    intro i
    have e : State.slot { s with ring := { s.ring with slots := Vector.ofFn fun i : SlotId => s.ring.slots[i].countDown } } i =
        (s.slot i).countDown := by simp [State.slot]
    rw [e]
    unfold Slot.countDown
    split
    · next hf =>
      refine .of_sound ⟨((hs i).sound).records, fun hn => absurd hf hn⟩ (hs i).waits
    · exact hs i
  | expiry i _ => exact (h0.giveUp i).settle
  | epochMarkSent i f _ => exact SlotsLegal.congr hs (by simp [State.afterEpochMark])
  | headSent i f _ => exact SlotsLegal.congr hs (by simp [State.afterHead])
  | rowSent i f _ =>
    obtain ⟨e, -, ⟨-, h⟩ | ⟨-, h⟩⟩ := s.afterRow_cases i f
    · have hr : SlotsLegal (s.returnCells i s.emitter.row f.pulses) := by
        intro i'
        unfold State.returnCells
        dsimp only
        rw [State.slot_mapSlot_ite]
        split
        · exact (hs i).files ⟨rfl, fun _ => rfl⟩
        · exact hs i'
      exact SlotsLegal.congr hr (by rw [h]; simp)
    · exact SlotsLegal.congr hs (by rw [h]; simp)
  | tailSent i f first _ =>
    have hr : SlotsLegal (s.countEmitted.releaseSlot i) := by
      intro i'
      have e : (s.countEmitted.releaseSlot i).slot i' = (s.countEmitted.emptySlot i).slot i' := by
        simp [State.slot]
      rw [e]
      unfold State.emptySlot
      rw [State.slot_mapSlot_ite]
      split
      · exact .free
      · exact hs i'
    have ht : ∀ {v : State}, SlotsLegal v → SlotsLegal v.emitterTakes := by
      intro v hv i'
      by_cases hn : v.emitter.state = .idle ∧ v.emitter.stopping = none ∧ v.ring.cursor ≠ none ∧
          (v.slot v.ring.cursorSlot).state = .complete
      · rw [(v.emitterTakes_eq.1 hn).1 i']
        split
        · next hi => exact (hv i').emitting (by rw [hi]; exact hn.2.2.2)
        · exact hv i'
      · rw [v.emitterTakes_eq.2 hn]
        exact hv i'
    obtain ⟨-, h⟩ | ⟨-, -, h⟩ | ⟨-, -, h⟩ := s.afterTail_cases first i <;> rw [h]
    · exact SlotsLegal.congr hs rfl
    · exact ht (SlotsLegal.congr hr (by simp))
    · exact SlotsLegal.congr (ht hr) (by simp)
  | boundary => exact SlotsLegal.congr hs (by simp)
  | writeSettings c hc => exact SlotsLegal.congr hs rfl
  | commitNow hf hr hc => exact SlotsLegal.congr hs rfl
  | commitPending fc hf hr hc =>
    rw [State.commitPendingFrom_fst]
    exact (((h0.congr (t := s.withCommit fc) rfl).cutLastOld (s.newCommit fc) fc).congr (by simp)).settle
  | forceClose i _ => exact ((h0.giveUp i).mapSlot (((h0.giveUp i) i).setFlags _)).settle
  | setStopping k => exact SlotsLegal.congr hs rfl
  | restart hr _ _ _ _ => exact slotsLegal_of_free hr
  | pinReset => exact slotsLegal_of_free rfl

/-- Settles O11: between an event and its examination the slots are `SlotsSound`, and the examination makes them legal. -/
theorem slotsStayLegal : Obligations.SlotsStayLegal :=
  keptByStep_of_core (fun _ _ h hs => SlotsLegal.congr hs h.slots) fun _ _ h hs => h.slotsLegal hs

end Sys2Proof.Machine
end

section
/-! The cells of free list and pulses (R46 to R51): what each operation does to them, and O7. -/

namespace Sys2Proof.Machine

open Sys2Proof Sys2Proof.Safety

/-! ### Lists over the entries of a vector -/

/-- A list over the entries of a vector, with the part of one entry taken out: the rest does not depend on that entry. -/
theorem Vector.flatMap_set_perm {α β : Type} {n : Nat} (v : Vector α n) (i : Fin n) (x : α) (f : α → List β) :
    ∃ rest, (v.toList.flatMap f).Perm (f v[i] ++ rest) ∧ ((v.set i x).toList.flatMap f).Perm (f x ++ rest) := by
  have split : ∀ w : Vector α n, (w.toList.flatMap f).Perm
      (f w[i] ++ ((List.finRange n).erase i).flatMap fun j => f w[j]) := by
    intro w
    have hw : w.toList.flatMap f = (List.finRange n).flatMap fun j => f w[j] := by
      rw [← List.flatMap_map (f := fun j : Fin n => w[j])]
      congr 1
      apply List.ext_getElem <;> simp
    rw [hw]
    exact (List.perm_cons_erase (List.mem_finRange i)).flatMap_right _
  refine ⟨_, split v, ?_⟩
  refine (split (v.set i x)).trans (List.Perm.of_eq ?_)
  congr 1
  · simp
  · refine List.flatMap_congr fun j hj => ?_
    have hne : j ≠ i := fun e => List.Nodup.not_mem_erase (List.nodup_finRange n) (e ▸ hj)
    exact congrArg f (Vector.getElem_set_ne i.isLt j.isLt fun e => hne (Fin.ext e.symm))

theorem Vector.flatMap_subperm {α β : Type} {n : Nat} {v w : Vector α n} {f : α → List β}
    (h : ∀ i : Fin n, (f w[i]).Subperm (f v[i])) : (w.toList.flatMap f).Subperm (v.toList.flatMap f) := by
  have e : ∀ w : Vector α n, w.toList.flatMap f = (List.finRange n).flatMap fun j => f w[j] := by
    intro w
    rw [← List.flatMap_map (f := fun j : Fin n => w[j])]
    congr 1
    apply List.ext_getElem <;> simp
  rw [e v, e w]
  generalize List.finRange n = is
  induction is with
  | nil => exact List.Subperm.refl _
  | cons i is ih => exact (h i).append ih

/-! ### The cells of a slot -/

theorem slotCells_of_rows {t t' : Slot} (h : t'.rows = t.rows) : slotCells t' = slotCells t := by
  simp only [slotCells, h]

theorem slotCells_of_empty {t : Slot} (h : ∀ r : RowId, t.rows[r] = []) : slotCells t = [] := by
  refine List.flatMap_eq_nil_iff.mpr fun chain hc => ?_
  obtain ⟨r, hr, rfl⟩ := List.getElem_of_mem hc
  have := h ⟨r, by simpa using hr⟩
  simp only [Fin.getElem_fin, Vector.getElem_toList] at this ⊢
  rw [this]
  rfl

/-- The cells of a slot, and those after one chain has changed. -/
theorem slotCells_set_perm (t : Slot) (row : RowId) (chain : List StoredPulse) :
    ∃ rest, (slotCells t).Perm (t.rows[row].flatMap StoredPulse.cells ++ rest) ∧
      (slotCells { t with rows := t.rows.set row chain }).Perm (chain.flatMap StoredPulse.cells ++ rest) :=
  Vector.flatMap_set_perm t.rows row chain _

/-- A slot's total of cells held counts the cells of its pulses. -/
def Slot.Counted (t : Slot) : Prop := t.totals.cellsHeld = (slotCells t).length

theorem Slot.counted_congr {t t' : Slot} (hr : t'.rows = t.rows) (hc : t'.totals.cellsHeld = t.totals.cellsHeld)
    (h : t.Counted) : t'.Counted := by
  rw [Slot.Counted, hc, slotCells_of_rows hr]
  exact h

/-- A slot record with a pulse stored in it. -/
def Slot.stored (row : RowId) (p : StoredPulse) (n : Nat) (t : Slot) : Slot :=
  ((t.appendPulse row p).mapRecord p.pulse.link fun r => { r with pulseCount := satAdd cap16 r.pulseCount 1 }).mapTotals
    (Totals.addPulse p.cells.length p.pulse.codes.length n)

/-- The cells of a slot after a pulse is stored in it (R49). -/
theorem slotCells_stored (row : RowId) (p : StoredPulse) (n : Nat) (t : Slot) :
    (slotCells (t.stored row p n)).Perm (p.cells ++ slotCells t) := by
  obtain ⟨rest, h, h'⟩ := slotCells_set_perm t row (t.rows[row] ++ [p])
  refine h'.trans (List.Perm.trans ?_ (h.symm.append_left p.cells))
  simp only [List.flatMap_append, List.flatMap_cons, List.flatMap_nil, List.append_nil, ← List.append_assoc]
  exact List.perm_append_comm.append_right rest

theorem Slot.Counted.stored {t : Slot} (h : t.Counted) (row : RowId) (p : StoredPulse) (n : Nat) :
    (t.stored row p n).Counted := by
  rw [Slot.Counted, (slotCells_stored row p n t).length_eq, List.length_append]
  have : t.totals.cellsHeld = (slotCells t).length := h
  show t.totals.cellsHeld + p.cells.length = _
  omega

theorem State.appendStored_eq (i : SlotId) (row : RowId) (p : StoredPulse) (n : Nat) (s : State) :
    s.appendStored i row p n = s.mapSlot i (Slot.stored row p n) := rfl

/-! ### The cells of the pool -/

/-- All cells, in the free list and in the pulses. -/
def allCells (s : State) : List Nat := s.freeCells ++ heldCells s

/-- The cells held, with those of one slot taken out, before and after a change of this slot. -/
theorem heldCells_mapSlot_perm (s : State) (i : SlotId) (f : Slot → Slot) :
    ∃ rest, (heldCells s).Perm (slotCells (s.slot i) ++ rest) ∧
      (heldCells (s.mapSlot i f)).Perm (slotCells (f (s.slot i)) ++ rest) :=
  Vector.flatMap_set_perm s.ring.slots i (f (s.slot i)) _

theorem heldCells_subperm {s t : State} (h : ∀ i, (slotCells (t.slot i)).Subperm (slotCells (s.slot i))) :
    (heldCells t).Subperm (heldCells s) := Vector.flatMap_subperm h

/-- From `s` to `t` the cells are the same, and every slot that counts them goes on counting them. -/
structure State.KeepsCells (s t : State) : Prop where
  cells : (allCells t).Perm (allCells s)
  counted : ∀ i, (s.slot i).Counted → (t.slot i).Counted

namespace State.KeepsCells

variable {s t u : State}

theorem refl (s : State) : s.KeepsCells s := ⟨.refl _, fun _ h => h⟩

theorem trans (h : s.KeepsCells t) (h' : t.KeepsCells u) : s.KeepsCells u :=
  ⟨h'.cells.trans h.cells, fun i hi => h'.counted i (h.counted i hi)⟩

theorem foldl {α : Type} {f : State → α → State} (hf : ∀ (s : State) a, s.KeepsCells (f s a)) (as : List α) (s : State) :
    s.KeepsCells (as.foldl f s) := by
  induction as generalizing s with
  | nil => exact refl s
  | cons a as ih => exact (hf s a).trans (ih (f s a))

/-- Where every slot keeps its chains and its total, and the free list stays. -/
theorem of_slots (hf : t.freeCells = s.freeCells)
    (h : ∀ i, (t.slot i).rows = (s.slot i).rows ∧ (t.slot i).totals.cellsHeld = (s.slot i).totals.cellsHeld) :
    s.KeepsCells t := by
  have hheld : heldCells t = heldCells s := by
    have e : ∀ v : State, heldCells v = (List.finRange 8).flatMap fun i => slotCells (v.slot i) := by
      intro v
      rw [heldCells, ← List.flatMap_map (f := v.slot)]
      congr 1
      apply List.ext_getElem <;> simp [State.slot]
    rw [e, e]
    exact List.flatMap_congr fun i _ => slotCells_of_rows (h i).1
  exact ⟨.of_eq (by rw [allCells, allCells, hf, hheld]), fun i => Slot.counted_congr (h i).1 (h i).2⟩

theorem of_ring (hf : t.freeCells = s.freeCells) (hr : t.ring.slots = s.ring.slots) : s.KeepsCells t :=
  of_slots hf fun i => by simp only [State.slot, hr, and_self]

theorem of_judges (h : s.Judges t) : s.KeepsCells t :=
  of_slots h.freeCells fun i => ⟨h.rows i, by rw [h.totals]⟩

theorem settle (s : State) : s.KeepsCells s.settle := by
  refine of_slots (by simp) fun i => ?_
  obtain ⟨st, d, h⟩ := s.slot_settle i
  rw [h]
  exact ⟨rfl, rfl⟩

theorem emitterTakes (s : State) : s.KeepsCells s.emitterTakes := by
  refine of_slots (by simp) fun i => ?_
  obtain ⟨st, h⟩ := s.slot_emitterTakes i
  rw [h]
  exact ⟨rfl, rfl⟩

/-- A change of one slot that keeps its chains and its total. -/
theorem mapSlot (i : SlotId) {f : Slot → Slot}
    (hf : ∀ t : Slot, (f t).rows = t.rows ∧ (f t).totals.cellsHeld = t.totals.cellsHeld) (s : State) :
    s.KeepsCells (s.mapSlot i f) := by
  refine of_slots rfl fun i' => ?_
  rw [State.slot_mapSlot_ite]
  split
  · next h => rw [h]; exact hf _
  · exact ⟨rfl, rfl⟩

theorem mapGlobals (f : GlobalCounters → GlobalCounters) (s : State) : s.KeepsCells (s.mapGlobals f) := of_ring rfl rfl

theorem countLate (l : LinkId) (s : State) : s.KeepsCells (s.countLate l) := of_ring rfl rfl

/-- A stored pulse holds the cells that leave the head of the free list (R49). -/
theorem appendStored {p : StoredPulse} {free : List Nat} (hfree : s.freeCells = p.cells ++ free) (i : SlotId) (row : RowId)
    (n : Nat) : s.KeepsCells (State.appendStored i row p n { s with freeCells := free }) := by
  rw [State.appendStored_eq]
  constructor
  · obtain ⟨others, ho, ho'⟩ := heldCells_mapSlot_perm s i (Slot.stored row p n)
    have held : (heldCells (s.mapSlot i (Slot.stored row p n))).Perm (p.cells ++ heldCells s) := by
      refine (ho'.trans ((slotCells_stored row p n _).append_right others)).trans ?_
      rw [List.append_assoc]
      exact ho.symm.append_left p.cells
    have all : (allCells (State.mapSlot i (Slot.stored row p n) { s with freeCells := free })).Perm
        (free ++ (p.cells ++ heldCells s)) := held.append_left free
    refine all.trans ?_
    rw [allCells, hfree, ← List.append_assoc]
    exact List.perm_append_comm.append_right _
  · intro i' hc
    rw [State.slot_mapSlot_ite]
    split
    · next hi => subst hi; exact hc.stored row p n
    · exact hc

theorem dropPulse (i : SlotId) (l : LinkId) (s : State) : s.KeepsCells (s.dropPulse i l) := by
  have h : s.KeepsCells (s.mapSlot i fun t =>
      let t' := (t.mapRecord l fun r => { r with droppedCount := satAdd cap16 r.droppedCount 1 }).mapTotals
        fun u => { u with poolDrops := satAdd cap32 u.poolDrops 1 }
      { t' with flags := { t'.flags with poolExhausted := true } }) := mapSlot i (by intro t; exact ⟨rfl, rfl⟩) s
  exact h.trans (of_ring rfl rfl)

theorem store (i : SlotId) (row : RowId) (p : Pulse) (n : Nat) (s : State) : s.KeepsCells (s.store i row p n) := by
  obtain ⟨header, codeCells, free, hfree, -, h⟩ | ⟨-, h⟩ := s.store_cases i row p n <;> rw [h]
  · exact appendStored (p := ⟨p, header, codeCells⟩) hfree i row n
  · exact dropPulse ..

theorem fileOwn (x : BurstContext) (own : Option SlotId) (p : FormedPulse) (s : State) :
    s.KeepsCells (s.fileOwn x own p) := by
  cases own with
  | none => exact refl s
  | some i => exact store ..

theorem fileCopy (x : BurstContext) (receiving : Option SlotId) (p : FormedPulse) (s : State) :
    s.KeepsCells (s.fileCopy x receiving p) := by
  unfold State.fileCopy
  split
  · exact refl s
  · split
    · exact store ..
    · exact refl s

theorem filePulses (x : BurstContext) (own receiving : Option SlotId) (ps : List FormedPulse) (s : State) :
    s.KeepsCells (s.filePulses x own receiving ps) :=
  (mapGlobals _ s).trans (foldl (fun s p => (fileOwn x own p s).trans (fileCopy x receiving p _)) ps _)

theorem fileBurst (l : LinkId) (x : Heartbeat) (b : Burst) (e : PadEntry) (row : RowId)
    (own receiving : Option SlotId) (charged : SlotId) (s : State) :
    s.KeepsCells (s.fileBurst l x b e row own receiving charged) := by
  have record : ∀ f (s : State), s.KeepsCells (s.mapRecord charged l f) := fun f s => of_judges (.mapRecord ..)
  have hmark : s.KeepsCells (if b.checkError || b.truncated then
      s.mapRecord charged l fun r => { r with flags := { r.flags with checkError := true } } else s) := by
    split
    · exact record _ s
    · exact refl s
  unfold State.fileBurst
  dsimp only
  split
  · exact hmark.trans (record _ _)
  · split
    · exact hmark.trans ((mapSlot _ (by intro t; exact ⟨rfl, rfl⟩) _).trans (mapGlobals ..))
    · exact hmark.trans (filePulses ..)

theorem applyBurst (l : LinkId) (x : Heartbeat) (b : Burst) (own receiving : Option SlotId) (charged : SlotId)
    (s : State) : s.KeepsCells (s.applyBurst l x b own receiving charged) := by
  unfold State.applyBurst
  dsimp only
  split
  · split
    · split
      · exact (mapSlot _ (by intro t; exact ⟨rfl, rfl⟩) _).trans (mapGlobals ..)
      · exact fileBurst ..
    · exact mapSlot _ (by intro t; exact ⟨rfl, rfl⟩) _
  · exact mapSlot _ (by intro t; exact ⟨rfl, rfl⟩) _

theorem takeBurstItem (l : LinkId) (b : Burst) (s : State) : s.KeepsCells (s.takeBurstItem l b) := by
  unfold State.takeBurstItem
  split
  · exact countLate ..
  · split
    · exact countLate ..
    · exact applyBurst ..
    · exact applyBurst ..

/-- The pulses of a ROW frame give their cells back to the free list (R51). -/
theorem returnCells (i : SlotId) (row : RowId) (n : Nat) (s : State) : s.KeepsCells (s.returnCells i row n) := by
  obtain ⟨rest, h, h'⟩ := slotCells_set_perm (s.slot i) row (((s.slot i).rows[row]).drop n)
  generalize hback : (((s.slot i).rows[row]).take n).flatMap StoredPulse.cells = back
  have left : (slotCells (s.slot i)).Perm
      (back ++ slotCells { s.slot i with rows := (s.slot i).rows.set row (((s.slot i).rows[row]).drop n) }) := by
    refine h.trans ?_
    have cut : ((s.slot i).rows[row]).flatMap StoredPulse.cells =
        back ++ (((s.slot i).rows[row]).drop n).flatMap StoredPulse.cells := by
      rw [← hback, ← List.flatMap_append, List.take_append_drop]
    rw [cut, List.append_assoc]
    exact h'.symm.append_left back
  have after : s.returnCells i row n = { s with freeCells := s.freeCells ++ back }.mapSlot i fun t =>
      { t with
        rows := t.rows.set row (t.rows[row].drop n)
        totals := { t.totals with cellsHeld := t.totals.cellsHeld - back.length } } := by
    rw [← hback]
    rfl
  rw [after]
  constructor
  · obtain ⟨others, ho, ho'⟩ := heldCells_mapSlot_perm s i fun t =>
      { t with
        rows := t.rows.set row (t.rows[row].drop n)
        totals := { t.totals with cellsHeld := t.totals.cellsHeld - back.length } }
    have held : (heldCells s).Perm (back ++ (slotCells
        { s.slot i with rows := (s.slot i).rows.set row (((s.slot i).rows[row]).drop n) } ++ others)) := by
      rw [← List.append_assoc]
      exact ho.trans (left.append_right others)
    have all := (held.trans (ho'.symm.append_left back)).append_left s.freeCells
    refine List.Perm.trans ?_ all.symm
    rw [← List.append_assoc]
    exact .refl _
  · intro i' hc
    rw [State.slot_mapSlot_ite]
    split
    · next hi =>
      subst hi
      have hlen := left.length_eq
      rw [List.length_append] at hlen
      have hc' : (s.slot i').totals.cellsHeld = (slotCells (s.slot i')).length := hc
      show (s.slot i').totals.cellsHeld - back.length =
        (slotCells { s.slot i' with rows := (s.slot i').rows.set row (((s.slot i').rows[row]).drop n) }).length
      omega
    · exact hc

end State.KeepsCells

/-! ### Cells that are given up -/

/-- From `s` to `t` no cell enters: those of `t` are among those of `s`. -/
def State.LosesCells (s t : State) : Prop := (allCells t).Subperm (allCells s)

namespace State.LosesCells

variable {s t u : State}

theorem of_keeps (h : s.KeepsCells t) : s.LosesCells t := h.cells.subperm

theorem trans (h : s.LosesCells t) (h' : t.LosesCells u) : s.LosesCells u := List.Subperm.trans h' h

/-- Where the free list stays, and every slot keeps its chains or empties them. -/
theorem of_slots (hf : t.freeCells = s.freeCells)
    (h : ∀ i, slotCells (t.slot i) = slotCells (s.slot i) ∨ slotCells (t.slot i) = []) : s.LosesCells t := by
  unfold State.LosesCells allCells
  rw [hf]
  refine (List.Subperm.refl _).append (heldCells_subperm fun i => ?_)
  obtain h | h := h i <;> rw [h]
  · exact List.nil_subperm

theorem standOnce (h : s.LosesCells t) (hs : CellsStandOnce s) : CellsStandOnce t := by
  obtain ⟨hnodup, hbound⟩ := hs
  obtain ⟨cs, hperm, hsub⟩ := h
  exact ⟨(hperm.nodup_iff).mp (hsub.nodup hnodup), fun c hc => hbound c (hsub.subset (hperm.mem_iff.mpr hc))⟩

end State.LosesCells

@[simp] theorem slotCells_openedSlot (s : State) (j : Nat) (starts : Bool) : slotCells (s.openedSlot j starts) = [] :=
  slotCells_of_empty fun r => by simp [State.openedSlot]

@[simp] theorem slotCells_examined (t : Slot) : slotCells t.examined = slotCells t := slotCells_of_rows (by simp)

@[simp] theorem slotCells_free : slotCells Slot.free = [] := slotCells_of_empty fun r => by simp [Slot.free]

/-- What each opening keeps, a fill-opening keeps. -/
theorem State.fillOpen_induction {P : State → Prop} {starts : Bool} (step : ∀ s j, P s → P (s.openAt starts j)) (t : Fin 8)
    {s : State} (h : P s) : P (s.fillOpen t starts) := by
  unfold State.fillOpen
  split
  · clear * - h step
    generalize (List.finRange 8).filter (· ≤ t) = js
    induction js generalizing s with
    | nil => exact h
    | cons j js ih => exact ih (step s j h)
  · exact h

theorem State.fillOpen_freeCells (t : Fin 8) (starts : Bool) (s : State) : (s.fillOpen t starts).freeCells = s.freeCells := by
  refine State.fillOpen_induction (P := fun v => v.freeCells = s.freeCells) (fun v j h => ?_) t rfl
  unfold State.openAt
  split <;> simp [h]

theorem State.fillOpen_losesCells (t : Fin 8) (starts : Bool) (s : State) : s.LosesCells (s.fillOpen t starts) := by
  refine .of_slots (s.fillOpen_freeCells t starts) fun i => ?_
  obtain ⟨k, rfl⟩ := s.slotAt_surjective i
  rw [State.slot_fillOpen]
  split
  · exact .inr (by simp)
  · exact .inl rfl

end Sys2Proof.Machine
end

section
/-! What the events at the slots write before they settle, in one relation that composes; the takings, expiries and commits as
such writings with one settling; and O7. -/

namespace Sys2Proof.Machine

open Sys2Proof Sys2Proof.Safety

theorem State.filling_of_waitsFor {s : State} {l : LinkId} {i : SlotId} (h : s.waitsFor l i = true) :
    (s.slot i).state = .filling := by
  simp only [State.waitsFor, Bool.and_eq_true, decide_eq_true_eq] at h
  exact h.1

/-! ### What the events at the slots write -/

/-- From `s` to `t` only slots change that are not FREE, in neither state nor slice, and only FILLING slots in their chains; the
cells go on being those of the pool; cursor, settings, emitter and uplink stay. -/
structure State.Writes (s t : State) : Prop where
  slice : ∀ i, (t.slot i).state = (s.slot i).state ∧ (t.slot i).first = (s.slot i).first ∧
    (t.slot i).span = (s.slot i).span ∧ (t.slot i).epoch = (s.slot i).epoch
  free : ∀ i, (s.slot i).state = .free → t.slot i = s.slot i
  rows : ∀ i, (s.slot i).state ≠ .filling → (t.slot i).rows = (s.slot i).rows
  cells : s.KeepsCells t
  cursor : t.ring.cursor = s.ring.cursor
  cursorSlot : t.ring.cursorSlot = s.ring.cursorSlot
  newest : t.ring.newest = s.ring.newest
  settings : t.settings = s.settings
  emitter : t.emitter = s.emitter
  uplink : t.uplink = s.uplink

namespace State.Writes

variable {s t u : State}

theorem state (h : s.Writes t) (i : SlotId) : (t.slot i).state = (s.slot i).state := (h.slice i).1

theorem refl (s : State) : s.Writes s :=
  ⟨fun _ => ⟨rfl, rfl, rfl, rfl⟩, fun _ _ => rfl, fun _ _ => rfl, .refl s, rfl, rfl, rfl, rfl, rfl, rfl⟩

theorem trans (h : s.Writes t) (h' : t.Writes u) : s.Writes u where
  slice i := by
    obtain ⟨h1, h2, h3, h4⟩ := h.slice i
    obtain ⟨h1', h2', h3', h4'⟩ := h'.slice i
    exact ⟨h1'.trans h1, h2'.trans h2, h3'.trans h3, h4'.trans h4⟩
  free i hi := (h'.free i (by rw [h.state, hi])).trans (h.free i hi)
  rows i hi := (h'.rows i (by rw [h.state]; exact hi)).trans (h.rows i hi)
  cells := h.cells.trans h'.cells
  cursor := h'.cursor.trans h.cursor
  cursorSlot := h'.cursorSlot.trans h.cursorSlot
  newest := h'.newest.trans h.newest
  settings := h'.settings.trans h.settings
  emitter := h'.emitter.trans h.emitter
  uplink := h'.uplink.trans h.uplink

theorem foldl {α : Type} {f : State → α → State} (hf : ∀ (s : State) a, s.Writes (f s a)) (as : List α) (s : State) :
    s.Writes (as.foldl f s) := by
  induction as generalizing s with
  | nil => exact refl s
  | cons a as ih => exact (hf s a).trans (ih (f s a))

/-- Where slots, pool and the other parts are the same. -/
theorem of_ring (hs : t.ring.slots = s.ring.slots) (hc : t.ring.cursor = s.ring.cursor)
    (hcs : t.ring.cursorSlot = s.ring.cursorSlot) (hn : t.ring.newest = s.ring.newest) (hf : t.freeCells = s.freeCells)
    (hset : t.settings = s.settings) (he : t.emitter = s.emitter) (hu : t.uplink = s.uplink) : s.Writes t := by
  have e : ∀ i, t.slot i = s.slot i := fun i => by simp only [State.slot, hs]
  exact ⟨fun i => by rw [e]; exact ⟨rfl, rfl, rfl, rfl⟩, fun i _ => e i, fun i _ => by rw [e], .of_ring hf hs, hc, hcs,
    hn, hset, he, hu⟩

theorem countLate (l : LinkId) (s : State) : s.Writes (s.countLate l) := of_ring rfl rfl rfl rfl rfl rfl rfl rfl

theorem setIntake (l : LinkId) (i : Intake) (s : State) : s.Writes (s.setIntake l i) :=
  of_ring rfl rfl rfl rfl rfl rfl rfl rfl

/-- A change of one slot that is not FREE. -/
theorem mapSlot {i : SlotId} {f : Slot → Slot} (hslice : (f (s.slot i)).state = (s.slot i).state ∧
      (f (s.slot i)).first = (s.slot i).first ∧ (f (s.slot i)).span = (s.slot i).span ∧
      (f (s.slot i)).epoch = (s.slot i).epoch)
    (hfree : (s.slot i).state ≠ .free) (hrows : (f (s.slot i)).rows = (s.slot i).rows)
    (hcells : (f (s.slot i)).totals = (s.slot i).totals) : s.Writes (s.mapSlot i f) where
  slice i' := by
    rw [State.slot_mapSlot_ite]
    split
    · next h => rw [h]; exact hslice
    · exact ⟨rfl, rfl, rfl, rfl⟩
  free i' hi := State.slot_mapSlot_ne (fun e : i' = i => hfree (e ▸ hi)) f s
  rows i' _ := by
    rw [State.slot_mapSlot_ite]
    split
    · next h => rw [h]; exact hrows
    · rfl
  cells := by
    refine .of_slots rfl fun i' => ?_
    rw [State.slot_mapSlot_ite]
    split
    · next h => rw [h, hrows, hcells]; exact ⟨rfl, rfl⟩
    · exact ⟨rfl, rfl⟩
  cursor := rfl
  cursorSlot := rfl
  newest := rfl
  settings := rfl
  emitter := rfl
  uplink := rfl

theorem mapRecord {i : SlotId} (h : (s.slot i).state = .filling) (l : LinkId) (f : LinkRecord → LinkRecord) :
    s.Writes (s.mapRecord i l f) := mapSlot ⟨rfl, rfl, rfl, rfl⟩ (by simp [h]) rfl rfl

theorem skipHeartbeat (l : LinkId) (s : State) (y : Heartbeat) : s.Writes (s.skipHeartbeat l y) := by
  have margin : ∀ v : State, v.Writes (match v.marginPart l y with
      | some i => v.mapRecord i l LinkRecord.marginAbsent
      | none => v) := by
    intro v
    split
    · next i h =>
      have := (Option.filter_eq_some_iff.mp h).2
      simp only [State.awaitsMargin, Bool.and_eq_true, decide_eq_true_eq] at this
      exact mapRecord this.1 ..
    · exact refl v
  unfold State.skipHeartbeat
  cases h : s.ownPart l y with
  | none => exact margin s
  | some i => exact (mapRecord (SlotsSound.ownPart_pending h).1 ..).trans (margin _)

theorem startsLater (l : LinkId) (s : State) (j : Fin 8) : s.Writes (s.startsLater l j) := by
  unfold State.startsLater
  split
  · next h => exact mapRecord (State.filling_of_waitsFor h) ..
  · exact refl s

theorem firstHeartbeat (l : LinkId) (x : Heartbeat) (t : Fin 8) (s : State) : s.Writes (s.firstHeartbeat l x t) := by
  unfold State.firstHeartbeat
  split
  · next h => exact (mapRecord (State.filling_of_waitsFor h.1) ..).trans (foldl (startsLater l) _ _)
  · exact foldl (startsLater l) _ _

theorem continuity (l : LinkId) (x : Heartbeat) (t : Fin 8) (s : State) : s.Writes (s.continuity l x t) := by
  unfold State.continuity
  split
  · exact firstHeartbeat ..
  · exact foldl (skipHeartbeat l) _ _

theorem giveUp {i : SlotId} (h : (s.slot i).state = .filling) : s.Writes (s.giveUp i) := by
  unfold State.giveUp
  refine mapSlot ?_ (by simp [h]) ?_ ?_ <;> simp

theorem cutLastOld (c : PendingCommit) (fc : Heartbeat) (s : State) : s.Writes (s.cutLastOld c fc) := by
  have cut : ∀ t : Slot, t.cut.state = t.state ∧ t.cut.first = t.first ∧ t.cut.span = t.span ∧ t.cut.epoch = t.epoch ∧
      t.cut.rows = t.rows ∧ t.cut.totals = t.totals := by
    intro t
    unfold Slot.cut
    dsimp only
    split <;> simp
  unfold State.cutLastOld
  split
  · dsimp only
    split
    · exact refl s
    · next hfree =>
      obtain ⟨hst, hfirst, hspan, hepoch, hrows, htot⟩ := cut (s.slot (s.slotAt ⟨c.oldSlices fc - 1, by omega⟩))
      exact mapSlot ⟨hst, hfirst, hspan, hepoch⟩ hfree hrows htot
  · exact refl s

end State.Writes

/-! ### A burst writes FILLING slots alone (R20, R21) -/

theorem State.slot_filePulse_ne {own receiving : Option SlotId} {i : SlotId} (ho : own ≠ some i)
    (hr : receiving ≠ some i) (x : BurstContext) (s : State) (p : FormedPulse) :
    (s.filePulse x own receiving p).slot i = s.slot i := by
  have h1 : (s.fileOwn x own p).slot i = s.slot i := by
    cases own with
    | none => rfl
    | some j => exact State.slot_store_ne (fun e : i = j => ho (e ▸ rfl)) ..
  unfold State.filePulse State.fileCopy
  split
  · exact h1
  · next j =>
    split
    · rw [State.slot_store_ne (fun e : i = j => hr (e ▸ rfl))]
      exact h1
    · exact h1

theorem State.slot_filePulses_ne {own receiving : Option SlotId} {i : SlotId} (ho : own ≠ some i)
    (hr : receiving ≠ some i) (x : BurstContext) (ps : List FormedPulse) (s : State) :
    (s.filePulses x own receiving ps).slot i = s.slot i := by
  unfold State.filePulses
  generalize hv : s.mapGlobals _ = v
  have e : v.slot i = s.slot i := by rw [← hv]; rfl
  rw [← e]
  clear hv e
  induction ps generalizing v with
  | nil => rfl
  | cons p ps ih => rw [List.foldl_cons, ih, State.slot_filePulse_ne ho hr]

theorem State.slot_applyBurst_ne {own receiving : Option SlotId} {charged i : SlotId} (ho : own ≠ some i)
    (hr : receiving ≠ some i) (hc : i ≠ charged) (l : LinkId) (x : Heartbeat) (b : Burst) (s : State) :
    (s.applyBurst l x b own receiving charged).slot i = s.slot i := by
  have count : ∀ (f : Slot → Slot) (v : State), (v.mapSlot charged f).slot i = v.slot i :=
    fun f v => State.slot_mapSlot_ne hc f v
  unfold State.applyBurst
  dsimp only
  split
  · split
    · split
      · exact count _ s
      · unfold State.fileBurst
        dsimp only
        have hmark : ∀ c : Prop, [Decidable c] → (if c then s.mapRecord charged l fun r =>
            { r with flags := { r.flags with checkError := true } } else s).slot i = s.slot i := by
          intro c _
          split
          · exact count _ s
          · rfl
        split
        · exact (count _ _).trans (hmark _)
        · split
          · exact (count _ _).trans (hmark _)
          · rw [State.slot_filePulses_ne ho hr]
            exact hmark _
    · exact count _ s
  · exact count _ s

theorem State.marginPart_awaited {s : State} {l : LinkId} {x : Heartbeat} {i : SlotId} (h : s.marginPart l x = some i) :
    (s.slot i).state = .filling ∧ (s.record i l).margin = .awaited := by
  have := (Option.filter_eq_some_iff.mp h).2
  simpa [State.awaitsMargin] using this

theorem State.Writes.applyBurst {s : State} {l : LinkId} {x : Heartbeat} {own receiving : Option SlotId} {charged : SlotId}
    (ho : ∀ i, own = some i → (s.slot i).state = .filling) (hr : ∀ i, receiving = some i → (s.slot i).state = .filling)
    (hc : (s.slot charged).state = .filling) (b : Burst) : s.Writes (s.applyBurst l x b own receiving charged) := by
  have hch := State.ChangesSlots.applyBurst l x b own receiving charged s
  have hf := State.Files.applyBurst l x b own receiving charged s
  have hne : ∀ i, (s.slot i).state ≠ .filling → (s.applyBurst l x b own receiving charged).slot i = s.slot i :=
    fun i hi => State.slot_applyBurst_ne (fun e => hi (ho i e)) (fun e => hi (hr i e)) (fun e => hi (e ▸ hc)) l x b s
  refine ⟨fun i => ?_, fun i hi => hne i (by simp [hi]), fun i hi => by rw [hne i hi],
    .applyBurst l x b own receiving charged s, hch.cursor, hch.cursorSlot, hch.newest, hch.settings, hf.emitter, hch.uplink⟩
  obtain ⟨h1, h2, -, h3, -⟩ := (hf.slots i).slice
  exact ⟨(hf.slots i).state, h1, h2, h3⟩

theorem State.Writes.takeBurstItem (l : LinkId) (b : Burst) (s : State) : s.Writes (s.takeBurstItem l b) := by
  have own : ∀ x i, s.ownPart l x = some i → (s.slot i).state = .filling := fun x i h => (SlotsSound.ownPart_pending h).1
  have margin : ∀ x i, s.marginPart l x = some i → (s.slot i).state = .filling := fun x i h => (s.marginPart_awaited h).1
  unfold State.takeBurstItem
  split
  · exact countLate ..
  · next x _ =>
    split
    · exact countLate ..
    · next i hi => exact applyBurst (fun i' h => Option.some.inj h ▸ own x i hi) (margin x) (own x i hi) b
    · next i _ hi => exact applyBurst (by simp) (fun i' h => Option.some.inj h ▸ margin x i hi) (margin x i hi) b

/-! ### The other takings: a writing, and one settling -/

/-- The state of a taking of an HB_CLOSE in the open heartbeat `x` before it settles. -/
def State.closedFor (l : LinkId) (x : Heartbeat) (c : Close) (s : State) : State :=
  let own := s.ownPart l x
  let receiving := s.marginPart l x
  let s' := ((s.closeIntake l).closeOwn l x c own).closeMargin l receiving
  if own.isNone && receiving.isNone then s'.countLate l else s'

theorem State.takeClose_eq (l : LinkId) (c : Close) (s : State) :
    s.takeClose l c = match (s.intake l).openHeartbeat with
      | none => s.countLate l
      | some x => (s.closedFor l x c).settle := rfl

/-- The state of a taking of a LOSS in the open heartbeat `x` before it settles. -/
def State.lostFor (l : LinkId) (x : Heartbeat) (s : State) : State :=
  let s1 := match s.ownPart l x with
    | some i => s.mapRecord i l (LinkRecord.miss fun f => { f with ingressLoss := true })
    | none => s
  let s2 := match s.marginPart l x with
    | some i => s1.mapRecord i l LinkRecord.marginAbsent
    | none => s1
  s2.closeIntake l

theorem State.takeLossItem_eq (l : LinkId) (s : State) :
    s.takeLossItem l = match (s.intake l).openHeartbeat with
      | none => s
      | some x => (s.lostFor l x).settle := rfl

/-- The state of a taking of a LINK_DOWN before it settles. -/
def State.downFor (l : LinkId) (reason : DownReason) (s : State) : State :=
  ((List.finRange 8).foldl (State.downAt l reason) s).setIntake l ⟨none, none⟩

theorem State.takeDownItem_eq (l : LinkId) (reason : DownReason) (s : State) :
    s.takeDownItem l reason = (s.downFor l reason).settle := by
  simp only [State.takeDownItem, State.downFor]

namespace State.Writes

variable {s t u : State}

theorem closeOwn {l : LinkId} {x : Heartbeat} {c : Close} {own : Option SlotId}
    (h : ∀ i, own = some i → (s.slot i).state = .filling) : s.Writes (s.closeOwn l x c own) := by
  cases own with
  | none => exact refl s
  | some i => exact mapSlot ⟨rfl, rfl, rfl, rfl⟩ (by simp [h i rfl]) rfl rfl

theorem closeMargin {l : LinkId} {receiving : Option SlotId}
    (h : ∀ i, receiving = some i → (s.slot i).state = .filling) : s.Writes (s.closeMargin l receiving) := by
  cases receiving with
  | none => exact refl s
  | some i => exact mapRecord (h i rfl) ..

theorem closedFor (l : LinkId) (x : Heartbeat) (c : Close) (s : State) : s.Writes (s.closedFor l x c) := by
  have h1 : s.Writes ((s.closeIntake l).closeOwn l x c (s.ownPart l x)) :=
    (setIntake ..).trans (closeOwn fun i hi => (SlotsSound.ownPart_pending (s := s) hi).1)
  have h2 : s.Writes (((s.closeIntake l).closeOwn l x c (s.ownPart l x)).closeMargin l (s.marginPart l x)) :=
    h1.trans (closeMargin fun i hi => by rw [h1.state]; exact (s.marginPart_awaited hi).1)
  unfold State.closedFor
  dsimp only
  split
  · exact h2.trans (countLate ..)
  · exact h2

theorem lostFor (l : LinkId) (x : Heartbeat) (s : State) : s.Writes (s.lostFor l x) := by
  have own : ∀ i, s.ownPart l x = some i → (s.slot i).state = .filling := fun i h => (SlotsSound.ownPart_pending h).1
  have margin : ∀ i, s.marginPart l x = some i → (s.slot i).state = .filling := fun i h => (s.marginPart_awaited h).1
  unfold State.lostFor
  dsimp only
  refine trans ?_ (setIntake ..)
  split <;> split
  · next i hi _ i' hi' =>
    have h1 : s.Writes _ := mapRecord (own i' hi') l (LinkRecord.miss fun f => { f with ingressLoss := true })
    exact h1.trans (mapRecord (by rw [h1.state]; exact margin i hi) ..)
  · next i hi _ _ => exact mapRecord (margin i hi) ..
  · next _ i' hi' => exact mapRecord (own i' hi') ..
  · exact refl s

theorem downFor (l : LinkId) (reason : DownReason) (s : State) : s.Writes (s.downFor l reason) := by
  refine (foldl (fun s i => ?_) _ s).trans (setIntake ..)
  unfold State.downAt
  split
  · next h => exact mapRecord h ..
  · exact refl s

/-- A FORCE_CLOSE before it settles (R37). -/
theorem forced {i : SlotId} (h : (s.slot i).state = .filling) :
    s.Writes ((s.giveUp i).mapSlot i fun t => { t with flags := { t.flags with forced := true } }) := by
  have h1 := giveUp h
  exact h1.trans (mapSlot ⟨rfl, rfl, rfl, rfl⟩ (by rw [h1.state, h]; simp) rfl rfl)

theorem timebase (s : State) :
    s.Writes { s with ring := { s.ring with slots := Vector.ofFn fun i : SlotId => s.ring.slots[i].countDown } } := by
  have e : ∀ i, State.slot { s with ring := { s.ring with
      slots := Vector.ofFn fun i : SlotId => s.ring.slots[i].countDown } } i = (s.slot i).countDown := by
    intro i; simp [State.slot]
  have down : ∀ t : Slot, t.countDown.state = t.state ∧ t.countDown.first = t.first ∧ t.countDown.span = t.span ∧
      t.countDown.epoch = t.epoch ∧ t.countDown.rows = t.rows ∧ t.countDown.totals = t.totals := by
    intro t
    unfold Slot.countDown
    split <;> simp
  refine ⟨fun i => ?_, fun i hi => ?_, fun i _ => ?_, .of_slots rfl fun i => ?_, rfl, rfl, rfl, rfl, rfl, rfl⟩
  · rw [e]
    obtain ⟨h1, h2, h3, h4, -⟩ := down (s.slot i)
    exact ⟨h1, h2, h3, h4⟩
  · rw [e]
    simp [Slot.countDown, hi]
  · rw [e]
    obtain ⟨-, -, -, -, h, -⟩ := down (s.slot i)
    exact h
  · rw [e]
    obtain ⟨-, -, -, -, h, h'⟩ := down (s.slot i)
    exact ⟨h, by rw [h']⟩

end State.Writes

/-- The oldest FILLING slot is FILLING. -/
theorem State.oldestFilling_filling {s : State} {i : SlotId} (h : s.oldestFilling = some i) :
    (s.slot i).state = .filling := by
  simpa using List.find?_some h

/-! ### Every step keeps every cell from standing twice -/

theorem State.takeOpen_losesCells (l : LinkId) (x : Heartbeat) (s : State) : s.LosesCells (s.takeOpen l x) := by
  have hc : s.LosesCells (s.setCursor x) := .of_keeps (.of_judges (.setCursor x s))
  rw [State.takeOpen_eq]
  split
  · exact hc.trans (.of_keeps (.of_ring rfl rfl))
  · exact hc
  · next t _ =>
    have ho : s.LosesCells ((s.setCursor x).fillOpen t (s.startsPartially x)) := hc.trans (State.fillOpen_losesCells ..)
    generalize (s.setCursor x).fillOpen t (s.startsPartially x) = v at ho
    exact ho.trans (.of_keeps ((State.KeepsCells.of_judges (v.openedFor_judges l x t)).trans (.settle _)))

theorem State.afterTail_losesCells (first : Bool) (i : SlotId) (s : State) : s.LosesCells (s.afterTail first i) := by
  have hr : s.LosesCells (s.countEmitted.releaseSlot i) := by
    refine .of_slots (by simp) fun i' => ?_
    have e : (s.countEmitted.releaseSlot i).slot i' = (s.countEmitted.emptySlot i).slot i' := by simp [State.slot]
    rw [e]
    unfold State.emptySlot
    rw [State.slot_mapSlot_ite]
    split
    · exact .inr (by simp)
    · exact .inl rfl
  have hb : ∀ v : State, v.LosesCells v.boundary := fun v => .of_keeps (.of_ring (by simp) (by simp))
  obtain ⟨-, h⟩ | ⟨-, -, h⟩ | ⟨-, -, h⟩ := s.afterTail_cases first i <;> rw [h]
  · exact .of_keeps (.of_ring rfl rfl)
  · exact (hr.trans (hb _)).trans (.of_keeps (.emitterTakes _))
  · exact (hr.trans (.of_keeps (.emitterTakes _))).trans (hb _)

/-- What the core moves do to the cells: no cell enters, or the pool is refilled over an emptied ring. -/
theorem CoreMove.losesCells {s t : State} (h : CoreMove s t) :
    s.LosesCells t ∨ t.ring = .reset ∧ t.freeCells = refilled := by
  have of_ring {t : State} (hf : t.freeCells = s.freeCells) (hr : t.ring.slots = s.ring.slots) :
      s.LosesCells t ∨ t.ring = .reset ∧ t.freeCells = refilled := .inl (.of_keeps (.of_ring hf hr))
  have settled {v : State} (hw : s.Writes v) : s.LosesCells v.settle ∨ v.settle.ring = .reset ∧ v.settle.freeCells = refilled :=
    .inl (.of_keeps (hw.cells.trans (.settle v)))
  cases h with
  | takeOpen l x _ => exact .inl (s.takeOpen_losesCells l x)
  | takeBurst l b => exact .inl (.of_keeps (.takeBurstItem l b s))
  | takeClose l c =>
    rw [State.takeClose_eq]
    split
    · exact of_ring rfl rfl
    · exact settled (.closedFor ..)
  | takeLoss l =>
    rw [State.takeLossItem_eq]
    split
    · exact of_ring rfl rfl
    · exact settled (.lostFor ..)
  | takeDown l reason =>
    rw [State.takeDownItem_eq]
    exact settled (.downFor ..)
  | timebase => exact .inl (.of_keeps (State.Writes.timebase s).cells)
  | expiry i hf => exact settled (.giveUp hf)
  | epochMarkSent i f _ => exact of_ring (by simp [State.afterEpochMark]) (by simp [State.afterEpochMark])
  | headSent i f _ => exact of_ring (by simp [State.afterHead]) (by simp [State.afterHead])
  | rowSent i f _ =>
    obtain ⟨e, -, ⟨-, h⟩ | ⟨-, h⟩⟩ := s.afterRow_cases i f <;> rw [h]
    · exact .inl (.of_keeps ((State.KeepsCells.returnCells i s.emitter.row f.pulses s).trans (.of_ring (t := State.recordBoundary _)
        (by simp) (by simp))))
    · exact of_ring (by simp) (by simp)
  | tailSent i f first _ => exact .inl (s.afterTail_losesCells first i)
  | boundary => exact of_ring (by simp) (by simp)
  | writeSettings c hc => exact of_ring rfl rfl
  | commitNow hf hr hc => exact of_ring rfl rfl
  | commitPending fc hf hr hc =>
    rw [State.commitPendingFrom_fst]
    have h1 : s.KeepsCells (s.withCommit fc) := .of_ring rfl rfl
    have h2 := h1.trans (State.Writes.cutLastOld (s.newCommit fc) fc _).cells
    exact .inl (.of_keeps ((h2.trans (.of_ring (by simp) (by simp))).trans (.settle _)))
  | forceClose i hi => exact settled (.forced (State.oldestFilling_filling hi))
  | setStopping k => exact of_ring rfl rfl
  | restart hr hc _ _ _ => exact .inr ⟨hr, hc⟩
  | pinReset => exact .inr ⟨rfl, rfl⟩

theorem allCells_of_reset {s : State} (hr : s.ring = .reset) (hf : s.freeCells = refilled) : allCells s = refilled := by
  have hheld : heldCells s = [] := by
    refine List.flatMap_eq_nil_iff.mpr fun t ht => ?_
    rw [hr] at ht
    have : t = .free := by simpa [Ring.reset] using ht
    rw [this, slotCells_free]
  rw [allCells, hf, hheld, List.append_nil]

theorem cellsStandOnce_of_reset {s : State} (hr : s.ring = .reset) (hf : s.freeCells = refilled) : CellsStandOnce s := by
  have h : s.freeCells ++ heldCells s = refilled := allCells_of_reset hr hf
  rw [CellsStandOnce, h]
  refine ⟨List.nodup_range', fun c hc => ?_⟩
  simp only [refilled, List.mem_range'_1] at hc
  omega

/-- Settles O7: no move of the core lets a cell enter, but for the refill over an emptied ring. -/
theorem cellsStandOnceAlways : Obligations.CellsStandOnceAlways := by
  refine keptByStep_of_core (fun s t h hs => ?_) fun s t h hs => ?_
  · exact (State.LosesCells.of_keeps (.of_ring h.freeCells h.slots)).standOnce hs
  · obtain h | ⟨hr, hf⟩ := h.losesCells
    · exact h.standOnce hs
    · exact cellsStandOnce_of_reset hr hf

end Sys2Proof.Machine
end

section
/-! Ring, emitter and transmitter go on agreeing (R2, R3, R6, R113 to R115): O8. -/

namespace Sys2Proof.Machine

open Sys2Proof Sys2Proof.Safety

/-- Ring and emitter agree, as `RingLegal` has it, but for what the transmitter sends and for the taking at once: what holds
between an event at the slots and its settling. -/
structure RingSound (s : State) : Prop where
  emptied : ∀ i : SlotId, (s.slot i).state = .free → s.slot i = .free
  unset : s.ring.cursor = none → ∀ i : SlotId, (s.slot i).state = .free
  consecutive : ∀ j k : Fin 8, k ≤ j → (s.slot (s.slotAt j)).state ≠ .free → (s.slot (s.slotAt k)).state ≠ .free
  record : ∀ i : SlotId, s.emitter.slot = some i ↔ (s.slot i).state = .emitting
  active : ∀ i : SlotId, s.emitter.slot = some i →
    i = s.ring.cursorSlot ∧ s.emitter.state ≠ .idle ∧ s.emitter.next ≠ none ∧ s.emitter.next ≠ some .reply
  idle : s.emitter.slot = none → s.emitter.state = .idle ∧ s.emitter.next = none

/-- The transmitter sends a record frame only as the emitter's next frame, and waits at a boundary only for a restart. -/
structure SendsNext (s : State) : Prop where
  transmitting : ∀ f, s.uplink.tx = .frame f → f.kind ≠ .reply → s.emitter.next = some f.kind
  boundary : s.uplink.tx = .boundary → s.emitter.stopping ≠ none

/-- An IDLE emitter with no restart waiting has no COMPLETE slot at the cursor. -/
def TakesAtOnce (s : State) : Prop :=
  s.emitter.state = .idle → s.emitter.stopping = none → (s.slot s.ring.cursorSlot).state ≠ .complete

theorem ringLegal_iff (s : State) : RingLegal s ↔ RingSound s ∧ SendsNext s ∧ TakesAtOnce s :=
  ⟨fun h => ⟨⟨h.emptied, h.unset, h.consecutive, h.record, h.active, h.idle⟩, ⟨h.transmitting, h.boundary⟩, h.takesAtOnce⟩,
    fun ⟨h, h', ht⟩ =>
      ⟨h.emptied, h.unset, h.consecutive, h.record, h.active, h.idle, h'.transmitting, h'.boundary, ht⟩⟩

theorem SendsNext.congr {s t : State} (h : SendsNext s) (htx : t.uplink.tx = s.uplink.tx)
    (hn : t.emitter.next = s.emitter.next) (hs : t.emitter.stopping = s.emitter.stopping) : SendsNext t :=
  ⟨by rw [htx, hn]; exact h.transmitting, by rw [htx, hs]; exact h.boundary⟩

namespace RingSound

variable {s t : State}

/-- Where slots change in neither state nor emptiness, and the emitter not in what the agreement is about. -/
theorem congr (h : RingSound s) (hstate : ∀ i, (t.slot i).state = (s.slot i).state)
    (hfree : ∀ i, (s.slot i).state = .free → t.slot i = s.slot i) (hc : t.ring.cursor = none → s.ring.cursor = none)
    (hcs : t.ring.cursorSlot = s.ring.cursorSlot) (hslot : t.emitter.slot = s.emitter.slot)
    (hidle : t.emitter.state = .idle ↔ s.emitter.state = .idle) (hnext : t.emitter.next = s.emitter.next) :
    RingSound t where
  emptied i hi := by
    rw [hstate] at hi
    rw [hfree i hi]
    exact h.emptied i hi
  unset hn i := by
    rw [hstate]
    exact h.unset (hc hn) i
  consecutive j k hk := by
    simp only [hstate, State.slotAt, hcs]
    exact h.consecutive j k hk
  record i := by
    rw [hslot, hstate]
    exact h.record i
  active i hi := by
    rw [hcs, Ne, hidle, hnext]
    exact h.active i (hslot ▸ hi)
  idle hi := by
    rw [hidle, hnext]
    exact h.idle (hslot ▸ hi)

theorem writes (h : RingSound s) (hw : s.Writes t) : RingSound t :=
  h.congr hw.state hw.free (by rw [hw.cursor]; exact id) hw.cursorSlot (by rw [hw.emitter]) (by rw [hw.emitter])
    (by rw [hw.emitter])

theorem of_slots (h : RingSound s) (hs : t.ring.slots = s.ring.slots) (hc : t.ring.cursor = none → s.ring.cursor = none)
    (hcs : t.ring.cursorSlot = s.ring.cursorSlot) (hslot : t.emitter.slot = s.emitter.slot)
    (hidle : t.emitter.state = .idle ↔ s.emitter.state = .idle) (hnext : t.emitter.next = s.emitter.next) :
    RingSound t := by
  have e : ∀ i, t.slot i = s.slot i := fun i => by simp only [State.slot, hs]
  exact h.congr (fun i => by rw [e]) (fun i _ => e i) hc hcs hslot hidle hnext

/-- An IDLE emitter has no record slot, and no slot is EMITTING. -/
theorem slot_of_idle (h : RingSound s) (hi : s.emitter.state = .idle) : s.emitter.slot = none := by
  cases he : s.emitter.slot with
  | none => rfl
  | some i => exact absurd hi (h.active i he).2.1

theorem not_emitting (h : RingSound s) (hi : s.emitter.state = .idle) (i : SlotId) : (s.slot i).state ≠ .emitting := by
  rw [Ne, ← h.record i, h.slot_of_idle hi]
  simp

/-- The examination of every slot: a change of state from FILLING to COMPLETE alone. -/
theorem examined (h : RingSound s) (hslot : ∀ i, t.slot i = (s.slot i).examined) (hc : t.ring.cursor = s.ring.cursor)
    (hcs : t.ring.cursorSlot = s.ring.cursorSlot) (he : t.emitter = s.emitter) : RingSound t where
  emptied i hi := by
    rw [hslot] at hi ⊢
    rw [Slot.examined_state_free] at hi
    rw [Slot.examined_of_ne (by simp [hi])]
    exact h.emptied i hi
  unset hn i := by
    rw [hslot, Slot.examined_state_free]
    exact h.unset (hc ▸ hn) i
  consecutive j k hk := by
    simp only [hslot, State.slotAt, hcs, Ne, Slot.examined_state_free]
    exact h.consecutive j k hk
  record i := by
    rw [hslot, Slot.examined_state_emitting, he]
    exact h.record i
  active i hi := by
    rw [hcs, he]
    exact h.active i (he ▸ hi)
  idle hi := by
    rw [he]
    exact h.idle (he ▸ hi)

/-- The taking of the COMPLETE cursor slot (R114). -/
theorem taking (h : RingSound s) (hi : s.emitter.state = .idle) (hcur : s.ring.cursor ≠ none)
    (hd : (s.slot s.ring.cursorSlot).state = .complete)
    (hslot : ∀ i, t.slot i = if i = s.ring.cursorSlot then { s.slot i with state := .emitting } else s.slot i)
    (hc : t.ring.cursor = s.ring.cursor) (hcs : t.ring.cursorSlot = s.ring.cursorSlot) {u : Slot}
    (he : t.emitter = s.emitterAt u) : RingSound t where
  emptied i hf := by
    rw [hslot] at hf ⊢
    split at hf
    · simp at hf
    · next hne =>
      rw [if_neg hne]
      exact h.emptied i hf
  unset hn := absurd (hc ▸ hn) hcur
  consecutive j k hk := by
    have e : ∀ m, (t.slot (t.slotAt m)).state = .free ↔ (s.slot (s.slotAt m)).state = .free := by
      intro m
      rw [State.slotAt, hcs, hslot]
      split
      · next hm =>
        have : s.slotAt m = s.ring.cursorSlot := hm
        simp [this, hd]
      · rfl
    simp only [Ne, e]
    exact h.consecutive j k hk
  record i := by
    rw [hslot, he]
    simp only [State.emitterAt, Option.some.injEq]
    split
    · next hi' => simp [hi']
    · next hi' => exact ⟨fun e => absurd e.symm hi', fun e => absurd e (h.not_emitting hi i)⟩
  active i hi' := by
    rw [he] at hi' ⊢
    simp only [State.emitterAt, Option.some.injEq] at hi' ⊢
    refine ⟨by rw [hcs, hi'], ?_, by simp, ?_⟩
    · split <;> simp
    · split <;> simp
  idle hn := by
    rw [he] at hn
    simp [State.emitterAt] at hn

theorem settle (h : RingSound s) : RingSound s.settle := by
  obtain ⟨-, -, -, -, -, -, -, -, hc, hcs, -⟩ := s.settle_frame
  by_cases ht : s.takesNext
  · obtain ⟨hslot, he⟩ := State.settle_of_takes ht
    obtain ⟨-, -, -, hset, hem, hu, -, -, -, hc', hcs', -⟩ := s.examineAll_frame
    have hx : RingSound s.examineAll := h.examined (State.slot_examineAll_eq s) hc' hcs' hem
    obtain ⟨hi, -, hcur, hd⟩ := s.takesNext_iff.mp ht
    refine hx.taking hi hcur hd (fun i => ?_) (hc.trans hc'.symm) (hcs.trans hcs'.symm) (u := s.slot s.ring.cursorSlot) ?_
    · rw [hslot, hcs', State.slot_examineAll_eq]
    · rw [he]
      simp [State.emitterAt, hset, hem, hu, hcs']
  · obtain ⟨hslot, he⟩ := State.settle_of_not_takes ht
    exact h.examined hslot hc hcs he

theorem emitterTakes (h : RingSound s) : RingSound s.emitterTakes := by
  have hf := State.ChangesSlots.emitterTakes s
  by_cases ht : s.emitter.state = .idle ∧ s.emitter.stopping = none ∧ s.ring.cursor ≠ none ∧
      (s.slot s.ring.cursorSlot).state = .complete
  · obtain ⟨hslot, he⟩ := s.emitterTakes_eq.1 ht
    obtain ⟨hi, -, hcur, hd⟩ := ht
    exact h.taking hi hcur hd hslot hf.cursor hf.cursorSlot he
  · rw [s.emitterTakes_eq.2 ht]
    exact h

/-- A boundary leaves the agreement as it is. -/
theorem boundary (h : RingSound s) : RingSound s.boundary :=
  h.of_slots (by simp) (by simp) (by simp) (by simp) (by
    simp only [State.boundary, State.arbitrate_frame, State.pauseAtBoundary]
    split
    · next hp => simp [hp.2]
    · rfl) (by simp)

theorem recordBoundary (h : RingSound s) : RingSound s.recordBoundary := by
  unfold State.recordBoundary
  split
  · exact h.boundary
  · exact h.of_slots rfl id rfl rfl Iff.rfl rfl

/-- The record goes on to its next frame. -/
theorem setNext (h : RingSound s) {k : FrameKind} (hk : k ≠ .reply) {i : SlotId} (hi : s.emitter.slot = some i)
    (hslots : t.ring.slots = s.ring.slots) (hc : t.ring.cursor = s.ring.cursor)
    (hcs : t.ring.cursorSlot = s.ring.cursorSlot) (hslot : t.emitter.slot = s.emitter.slot)
    (hstate : t.emitter.state = s.emitter.state) (hn : t.emitter.next = some k) : RingSound t := by
  have e : ∀ i, t.slot i = s.slot i := fun i => by simp only [State.slot, hslots]
  refine ⟨fun i => ?_, fun hn i => ?_, fun j k hk => ?_, fun i => ?_, fun i' hi' => ?_, fun hn => ?_⟩
  · rw [e]
    exact h.emptied i
  · rw [e]
    exact h.unset (hc ▸ hn) i
  · simp only [e, State.slotAt, hcs]
    exact h.consecutive j k hk
  · rw [e, hslot]
    exact h.record i
  · obtain ⟨h1, h2, -⟩ := h.active i' (hslot ▸ hi')
    rw [hcs, hstate, hn]
    exact ⟨h1, h2, by simp, by simpa using hk⟩
  · rw [hslot, hi] at hn
    simp at hn

end RingSound

/-- An IDLE emitter after its chance to take has no COMPLETE cursor slot to take. -/
theorem takesAtOnce_settle {s : State} (h : RingSound s) : TakesAtOnce s.settle := by
  obtain ⟨-, -, -, -, -, -, -, -, -, hcs, -⟩ := s.settle_frame
  intro hi hstop hd
  by_cases ht : s.takesNext
  · rw [(State.settle_of_takes ht).1, if_pos hcs] at hd
    simp at hd
  · obtain ⟨hslot, he⟩ := State.settle_of_not_takes ht
    rw [hcs, hslot] at hd
    rw [he] at hi hstop
    refine ht ⟨hi, hstop, fun hn => ?_, hd⟩
    have := h.unset hn s.ring.cursorSlot
    rw [Slot.examined_of_ne (by simp [this]), this] at hd
    simp at hd

theorem takesAtOnce_emitterTakes {s : State} (h : RingSound s) : TakesAtOnce s.emitterTakes := by
  have hf := State.ChangesSlots.emitterTakes s
  intro hi hstop hd
  by_cases ht : s.emitter.state = .idle ∧ s.emitter.stopping = none ∧ s.ring.cursor ≠ none ∧
      (s.slot s.ring.cursorSlot).state = .complete
  · rw [(s.emitterTakes_eq.1 ht).1, if_pos hf.cursorSlot] at hd
    simp at hd
  · rw [s.emitterTakes_eq.2 ht] at hi hstop hd
    refine ht ⟨hi, hstop, fun hn => ?_, hd⟩
    rw [h.unset hn] at hd
    simp at hd

/-- What an arbiter's choice sends: a TRAIN word, a REPLY, or the record's next frame. -/
theorem sendsNext_arbitrate {s : State} : SendsNext s.arbitrate := by
  unfold State.arbitrate
  split
  · exact ⟨by simp [State.transmitTrain], by simp [State.transmitTrain]⟩
  · split
    · exact ⟨by simp [State.transmit, uplinkFrame], by simp [State.transmit]⟩
    · split
      · next i kind ho =>
        have hn : s.emitter.next = some kind := by
          unfold State.offered at ho
          split at ho
          · split at ho <;> simp_all
          · simp at ho
        cases kind with
        | row =>
          unfold State.transmitRecord State.transmitRow
          dsimp only
          split
          · exact ⟨by simp [State.transmitTrain], by simp [State.transmitTrain]⟩
          · exact ⟨by simp [State.transmit, uplinkFrame, Emitter.formRow, hn], by simp [State.transmit]⟩
        | reply => exact ⟨by simp [State.transmitRecord, State.transmitTrain], by simp [State.transmitRecord, State.transmitTrain]⟩
        | _ => exact ⟨by simp [State.transmitRecord, State.transmit, uplinkFrame, hn], by simp [State.transmitRecord, State.transmit]⟩
      · exact ⟨by simp [State.transmitTrain], by simp [State.transmitTrain]⟩

theorem sendsNext_boundary (s : State) : SendsNext s.boundary := sendsNext_arbitrate

theorem sendsNext_recordBoundary (s : State) : SendsNext s.recordBoundary := by
  unfold State.recordBoundary
  split
  · exact sendsNext_boundary s
  · next h => exact ⟨by simp, by simp [h]⟩

theorem TakesAtOnce.congr {s t : State} (h : TakesAtOnce s) (hidle : t.emitter.state = .idle ↔ s.emitter.state = .idle)
    (hstop : t.emitter.stopping = s.emitter.stopping) (hcs : t.ring.cursorSlot = s.ring.cursorSlot)
    (hslot : ∀ i, (t.slot i).state = (s.slot i).state) : TakesAtOnce t := by
  unfold TakesAtOnce
  rw [hidle, hstop, hcs, hslot]
  exact h

/-! ### Opening (R10, R12) -/

/-- An opened slot is FILLING, or COMPLETE at once. -/
theorem openedSlot_state (s : State) (j : Nat) (starts : Bool) :
    (s.openedSlot j starts).examined.state = .filling ∨ (s.openedSlot j starts).examined.state = .complete := by
  unfold Slot.examined
  split
  · exact .inr rfl
  · exact .inl rfl

theorem State.fillOpen_emitter (t : Fin 8) (starts : Bool) (s : State) : (s.fillOpen t starts).emitter = s.emitter := by
  refine State.fillOpen_induction (P := fun v => v.emitter = s.emitter) (fun v j h => ?_) t rfl
  unfold State.openAt
  split <;> simp [h]

/-- A slot is FREE after a fill-opening when it was and lies past the offset, or the offset's slot was not FREE (R12). -/
theorem fillOpen_free (t : Fin 8) (starts : Bool) (s : State) (k : Fin 8) :
    ((s.fillOpen t starts).slot (s.slotAt k)).state = .free ↔
      (s.slot (s.slotAt k)).state = .free ∧ ((s.slot (s.slotAt t)).state = .free → ¬ k ≤ t) := by
  rw [State.slot_fillOpen]
  split
  · next h =>
    have := openedSlot_state s k.val (starts && decide (k = 0))
    constructor
    · intro hf
      rw [hf] at this
      simp at this
    · rintro ⟨-, hk⟩
      exact absurd h.2.1 (hk h.1)
  · next h => tauto

namespace RingSound

variable {s t : State}

/-- Opening from the cursor up keeps the slots that are not FREE first (R2, R12). -/
theorem fillOpen (h : RingSound s) (hc : s.ring.cursor ≠ none) (t : Fin 8) (starts : Bool) :
    RingSound (s.fillOpen t starts) := by
  have hw := State.ChangesSlots.fillOpen t starts s
  have he := s.fillOpen_emitter t starts
  refine ⟨fun i hi => ?_, fun hn => absurd (hw.cursor ▸ hn) hc, fun j k hk => ?_, fun i => ?_, fun i hi => ?_, fun hn => ?_⟩
  · obtain ⟨k, rfl⟩ := s.slotAt_surjective i
    obtain ⟨hf, ht⟩ := (fillOpen_free t starts s k).mp hi
    rw [State.slot_fillOpen, if_neg (by tauto)]
    exact h.emptied _ hf
  · have hold := h.consecutive j k hk
    have hmid := h.consecutive j t
    simp only [hw.slotAt, Ne, fillOpen_free] at hold ⊢
    intro hj hk'
    refine hj ⟨?_, fun ht hjt => hk'.2 ht (hk.trans hjt)⟩
    by_contra hj'
    exact hold hj' hk'.1
  · obtain ⟨k, rfl⟩ := s.slotAt_surjective i
    rw [he, h.record, State.slot_fillOpen]
    split
    · next hk =>
      have := openedSlot_state s k.val (starts && decide (k = 0))
      constructor
      · intro hem
        rw [hk.2.2] at hem
        simp at hem
      · intro hem
        rw [hem] at this
        simp at this
    · rfl
  · rw [he, hw.cursorSlot]
    exact h.active i (he ▸ hi)
  · rw [he]
    exact h.idle (he ▸ hn)

/-- The first HB_OPEN sets the cursor over FREE slots (R6). -/
theorem setCursor (h : RingSound s) (x : Heartbeat) : RingSound (s.setCursor x) := by
  unfold State.setCursor
  split
  · exact h
  · exact h.of_slots rfl (by simp) rfl rfl Iff.rfl rfl

theorem openedFor (h : RingSound s) (l : LinkId) (x : Heartbeat) (t : Fin 8) : RingSound (s.openedFor l x t) := by
  have h1 : RingSound ((s.continuity l x t).intakeAt l x) :=
    h.writes ((State.Writes.continuity l x t s).trans (.setIntake ..))
  have h2 : RingSound (((s.continuity l x t).intakeAt l x).updateNewest x) := by
    generalize (s.continuity l x t).intakeAt l x = v at h1
    unfold State.updateNewest
    split
    · exact h1
    · exact h1.of_slots rfl id rfl rfl Iff.rfl rfl
  unfold State.openedFor
  dsimp only
  split
  · exact h2
  · exact h2.writes (.countLate ..)

/-- The release of the record slot: it is emptied, and the cursor moves to the next (R6, R122). -/
theorem releaseSlot (h : RingSound s) {i : SlotId} (hi : s.emitter.slot = some i) : RingSound (s.releaseSlot i) := by
  obtain ⟨hcs, -⟩ := h.active i hi
  have hslot : ∀ i', (s.releaseSlot i).slot i' = if i' = i then .free else s.slot i' := by
    intro i'
    have e : (s.releaseSlot i).slot i' = (s.emptySlot i).slot i' := by simp [State.slot]
    rw [e, State.emptySlot, State.slot_mapSlot_ite]
  have hring := (s.releaseSlot_frame i).2.2.2.2.2.2.2.1
  have he := s.releaseSlot_emitter i
  have hat : ∀ j, (s.releaseSlot i).slotAt j = s.slotAt (j + 1) := by
    intro j
    simp only [State.slotAt, hring]
    show s.ring.cursorSlot + 1 + j = _
    rw [add_assoc, add_comm 1 j]
  have hlast : ∀ j : Fin 8, s.slotAt (j + 1) = i ↔ j = 7 := by
    intro j
    simp only [State.slotAt, hcs]
    constructor
    · intro e
      have : j + 1 = 0 := by simpa using e
      omega
    · rintro rfl
      simp
  refine ⟨fun i' hf => ?_, fun hn => ?_, fun j k hk => ?_, fun i' => ?_, fun i' hi' => ?_, fun _ => ?_⟩
  · rw [hslot] at hf ⊢
    split
    · rfl
    · next hne =>
      rw [if_neg hne] at hf
      exact h.emptied i' hf
  · rw [hring] at hn
    simp at hn
  · rw [hat, hat, hslot, hslot]
    by_cases hj : j = 7
    · rw [if_pos ((hlast j).mpr hj)]
      exact fun e => absurd rfl e
    · have hk7 : k ≠ 7 := by omega
      rw [if_neg (mt (hlast j).mp hj), if_neg (mt (hlast k).mp hk7)]
      refine h.consecutive (j + 1) (k + 1) ?_
      omega
  · rw [he, hslot]
    simp only [reduceCtorEq, false_iff]
    split
    · simp [Slot.free]
    · next hne =>
      rw [← h.record i', hi]
      simpa using fun e => hne e.symm
  · rw [he] at hi'
    simp at hi'
  · rw [he]
    simp

end RingSound

/-! ### The core moves -/

/-- A ring, an emitter and a transmitter after a reset or restart. -/
theorem ringLegal_of_reset {s : State} (hr : s.ring = .reset) (he : s.emitter = .reset)
    (htx : s.uplink.tx = .train ∨ ∃ f, s.uplink.tx = .frame f ∧ f.kind = .reply) : RingLegal s := by
  have e : ∀ i, s.slot i = .free := fun i => by simp [State.slot, hr, Ring.reset]
  refine (ringLegal_iff s).mpr ⟨⟨fun i _ => e i, fun _ i => ?_, fun j k _ hj => ?_, fun i => ?_, fun i hi => ?_, fun _ => ?_⟩,
    ⟨fun f hf hk => ?_, fun hb => ?_⟩, fun _ _ => ?_⟩
  · rw [e]; rfl
  · rw [e] at hj
    exact absurd rfl hj
  · rw [he, e]
    simp [Emitter.reset, Slot.free]
  · rw [he] at hi
    simp [Emitter.reset] at hi
  · rw [he]
    exact ⟨rfl, rfl⟩
  · obtain h | ⟨g, h, hg⟩ := htx <;> rw [h] at hf
    · simp at hf
    · obtain rfl := Transmitter.frame.inj hf
      exact absurd hg hk
  · obtain h | ⟨g, h, hg⟩ := htx <;> simp [h] at hb
  · rw [e]
    simp [Slot.free]

/-- While the emitter is IDLE no record frame is sent, so its taking cannot disagree with the transmitter. -/
theorem SendsNext.of_idle {s t : State} (hx : SendsNext s) (h : RingSound s) (hi : s.emitter.state = .idle)
    (htx : t.uplink.tx = s.uplink.tx) (hstop : t.emitter.stopping = s.emitter.stopping) : SendsNext t := by
  refine ⟨fun f hf hk => ?_, by rw [htx, hstop]; exact hx.boundary⟩
  have := hx.transmitting f (htx ▸ hf) hk
  rw [(h.idle (h.slot_of_idle hi)).2] at this
  simp at this

/-- An event at the slots, once it has settled. -/
theorem ringLegal_settle {v : State} (h : RingSound v) (hx : SendsNext v) : RingLegal v.settle := by
  have hc := State.ChangesSlots.settle v
  refine (ringLegal_iff _).mpr ⟨h.settle, ?_, takesAtOnce_settle h⟩
  by_cases ht : v.takesNext
  · exact hx.of_idle h ht.1 (by rw [hc.uplink]) hc.stopping
  · have he := (State.settle_of_not_takes ht).2
    exact hx.congr (by rw [hc.uplink]) (by rw [he]) hc.stopping

theorem ringLegal_emitterTakes {v : State} (h : RingSound v) (hx : SendsNext v) : RingLegal v.emitterTakes := by
  have hc := State.ChangesSlots.emitterTakes v
  refine (ringLegal_iff _).mpr ⟨h.emitterTakes, ?_, takesAtOnce_emitterTakes h⟩
  by_cases ht : v.emitter.state = .idle ∧ v.emitter.stopping = none ∧ v.ring.cursor ≠ none ∧
      (v.slot v.ring.cursorSlot).state = .complete
  · exact hx.of_idle h ht.1 (by rw [hc.uplink]) hc.stopping
  · rw [v.emitterTakes_eq.2 ht]
    exact hx

theorem SendsNext.writes {s t : State} (hx : SendsNext s) (hw : s.Writes t) : SendsNext t :=
  hx.congr (by rw [hw.uplink]) (by rw [hw.emitter]) (by rw [hw.emitter])

end Sys2Proof.Machine

namespace Sys2Proof.Safety.RingLegal

open Sys2Proof Sys2Proof.Machine

theorem sound {s : State} (h : RingLegal s) : RingSound s := ((ringLegal_iff s).mp h).1

theorem sends {s : State} (h : RingLegal s) : SendsNext s := ((ringLegal_iff s).mp h).2.1

theorem spares {s t : State} (h : RingLegal s) (hq : s.Spares t) : RingLegal t := by
  obtain ⟨hs, hx, ht⟩ := (ringLegal_iff s).mp h
  exact (ringLegal_iff t).mpr
    ⟨hs.of_slots hq.slots (by rw [hq.cursor]; exact id) hq.cursorSlot hq.emitterSlot hq.idle hq.next,
      hx.congr hq.tx hq.next hq.stopping, ht.congr hq.idle hq.stopping hq.cursorSlot fun i => by rw [hq.slot]⟩

theorem writes {s t : State} (h : RingLegal s) (hw : s.Writes t) : RingLegal t := by
  obtain ⟨hs, hx, ht⟩ := (ringLegal_iff s).mp h
  exact (ringLegal_iff t).mpr ⟨hs.writes hw, hx.writes hw,
    ht.congr (by rw [hw.emitter]) (by rw [hw.emitter]) hw.cursorSlot hw.state⟩

/-- Where slots, cursor and record stay. -/
theorem of_slots {s t : State} (h : RingLegal s) (hs : t.ring = s.ring) (he : t.emitter.slot = s.emitter.slot)
    (hst : t.emitter.state = s.emitter.state) (hn : t.emitter.next = s.emitter.next)
    (hstop : t.emitter.stopping = s.emitter.stopping) (htx : t.uplink.tx = s.uplink.tx) : RingLegal t := by
  obtain ⟨h', hx, ht⟩ := (ringLegal_iff s).mp h
  exact (ringLegal_iff t).mpr
    ⟨h'.of_slots (by rw [hs]) (by rw [hs]; exact id) (by rw [hs]) he (by rw [hst]) hn, hx.congr htx hn hstop,
      ht.congr (by rw [hst]) hstop (by rw [hs]) fun i => by simp only [State.slot, hs]⟩

end Sys2Proof.Safety.RingLegal

namespace Sys2Proof.Machine

open Sys2Proof Sys2Proof.Safety

theorem State.openedFor_frame (l : LinkId) (x : Heartbeat) (t : Fin 8) (s : State) :
    (s.openedFor l x t).settings = s.settings ∧ (s.openedFor l x t).uplink = s.uplink ∧
    (s.openedFor l x t).ring.cursor = s.ring.cursor ∧ (s.openedFor l x t).ring.cursorSlot = s.ring.cursorSlot ∧
    (s.openedFor l x t).emitter = s.emitter := by
  have h1 := (State.Writes.continuity l x t s).trans (.setIntake l ⟨some x, some x⟩ _)
  have h2 : ∀ v : State, (v.updateNewest x).settings = v.settings ∧ (v.updateNewest x).uplink = v.uplink ∧
      (v.updateNewest x).ring.cursor = v.ring.cursor ∧ (v.updateNewest x).ring.cursorSlot = v.ring.cursorSlot ∧
      (v.updateNewest x).emitter = v.emitter := by
    intro v
    unfold State.updateNewest
    split <;> exact ⟨rfl, rfl, rfl, rfl, rfl⟩
  obtain ⟨e1, e2, e3, e4, e5⟩ := h2 ((s.continuity l x t).intakeAt l x)
  have h3 := And.intro (e1.trans h1.settings) (And.intro (e2.trans h1.uplink) (And.intro (e3.trans h1.cursor)
    (And.intro (e4.trans h1.cursorSlot) (e5.trans h1.emitter))))
  unfold State.openedFor
  dsimp only
  split
  · exact h3
  · exact h3

theorem ringLegal_takeOpen {s : State} (h : RingLegal s) (l : LinkId) (x : Heartbeat) : RingLegal (s.takeOpen l x) := by
  obtain ⟨hs, hx, ht⟩ := (ringLegal_iff s).mp h
  have hc : RingLegal (s.setCursor x) := by
    have e : (s.setCursor x).ring.slots = s.ring.slots ∧ (s.setCursor x).ring.cursorSlot = s.ring.cursorSlot ∧
        (s.setCursor x).emitter = s.emitter ∧ (s.setCursor x).uplink = s.uplink := by
      unfold State.setCursor
      split <;> exact ⟨rfl, rfl, rfl, rfl⟩
    obtain ⟨e1, e2, e3, e4⟩ := e
    exact (ringLegal_iff _).mpr ⟨hs.setCursor x, hx.congr (by rw [e4]) (by rw [e3]) (by rw [e3]),
      ht.congr (by rw [e3]) (by rw [e3]) e2 fun i => by simp only [State.slot, e1]⟩
  rw [State.takeOpen_eq]
  split
  · exact hc.writes ((State.Writes.setIntake ..).trans (.countLate ..))
  · exact hc
  · next t hp =>
    have hcur : (s.setCursor x).ring.cursor ≠ none := by
      intro hn
      simp [State.place, hn] at hp
    obtain ⟨hs', hx', -⟩ := (ringLegal_iff _).mp hc
    have hf := State.ChangesSlots.fillOpen t (s.startsPartially x) (s.setCursor x)
    have he := State.fillOpen_emitter t (s.startsPartially x) (s.setCursor x)
    have ho := hs'.fillOpen hcur t (s.startsPartially x)
    generalize (s.setCursor x).fillOpen t (s.startsPartially x) = v at hf he ho
    obtain ⟨-, e2, -, -, e3⟩ := v.openedFor_frame l x t
    exact ringLegal_settle (ho.openedFor l x t) (hx'.congr (by rw [e2, hf.uplink]) (by rw [e3, he]) (by rw [e3, he]))

theorem ringLegal_afterTail {s : State} (h : RingLegal s) {i : SlotId} (hi : s.emitter.slot = some i) (first : Bool) :
    RingLegal (s.afterTail first i) := by
  obtain ⟨hs, -, ht⟩ := (ringLegal_iff s).mp h
  have hr : RingSound (s.countEmitted.releaseSlot i) :=
    RingSound.releaseSlot (s := s.countEmitted) (hs.of_slots rfl id rfl rfl Iff.rfl rfl) hi
  obtain ⟨hstop, e⟩ | ⟨-, -, e⟩ | ⟨-, -, e⟩ := s.afterTail_cases first i <;> rw [e]
  · exact (ringLegal_iff _).mpr ⟨hs.of_slots rfl id rfl rfl Iff.rfl rfl, ⟨by simp, fun _ => hstop⟩,
      ht.congr Iff.rfl rfl rfl fun _ => rfl⟩
  · exact ringLegal_emitterTakes hr.boundary (sendsNext_boundary _)
  · have htake := takesAtOnce_emitterTakes hr
    have hd := hr.emitterTakes
    generalize (s.countEmitted.releaseSlot i).emitterTakes = v at htake hd
    have hidle : v.boundary.emitter.state = .idle ↔ v.emitter.state = .idle := by
      simp only [State.boundary, State.arbitrate_frame, State.pauseAtBoundary]
      split
      · next hp => simp [hp.2]
      · rfl
    exact (ringLegal_iff _).mpr ⟨hd.boundary, sendsNext_boundary v,
      htake.congr hidle (by simp) (by simp) fun i => by simp [State.slot]⟩

/-- The end of a record frame, with the record's next frame set. -/
theorem ringLegal_recordBoundary {v : State} (h : RingSound v) (hi : v.emitter.state ≠ .idle) :
    RingLegal v.recordBoundary := by
  refine (ringLegal_iff _).mpr ⟨h.recordBoundary, sendsNext_recordBoundary v, fun hidle => absurd ?_ hi⟩
  unfold State.recordBoundary at hidle
  split at hidle
  · simp only [State.boundary, State.arbitrate_frame, State.pauseAtBoundary] at hidle
    split at hidle
    · simp at hidle
    · exact hidle
  · exact hidle

theorem Emitter.afterRow_next (order : RowOrder) (row : RowId) (t : Slot) (e : Emitter) :
    ∃ k, k ≠ .reply ∧ (e.afterRow order row t).next = some k := by
  unfold Emitter.afterRow
  split
  · exact ⟨.row, by simp, rfl⟩
  · split
    · exact ⟨.tail, by simp, rfl⟩
    · refine ⟨_, ?_, rfl⟩
      split <;> simp

theorem ringLegal_afterRow {s : State} (h : RingLegal s) {i : SlotId} (hi : s.emitter.slot = some i) (f : UplinkFrame) :
    RingLegal (s.afterRow i f).recordBoundary := by
  obtain ⟨hs, -, -⟩ := (ringLegal_iff s).mp h
  have hn := (hs.active i hi).2.1
  obtain ⟨e, he, ho⟩ := s.afterRow_cases i f
  obtain ⟨hest, hesl, -, -⟩ := s.emitter.afterRow_frame (s.orderOf i) s.emitter.row
    ((s.returnCells i s.emitter.row f.pulses).slot i)
  obtain ⟨k, hk, hnext⟩ := s.emitter.afterRow_next (s.orderOf i) s.emitter.row
    ((s.returnCells i s.emitter.row f.pulses).slot i)
  rw [← he] at hest hesl hnext
  obtain ⟨-, e⟩ | ⟨-, e⟩ := ho <;> rw [e]
  · have hem := (hs.record i).mp hi
    have hr : RingSound (s.returnCells i s.emitter.row f.pulses) := by
      have hslot : ∀ i', ((s.returnCells i s.emitter.row f.pulses).slot i').state = (s.slot i').state := by
        intro i'
        unfold State.returnCells
        dsimp only
        rw [State.slot_mapSlot_ite]
        split
        · next e => rw [e]; rfl
        · rfl
      refine hs.congr hslot (fun i' hf => ?_) (by simp) (by simp) (by simp) (by simp) (by simp)
      unfold State.returnCells
      dsimp only
      refine State.slot_mapSlot_ne (fun e => ?_) _ _
      rw [e, hem] at hf
      simp at hf
    exact ringLegal_recordBoundary (hr.setNext hk hi rfl rfl rfl hesl hest hnext) (hest ▸ hn)
  · exact ringLegal_recordBoundary (hs.setNext hk hi rfl rfl rfl hesl hest hnext) (hest ▸ hn)

/-- What the core moves do to ring, emitter and transmitter. -/
theorem CoreMove.ringLegal {s t : State} (h : CoreMove s t) (hs : RingLegal s) : RingLegal t := by
  have settled {v : State} (hw : s.Writes v) : RingLegal v.settle :=
    ringLegal_settle (hs.sound.writes hw) (hs.sends.writes hw)
  cases h with
  | takeOpen l x _ => exact ringLegal_takeOpen hs l x
  | takeBurst l b => exact hs.writes (.takeBurstItem l b s)
  | takeClose l c =>
    rw [State.takeClose_eq]
    split
    · exact hs.writes (.countLate l s)
    · exact settled (.closedFor ..)
  | takeLoss l =>
    rw [State.takeLossItem_eq]
    split
    · exact hs
    · exact settled (.lostFor ..)
  | takeDown l reason =>
    rw [State.takeDownItem_eq]
    exact settled (.downFor ..)
  | timebase => exact hs.writes (.timebase s)
  | expiry i hf => exact settled (.giveUp hf)
  | epochMarkSent i f h =>
    obtain ⟨-, hi, -⟩ := State.sending_eq_some.mp h
    exact ringLegal_recordBoundary (hs.sound.setNext (k := .head) (by simp) hi rfl rfl rfl rfl rfl rfl)
      (hs.active i hi).2.1
  | headSent i f h =>
    obtain ⟨-, hi, -⟩ := State.sending_eq_some.mp h
    refine ringLegal_recordBoundary (hs.sound.setNext (k := if (s.slot i).hasPulses then .row else .tail) ?_ hi rfl rfl
      rfl rfl rfl rfl) (hs.active i hi).2.1
    split <;> simp
  | rowSent i f h => exact ringLegal_afterRow hs (State.sending_eq_some.mp h).2.1 f
  | tailSent i f first h => exact ringLegal_afterTail hs (State.sending_eq_some.mp h).2.1 first
  | boundary =>
    have ht : RingSound s.transmitTrain := hs.sound.of_slots rfl id rfl rfl Iff.rfl rfl
    refine (ringLegal_iff _).mpr ⟨ht.boundary, sendsNext_boundary _, ?_⟩
    have h0 : TakesAtOnce s.transmitTrain := hs.takesAtOnce
    generalize s.transmitTrain = v at h0
    refine h0.congr ?_ (by simp) (by simp) fun i => by simp [State.slot]
    simp only [State.boundary, State.arbitrate_frame, State.pauseAtBoundary]
    split
    · next hp => simp [hp.2]
    · rfl
  | writeSettings c hc => exact hs.of_slots rfl rfl rfl rfl rfl rfl
  | commitNow hf hr hc => exact hs.of_slots rfl rfl rfl rfl rfl rfl
  | commitPending fc hf hr hc =>
    rw [State.commitPendingFrom_fst]
    have h1 : RingLegal (s.withCommit fc) := hs.of_slots rfl rfl rfl rfl rfl rfl
    have h2 := h1.writes (State.Writes.cutLastOld (s.newCommit fc) fc _)
    generalize (s.withCommit fc).cutLastOld (s.newCommit fc) fc = v at h2
    have he := v.releaseCommit_emitter
    have h3 : RingLegal v.releaseCommit :=
      h2.of_slots (by simp) (by rw [he]) (by rw [he]) (by rw [he]) (by simp) (by simp)
    exact ringLegal_settle h3.sound h3.sends
  | forceClose i hi => exact settled (.forced (State.oldestFilling_filling hi))
  | setStopping k =>
    have hk : (s.setStopping k).emitter.stopping ≠ none := by
      simp only [State.setStopping]
      split <;> simp
    exact (ringLegal_iff _).mpr ⟨hs.sound.of_slots rfl id rfl rfl Iff.rfl rfl, ⟨hs.transmitting, fun _ => hk⟩,
      fun _ hstop => absurd hstop hk⟩
  | restart hr _ _ he htx => exact ringLegal_of_reset hr he htx
  | pinReset => exact ringLegal_of_reset rfl rfl (.inl rfl)

/-- Settles O8: between an event and its settling ring and emitter are `RingSound`; the settling restores the taking at once,
and every boundary chooses the record's next frame or none. -/
theorem ringStaysLegal : Obligations.RingStaysLegal :=
  keptByStep_of_core (fun _ _ h hs => hs.spares h) fun _ _ h hs => h.ringLegal hs

end Sys2Proof.Machine
end

section
/-! The counts of cells (R48, R51, R52): O10. -/

namespace Sys2Proof.Machine

open Sys2Proof Sys2Proof.Safety

/-- Where every slot counts its cells, free count and totals together count all cells. -/
theorem cellSum_eq {s : State} (h : ∀ i, (s.slot i).Counted) : cellSum s = (allCells s).length := by
  have held : s.ring.slots.toList.map (fun t => t.totals.cellsHeld) = s.ring.slots.toList.map fun t => (slotCells t).length := by
    refine List.map_congr_left fun t ht => ?_
    obtain ⟨i, hi, rfl⟩ := List.getElem_of_mem ht
    have := h ⟨i, by simpa using hi⟩
    simpa [Slot.Counted, State.slot] using this
  rw [cellSum, held, allCells, heldCells, List.length_append, List.length_flatMap]

theorem cellsCounted_iff (s : State) :
    CellsCounted s ↔ (∀ i, (s.slot i).Counted) ∧ (allCells s).length = Config.poolCells :=
  ⟨fun ⟨h, hsum⟩ => ⟨h, (cellSum_eq h).symm.trans hsum⟩, fun ⟨h, hlen⟩ => ⟨h, (cellSum_eq h).trans hlen⟩⟩

theorem State.KeepsCells.cellsCounted {s t : State} (h : s.KeepsCells t) (hs : CellsCounted s) : CellsCounted t := by
  obtain ⟨hc, hlen⟩ := (cellsCounted_iff s).mp hs
  exact (cellsCounted_iff t).mpr ⟨fun i => h.counted i (hc i), h.cells.length_eq.trans hlen⟩

theorem Slot.free_counted : Slot.free.Counted := by
  rw [Slot.Counted, slotCells_free]
  rfl

theorem cellsCounted_of_reset {s : State} (hr : s.ring = .reset) (hf : s.freeCells = refilled) : CellsCounted s := by
  refine (cellsCounted_iff s).mpr ⟨fun i => ?_, ?_⟩
  · have : s.slot i = .free := by simp [State.slot, hr, Ring.reset]
    exact this ▸ Slot.free_counted
  · rw [allCells_of_reset hr hf, refilled, List.length_range']

/-- Opening gives cells to no slot: a FREE slot's record is empty, and so is that of a slot just opened. -/
theorem State.KeepsCells.fillOpen {s : State} (h : ∀ i, (s.slot i).state = .free → s.slot i = .free) (t : Fin 8)
    (starts : Bool) : s.KeepsCells (s.fillOpen t starts) := by
  refine .of_slots (s.fillOpen_freeCells t starts) fun i => ?_
  obtain ⟨k, rfl⟩ := s.slotAt_surjective i
  rw [State.slot_fillOpen]
  split
  · next hk =>
    rw [h _ hk.2.2]
    simp [State.openedSlot, Slot.free]
  · exact ⟨rfl, rfl⟩

theorem cellsCounted_takeOpen {s : State} (hr : RingLegal s) (h : CellsCounted s) (l : LinkId) (x : Heartbeat) :
    CellsCounted (s.takeOpen l x) := by
  have hc : s.KeepsCells (s.setCursor x) := .of_judges (.setCursor x s)
  rw [State.takeOpen_eq]
  split
  · exact (hc.trans (.of_ring rfl rfl)).cellsCounted h
  · exact hc.cellsCounted h
  · next t _ =>
    have ho := hc.trans (State.KeepsCells.fillOpen (hr.sound.setCursor x).emptied t (s.startsPartially x))
    generalize (s.setCursor x).fillOpen t (s.startsPartially x) = v at ho
    exact ((ho.trans (.of_judges (v.openedFor_judges l x t))).trans (.settle _)).cellsCounted h

/-- A TAIL leaves no pulse behind, so the emptying of its slot gives no cell away (R52, R122). -/
theorem State.KeepsCells.emptySlot {s : State} {i : SlotId} (hrows : ∀ r : RowId, (s.slot i).rows[r] = [])
    (hc : (s.slot i).Counted) : s.KeepsCells (s.emptySlot i) := by
  have hr : Slot.free.rows = (s.slot i).rows := Vector.ext fun r hr => by
    have := hrows ⟨r, hr⟩
    simpa [Slot.free] using this.symm
  have ht : Slot.free.totals.cellsHeld = (s.slot i).totals.cellsHeld := by
    rw [hc, slotCells_of_empty hrows]
    rfl
  refine .of_slots rfl fun i' => ?_
  unfold State.emptySlot
  rw [State.slot_mapSlot_ite]
  split
  · next e => rw [e]; exact ⟨hr, ht⟩
  · exact ⟨rfl, rfl⟩

theorem cellsCounted_afterTail {s : State} (hr : RingLegal s) (he : EmissionLegal s) (h : CellsCounted s) {i : SlotId}
    {f : UplinkFrame} (hf : s.sending .tail = some (i, f)) (first : Bool) : CellsCounted (s.afterTail first i) := by
  obtain ⟨htx, hi, hk⟩ := State.sending_eq_some.mp hf
  have hb : ∀ v : State, v.KeepsCells v.boundary := fun v => .of_ring (by simp) (by simp)
  obtain ⟨-, e⟩ | ⟨hstop, e⟩ : (s.emitter.stopping ≠ none ∧ _) ∨ (s.emitter.stopping = none ∧
      (s.afterTail first i = (s.countEmitted.releaseSlot i).boundary.emitterTakes ∨
        s.afterTail first i = (s.countEmitted.releaseSlot i).emitterTakes.boundary)) := by
    obtain h | ⟨h, -, e⟩ | ⟨h, -, e⟩ := s.afterTail_cases first i
    · exact .inl h
    · exact .inr ⟨h, .inl e⟩
    · exact .inr ⟨h, .inr e⟩
  · rw [e]
    exact State.KeepsCells.cellsCounted (.of_ring rfl rfl) h
  · have hn : s.emitter.next = some .tail := by
      rw [hr.transmitting f htx (by simp [hk]), hk]
    have hempty := State.KeepsCells.emptySlot (he.finished hstop i hi hn) (((cellsCounted_iff s).mp h).1 i)
    have hrel : (s.emptySlot i).KeepsCells (s.countEmitted.releaseSlot i) :=
      .of_ring (by simp [State.emptySlot]) (by simp [State.emptySlot])
    obtain e | e := e <;> rw [e]
    · exact (((hempty.trans hrel).trans (hb _)).trans (.emitterTakes _)).cellsCounted h
    · exact (((hempty.trans hrel).trans (.emitterTakes _)).trans (hb _)).cellsCounted h

/-- What the core moves do to the counts of cells. -/
theorem CoreMove.cellsCounted {s t : State} (h : CoreMove s t) (hr : RingLegal s) (he : EmissionLegal s)
    (hs : CellsCounted s) : CellsCounted t := by
  have of_ring {t : State} (hf : t.freeCells = s.freeCells) (hr : t.ring.slots = s.ring.slots) : CellsCounted t :=
    State.KeepsCells.cellsCounted (.of_ring hf hr) hs
  have settled {v : State} (hw : s.Writes v) : CellsCounted v.settle := (hw.cells.trans (.settle v)).cellsCounted hs
  cases h with
  | takeOpen l x _ => exact cellsCounted_takeOpen hr hs l x
  | takeBurst l b => exact (State.KeepsCells.takeBurstItem l b s).cellsCounted hs
  | takeClose l c =>
    rw [State.takeClose_eq]
    split
    · exact of_ring rfl rfl
    · exact settled (.closedFor ..)
  | takeLoss l =>
    rw [State.takeLossItem_eq]
    split
    · exact hs
    · exact settled (.lostFor ..)
  | takeDown l reason =>
    rw [State.takeDownItem_eq]
    exact settled (.downFor ..)
  | timebase => exact (State.Writes.timebase s).cells.cellsCounted hs
  | expiry i hf => exact settled (.giveUp hf)
  | epochMarkSent i f _ => exact of_ring (by simp [State.afterEpochMark]) (by simp [State.afterEpochMark])
  | headSent i f _ => exact of_ring (by simp [State.afterHead]) (by simp [State.afterHead])
  | rowSent i f _ =>
    obtain ⟨e, -, ⟨-, h⟩ | ⟨-, h⟩⟩ := s.afterRow_cases i f <;> rw [h]
    · exact ((State.KeepsCells.returnCells i s.emitter.row f.pulses s).trans
        (.of_ring (t := State.recordBoundary _) (by simp) (by simp))).cellsCounted hs
    · exact of_ring (by simp) (by simp)
  | tailSent i f first h => exact cellsCounted_afterTail hr he hs h first
  | boundary => exact of_ring (by simp) (by simp)
  | writeSettings c hc => exact of_ring rfl rfl
  | commitNow hf hr hc => exact of_ring rfl rfl
  | commitPending fc hf hr hc =>
    rw [State.commitPendingFrom_fst]
    have h1 : s.KeepsCells (s.withCommit fc) := .of_ring rfl rfl
    have h2 := h1.trans (State.Writes.cutLastOld (s.newCommit fc) fc _).cells
    exact ((h2.trans (.of_ring (by simp) (by simp))).trans (.settle _)).cellsCounted hs
  | forceClose i hi => exact settled (.forced (State.oldestFilling_filling hi))
  | setStopping k => exact of_ring rfl rfl
  | restart hr hc _ _ _ => exact cellsCounted_of_reset hr hc
  | pinReset => exact cellsCounted_of_reset rfl rfl

end Sys2Proof.Machine

namespace Sys2Proof.Safety.EmissionLegal

open Sys2Proof Sys2Proof.Machine

variable {s t : State}

/-- Where the record slot keeps its chains and its epoch, and the record its position. -/
theorem congr (h : EmissionLegal s) (hset : ∀ e, t.settings.settingsOf e = s.settings.settingsOf e)
    (hslot : t.emitter.slot = s.emitter.slot) (hrow : t.emitter.row = s.emitter.row)
    (hnext : t.emitter.next = s.emitter.next) (hstop : t.emitter.stopping = none → s.emitter.stopping = none)
    (hrows : ∀ i, s.emitter.slot = some i → (t.slot i).rows = (s.slot i).rows ∧ (t.slot i).epoch = (s.slot i).epoch) :
    EmissionLegal t where
  passed hs i hi r := by
    obtain ⟨hrows, hepoch⟩ := hrows i (hslot ▸ hi)
    rw [State.orderOf, hset, hrow, hrows, hepoch]
    exact h.passed (hstop hs) i (hslot ▸ hi) r
  finished hs i hi hn r := by
    obtain ⟨hrows, -⟩ := hrows i (hslot ▸ hi)
    rw [hrows]
    exact h.finished (hstop hs) i (hslot ▸ hi) (hnext ▸ hn) r

theorem spares (h : EmissionLegal s) (hq : s.Spares t) : EmissionLegal t :=
  h.congr (by rw [hq.settings]; exact fun _ => rfl) hq.emitterSlot hq.row hq.next (by rw [hq.stopping]; exact id)
    fun i _ => by rw [hq.slot]; exact ⟨rfl, rfl⟩

end Sys2Proof.Safety.EmissionLegal

namespace Sys2Proof.Machine

open Sys2Proof Sys2Proof.Safety

/-- Settles O10: every move of the core keeps the cells and their counts, given that FREE slots are empty and that a TAIL
leaves no pulse; or it refills the pool. -/
theorem cellCountsStay : Obligations.CellCountsStay := by
  have spared : ∀ {s t : State}, s.Spares t → CellsCounted s → CellsCounted t :=
    fun h hs => State.KeepsCells.cellsCounted (.of_ring h.freeCells h.slots) hs
  intro s t hr he hs h
  obtain h | ⟨s', u, h1, h2, h3⟩ := coreStep_of_step h
  · exact spared h hs
  · exact spared h3 (h2.cellsCounted (hr.spares h1) (he.spares h1) (spared h1 hs))

end Sys2Proof.Machine
end

section
/-! The mapping of heartbeats with a commit pending (R9, R141, R145), and O26. -/

namespace Sys2Proof.Machine

open Sys2Proof Sys2Proof.Safety

/-! ### Two span codes: a commit pending (R9) -/

theorem SettingsUnit.offset_of_commit {u : SettingsUnit} {c : PendingCommit} (hu : u.commit = some c) (fc x : Heartbeat) :
    u.offset fc x =
      if (x - fc).toNat < (c.switchHeartbeat - fc).toNat then (x - fc).toNat / 2 ^ c.oldSpan
      else c.oldSlices fc + (x - c.switchHeartbeat).toNat / 2 ^ u.active.span := by
  simp only [SettingsUnit.offset, hu]

theorem SettingsUnit.sliceAt_of_old {u : SettingsUnit} {c : PendingCommit} (hu : u.commit = some c) {fc : Heartbeat} {j : Nat}
    (hj : j < c.oldSlices fc) : u.sliceAt fc j = fc + BitVec.ofNat 16 (j * 2 ^ c.oldSpan) := by
  simp only [SettingsUnit.sliceAt, hu, hj, if_true]

theorem SettingsUnit.sliceAt_of_new {u : SettingsUnit} {c : PendingCommit} (hu : u.commit = some c) {fc : Heartbeat} {j : Nat}
    (hj : c.oldSlices fc ≤ j) :
    u.sliceAt fc j = c.switchHeartbeat + BitVec.ofNat 16 ((j - c.oldSlices fc) * 2 ^ u.active.span) := by
  simp only [SettingsUnit.sliceAt, hu, Nat.not_lt.mpr hj, if_false]

/-- Counted from the cursor, a heartbeat at or after the switch lies as far after it as its distance exceeds the switch's. -/
theorem toNat_sub_switch {fc sw x : Heartbeat} (h : (sw - fc).toNat ≤ (x - fc).toNat) :
    (x - sw).toNat = (x - fc).toNat - (sw - fc).toNat := by
  bv_omega

/-! ### The switch heartbeat (R141) -/

theorem two_pow_le_of_le_four {m : Nat} (h : m ≤ 4) :
    2 ^ m = 1 ∨ 2 ^ m = 2 ∨ 2 ^ m = 4 ∨ 2 ^ m = 8 ∨ 2 ^ m = 16 := by
  interval_cases m <;> simp

/-- The first multiple of a slice length strictly after `n`. -/
theorem next_multiple {n : Heartbeat} {p : Nat} (hp : p = 1 ∨ p = 2 ∨ p = 4 ∨ p = 8 ∨ p = 16) :
    let h := n + BitVec.ofNat 16 (p - n.toNat % p)
    h.toNat % p = 0 ∧ (h - n).toNat = p - n.toNat % p ∧
    ∀ y : Heartbeat, y.toNat % p = 0 → 1 ≤ (y - n).toNat → (h - n).toNat ≤ (y - n).toNat := by
  intro h
  have hn := n.isLt
  have e : h.toNat = (n.toNat + (p - n.toNat % p)) % 65536 := toNat_heartbeat_add_ofNat n _
  have hs : (h - n).toNat = p - n.toNat % p := by
    rw [BitVec.toNat_sub, e]
    obtain rfl | rfl | rfl | rfl | rfl := hp <;> omega
  refine ⟨?_, hs, fun y hy h1 => ?_⟩
  · rw [e]
    obtain rfl | rfl | rfl | rfl | rfl := hp <;> omega
  · have hy' := y.isLt
    rw [hs]
    rw [BitVec.toNat_sub] at h1 ⊢
    obtain rfl | rfl | rfl | rfl | rfl := hp <;> omega

theorem switchAfter_spec (n : Heartbeat) {a b : Nat} (ha : a ≤ 4) (hb : b ≤ 4) :
    (switchAfter n a b).toNat % 2 ^ max a b = 0 ∧
    (switchAfter n a b - n).toNat = 2 ^ max a b - n.toNat % 2 ^ max a b ∧
    ∀ y : Heartbeat, y.toNat % 2 ^ max a b = 0 → 1 ≤ (y - n).toNat → (switchAfter n a b - n).toNat ≤ (y - n).toNat :=
  next_multiple (two_pow_le_of_le_four (by omega : max a b ≤ 4))

/-- The switch heartbeat lies 1 to 16 heartbeats after the newest one. -/
theorem switchAfter_bounds (n : Heartbeat) {a b : Nat} (ha : a ≤ 4) (hb : b ≤ 4) :
    1 ≤ (switchAfter n a b - n).toNat ∧ (switchAfter n a b - n).toNat ≤ 2 ^ max a b ∧ 2 ^ max a b ≤ 16 := by
  obtain ⟨-, h, -⟩ := switchAfter_spec n ha hb
  have hp := two_pow_le_of_le_four (by omega : max a b ≤ 4)
  rw [h]
  generalize 2 ^ max a b = p at hp
  have := Nat.mod_lt n.toNat (y := p) (by omega)
  omega

/-! ### What a commit and a release leave of the mapping (R9, R141, R145) -/

/-- A heartbeat up to the newest keeps its offset when a commit becomes pending behind it. -/
theorem SettingsUnit.offset_of_pending {u u' : SettingsUnit} {c : PendingCommit} (hu : u.commit = none)
    (hu' : u'.commit = some c) (hold : c.oldSpan = u.active.span) {fc x : Heartbeat}
    (h : (x - fc).toNat < (c.switchHeartbeat - fc).toNat) : u'.offset fc x = u.offset fc x := by
  rw [SettingsUnit.offset_of_commit hu', if_pos h, SettingsUnit.offset_of_no_commit hu, hold]

/-- The distances of newest and switch heartbeat from the cursor add up within the half turn. -/
theorem switchAfter_distance {fc n : Heartbeat} {a b : Nat} (ha : a ≤ 4) (hb : b ≤ 4) (hn : (n - fc).toNat < 128) :
    (switchAfter n a b - fc).toNat = (n - fc).toNat + (switchAfter n a b - n).toNat := by
  obtain ⟨-, h, h'⟩ := switchAfter_bounds n ha hb
  have : (switchAfter n a b - n).toNat ≤ 16 := h.trans h'
  bv_omega

/-- A release at the switch heartbeat changes no offset. -/
theorem SettingsUnit.offset_of_release {u u' : SettingsUnit} {c : PendingCommit} (hu : u.commit = some c)
    (hu' : u'.commit = none) (ha : u'.active.span = u.active.span) (x : Heartbeat) :
    u'.offset c.switchHeartbeat x = u.offset c.switchHeartbeat x := by
  rw [SettingsUnit.offset_of_commit hu, SettingsUnit.offset_of_no_commit hu', ha]
  simp [PendingCommit.oldSlices]

theorem State.place_congr {s t : State} (hc : t.ring.cursor = s.ring.cursor) {x : Heartbeat}
    (ho : ∀ fc, s.ring.cursor = some fc → t.settings.offset fc x = s.settings.offset fc x) : t.place x = s.place x := by
  unfold State.place
  rw [hc]
  cases h : s.ring.cursor with
  | none => rfl
  | some fc => simp only [ho fc h]

/-- Settles O26. -/
theorem commitsKeepTheMapping : Obligations.CommitsKeepTheMapping := by
  refine ⟨?_, ?_, ?_, ?_⟩
  · intro s fc x c hc hu d dh old offset
    have ho : s.settings.offset fc x = offset := SettingsUnit.offset_of_commit hu fc x
    refine ⟨fun h => State.place_eq_behind hc h, fun h h8 => State.place_eq_beyond hc h (ho ▸ h8),
      fun j h hj => State.place_eq_within hc h (ho.trans hj), fun j hj => ?_, fun j hj => ?_⟩
    · rw [State.sliceFirst_of_cursor hc, SettingsUnit.sliceAt_of_old hu hj, toNat_heartbeat_add_ofNat]
    · rw [State.sliceFirst_of_cursor hc, SettingsUnit.sliceAt_of_new hu hj, toNat_heartbeat_add_ofNat]
      rfl
  · intro n a b ha hb
    obtain ⟨h1, -, h2⟩ := switchAfter_spec n ha hb
    obtain ⟨h3, h4, -⟩ := switchAfter_bounds n ha hb
    exact ⟨h1, h3, h4, h2⟩
  · intro s fc n x c hc hu ha hb hn hx hsw hold
    refine State.place_congr (by rfl) fun fc' hc' => ?_
    obtain rfl := Option.some.inj (hc.symm.trans hc')
    refine SettingsUnit.offset_of_pending hu rfl hold ?_
    obtain ⟨h1, -⟩ := switchAfter_bounds n ha hb
    rw [hsw, switchAfter_distance ha hb hn]
    omega
  · intro s c x hu hc
    refine State.place_congr (by simp) fun fc hfc => ?_
    obtain rfl := Option.some.inj (hc.symm.trans hfc)
    obtain ⟨c', hu', -, e⟩ | ⟨hne, -⟩ := s.releaseCommit_cases
    · obtain rfl := Option.some.inj (hu.symm.trans hu')
      rw [e]
      exact SettingsUnit.offset_of_release (u' := s.endCommit.settings) hu rfl rfl x
    · exact absurd hc (hne c hu)

end Sys2Proof.Machine
end

section
/-! The row position (R110, R119): the rows at or after it in a row order, the next row with pulses, the row after; and that a
record leaves no pulse behind its row position. -/

namespace Sys2Proof.Machine

open Sys2Proof Sys2Proof.Safety

/-! ### Row orders (R110) -/

/-- In the row order `o`, row `a` comes no later than `b`. -/
def RowOrder.le (o : RowOrder) (a b : RowId) : Prop :=
  match o with
  | .ascending => a ≤ b
  | .descending => b ≤ a

namespace RowOrder

variable {o : RowOrder} {a b c : RowId}

theorem le_refl (o : RowOrder) (a : RowId) : o.le a a := by
  cases o <;> exact Fin.le_refl a

theorem le_trans (h : o.le a b) (h' : o.le b c) : o.le a c := by
  cases o
  · exact Fin.le_trans h h'
  · exact Fin.le_trans h' h

theorem le_antisymm (h : o.le a b) (h' : o.le b a) : a = b := by
  cases o
  · exact Fin.le_antisymm h h'
  · exact Fin.le_antisymm h' h

theorem le_firstRow (o : RowOrder) (a : RowId) : o.le o.firstRow a := by
  cases o
  · exact Fin.zero_le a
  · exact Fin.le_last a

end RowOrder

theorem mem_rowsFrom {o : RowOrder} {pos r : RowId} : r ∈ rowsFrom o pos ↔ o.le pos r := by
  cases o <;> simp [rowsFrom, RowOrder.le]

/-- The rows at or after a position stand in the row order. -/
theorem rowsFrom_pairwise (o : RowOrder) (pos : RowId) :
    (rowsFrom o pos).Pairwise fun a b => o.le a b ∧ a ≠ b := by
  have up : (List.finRange 96).Pairwise fun a b : RowId => a < b := List.pairwise_lt_finRange 96
  cases o with
  | ascending =>
    refine List.Pairwise.imp ?_ (up.filter (pos ≤ ·))
    exact fun h => ⟨h.le, h.ne⟩
  | descending =>
    refine List.Pairwise.imp ?_ ((List.pairwise_reverse.mpr up).filter (· ≤ pos))
    exact fun h => ⟨h.le, h.ne'⟩

/-- They begin with the row at the position. -/
theorem rowsFrom_eq_cons (o : RowOrder) (pos : RowId) : ∃ rest, rowsFrom o pos = pos :: rest := by
  have hp := rowsFrom_pairwise o pos
  have hmem : pos ∈ rowsFrom o pos := mem_rowsFrom.mpr (o.le_refl pos)
  cases h : rowsFrom o pos with
  | nil => simp [h] at hmem
  | cons a rest =>
    have ha : o.le pos a := mem_rowsFrom.mp (h ▸ List.mem_cons_self)
    rw [h] at hp hmem
    obtain rfl | hr := List.mem_cons.mp hmem
    · exact ⟨rest, rfl⟩
    · obtain ⟨hle, hne⟩ := (List.pairwise_cons.mp hp).1 pos hr
      exact absurd (RowOrder.le_antisymm hle ha) hne

/-- The row after `pos`: every other row at or after `pos` is at or after it. -/
theorem rowAfter_some {o : RowOrder} {pos r : RowId} (h : rowAfter o pos = some r) :
    o.le pos r ∧ pos ≠ r ∧ ∀ q, o.le pos q → q ≠ pos → o.le r q := by
  obtain ⟨rest, hl⟩ := rowsFrom_eq_cons o pos
  have hp := rowsFrom_pairwise o pos
  rw [rowAfter, hl] at h
  cases rest with
  | nil => simp at h
  | cons b rest =>
    obtain rfl : b = r := by simpa using h
    rw [hl] at hp
    obtain ⟨hpos, hp⟩ := List.pairwise_cons.mp hp
    obtain ⟨hle, hne⟩ := hpos b List.mem_cons_self
    refine ⟨hle, hne, fun q hq hqp => ?_⟩
    have hm : q ∈ pos :: b :: rest := hl ▸ mem_rowsFrom.mpr hq
    obtain rfl | hm := List.mem_cons.mp hm
    · exact absurd rfl hqp
    · obtain rfl | hm := List.mem_cons.mp hm
      · exact o.le_refl q
      · exact ((List.pairwise_cons.mp hp).1 q hm).1

theorem rowAfter_none {o : RowOrder} {pos : RowId} (h : rowAfter o pos = none) {q : RowId} (hq : o.le pos q) : q = pos := by
  obtain ⟨rest, hl⟩ := rowsFrom_eq_cons o pos
  rw [rowAfter, hl] at h
  have hm : q ∈ pos :: rest := hl ▸ mem_rowsFrom.mpr hq
  cases rest with
  | nil => simpa using hm
  | cons b rest => simp at h

/-- The row after is the next number up or down. -/
theorem rowAfter_eq_some_iff {o : RowOrder} {pos r : RowId} :
    rowAfter o pos = some r ↔ match o with
      | .ascending => r.val = pos.val + 1
      | .descending => r.val + 1 = pos.val := by
  have next : ∀ r', rowAfter o pos = some r' → match o with
      | .ascending => r'.val = pos.val + 1
      | .descending => r'.val + 1 = pos.val := by
    intro r' h
    have hlast := r'.isLt
    obtain ⟨hle, hne, hmin⟩ := rowAfter_some h
    have hne' : pos.val ≠ r'.val := fun e => hne (Fin.ext e)
    cases o with
    | ascending =>
      have hle' : pos.val ≤ r'.val := hle
      have hlt : pos.val < r'.val := by omega
      have : r'.val ≤ pos.val + 1 := hmin ⟨pos.val + 1, by omega⟩ (show pos.val ≤ pos.val + 1 by omega)
        (fun e => by have := congrArg Fin.val e; simp at this)
      show r'.val = pos.val + 1
      omega
    | descending =>
      have hle' : r'.val ≤ pos.val := hle
      have hlt : r'.val < pos.val := by omega
      have : pos.val - 1 ≤ r'.val := hmin ⟨pos.val - 1, by omega⟩ (show pos.val - 1 ≤ pos.val by omega)
        (fun e => by have := congrArg Fin.val e; simp at this; omega)
      show r'.val + 1 = pos.val
      omega
  refine ⟨next r, fun h => ?_⟩
  cases hr : rowAfter o pos with
  | none =>
    have hle : o.le pos r := by
      cases o with
      | ascending => exact show pos.val ≤ r.val by simp only at h; omega
      | descending => exact show r.val ≤ pos.val by simp only at h; omega
    obtain rfl := rowAfter_none hr hle
    cases o <;> simp at h
  | some r' =>
    have := next r' hr
    refine congrArg some (Fin.ext ?_)
    cases o <;> simp only at this h <;> omega

/-! ### The next row with pulses (R119) -/

theorem Slot.nextRow_some {t : Slot} {o : RowOrder} {pos r : RowId} (h : t.nextRow o pos = some r) :
    o.le pos r ∧ t.rows[r] ≠ [] ∧ ∀ q, o.le pos q → ¬ o.le r q → t.rows[q] = [] := by
  obtain ⟨hr, as, bs, hl, has⟩ := List.find?_eq_some_iff_append.mp h
  have hp := rowsFrom_pairwise o pos
  refine ⟨mem_rowsFrom.mp (hl ▸ by simp), by simpa using hr, fun q hq hn => ?_⟩
  have hm : q ∈ as ++ r :: bs := hl ▸ mem_rowsFrom.mpr hq
  rw [hl] at hp
  obtain hm | hm := List.mem_append.mp hm
  · simpa using has q hm
  · obtain rfl | hm := List.mem_cons.mp hm
    · exact absurd (o.le_refl q) hn
    · have hlast := (List.pairwise_append.mp hp).2.1
      exact absurd ((List.pairwise_cons.mp hlast).1 q hm).1 hn

theorem Slot.nextRow_none {t : Slot} {o : RowOrder} {pos : RowId} (h : t.nextRow o pos = none) {q : RowId}
    (hq : o.le pos q) : t.rows[q] = [] := by
  simpa using List.find?_eq_none.mp h q (mem_rowsFrom.mpr hq)

theorem Slot.hasPulses_iff (t : Slot) : t.hasPulses = true ↔ ∃ r : RowId, t.rows[r] ≠ [] := by
  simp only [Slot.hasPulses, List.any_eq_true]
  constructor
  · rintro ⟨c, hc, hne⟩
    obtain ⟨r, hr, rfl⟩ := List.getElem_of_mem hc
    exact ⟨⟨r, by simpa using hr⟩, by simpa using hne⟩
  · rintro ⟨r, hne⟩
    exact ⟨t.rows[r], by simp, by simpa using hne⟩

/-! ### What a record has passed (R119) -/

/-- A record with row order `o` at row position `pos` and with next frame `next` leaves no pulse of `t` behind it, and none at its
TAIL. -/
def Passed (o : RowOrder) (pos : RowId) (next : Option FrameKind) (t : Slot) : Prop :=
  (∀ r, ¬ o.le pos r → t.rows[r] = []) ∧ (next = some .tail → ∀ r : RowId, t.rows[r] = [])

theorem emissionLegal_iff (s : State) :
    EmissionLegal s ↔ (s.emitter.stopping = none → ∀ i, s.emitter.slot = some i →
      Passed (s.orderOf i) s.emitter.row s.emitter.next (s.slot i)) :=
  ⟨fun h hs i hi => ⟨fun r hr => h.passed hs i hi r (mt mem_rowsFrom.mp hr), h.finished hs i hi⟩,
    fun h => ⟨fun hs i hi r hr => (h hs i hi).1 r (mt mem_rowsFrom.mpr hr), fun hs i hi => (h hs i hi).2⟩⟩

/-- A record that has just been taken has passed nothing. -/
theorem passed_first (o : RowOrder) {next : Option FrameKind} (h : next ≠ some .tail) (t : Slot) :
    Passed o o.firstRow next t :=
  ⟨fun r hr => absurd (o.le_firstRow r) hr, fun e => absurd e h⟩

/-- After a ROW frame: the position stays while its chain holds pulses, and moves past it when it is empty. -/
theorem Emitter.passed_afterRow {o : RowOrder} {e : Emitter} {t : Slot}
    (h : ∀ r, ¬ o.le e.row r → t.rows[r] = []) :
    Passed o (e.afterRow o e.row t).row (e.afterRow o e.row t).next t := by
  unfold Emitter.afterRow
  split
  · exact ⟨h, by simp⟩
  · next hempty =>
    have hrow : t.rows[e.row] = [] := by simpa using hempty
    split
    · next hn =>
      refine ⟨h, fun _ r => ?_⟩
      by_cases hle : o.le e.row r
      · rw [rowAfter_none hn hle]
        exact hrow
      · exact h r hle
    · next r' hr' =>
      obtain ⟨-, -, hmin⟩ := rowAfter_some hr'
      have before : ∀ r, ¬ o.le r' r → t.rows[r] = [] := by
        intro r hr
        by_cases hle : o.le e.row r
        · by_cases he : r = e.row
          · rw [he]; exact hrow
          · exact absurd (hmin r hle he) hr
        · exact h r hle
      refine ⟨before, fun hnext r => ?_⟩
      by_cases hle : o.le r' r
      · cases hn : t.nextRow o r' with
        | none => exact Slot.nextRow_none hn hle
        | some q => simp [hn] at hnext
      · exact before r hle

/-- The arbiter's choice moves the row position past empty chains alone. -/
theorem emissionLegal_boundary {s : State} (h : EmissionLegal s) : EmissionLegal s.boundary := by
  have hp : EmissionLegal s.pauseAtBoundary := by
    unfold State.pauseAtBoundary
    split
    · exact h.congr (fun _ => rfl) rfl rfl rfl id fun _ _ => ⟨rfl, rfl⟩
    · exact h
  unfold State.boundary
  generalize s.pauseAtBoundary = v at hp
  have same : ∀ u : State, u.ring = v.ring → u.settings = v.settings → u.emitter = v.emitter → EmissionLegal u :=
    fun u h1 h2 h3 => hp.congr (by rw [h2]; exact fun _ => rfl) (by rw [h3]) (by rw [h3]) (by rw [h3]) (by rw [h3]; exact id)
      fun i _ => by simp only [State.slot, h1, and_self]
  unfold State.arbitrate
  split
  · exact same _ rfl rfl rfl
  · split
    · exact same _ rfl rfl rfl
    · split
      · next i kind ho =>
        have hi : v.emitter.slot = some i := by
          unfold State.offered at ho
          split at ho
          · split at ho <;> simp_all
          · simp at ho
        cases kind with
        | row =>
          unfold State.transmitRecord State.transmitRow
          dsimp only
          split
          · exact same _ rfl rfl rfl
          · next r hr =>
            obtain ⟨-, -, hskip⟩ := Slot.nextRow_some hr
            refine (emissionLegal_iff _).mpr fun hs i' hi' => ?_
            obtain rfl : i = i' := Option.some.inj (hi.symm.trans hi')
            obtain ⟨hpassed, hfin⟩ := (emissionLegal_iff v).mp hp hs i hi
            refine ⟨fun q hq => ?_, hfin⟩
            by_cases hle : (v.orderOf i).le v.emitter.row q
            · exact hskip q hle hq
            · exact hpassed q hle
        | _ => exact same _ rfl rfl rfl
      · exact same _ rfl rfl rfl

theorem emissionLegal_recordBoundary {s : State} (h : EmissionLegal s) : EmissionLegal s.recordBoundary := by
  unfold State.recordBoundary
  split
  · exact emissionLegal_boundary h
  · exact h.congr (fun _ => rfl) rfl rfl rfl id fun _ _ => ⟨rfl, rfl⟩

end Sys2Proof.Machine
end

section
/-! The slices that the ring holds (R2, R7 to R10, R141, R145): how they stand as slots open, as the cursor advances, as a commit
becomes pending and as it is released. -/

namespace Sys2Proof.Machine

open Sys2Proof Sys2Proof.Safety

/-! ### What the held slices are about -/

/-- The held slots hold the slices at their offsets, and a pending commit stands at or after the cursor, as `GeometryLegal` has
it, but for the newest heartbeat and for the commit that is due at the cursor itself. -/
structure GeometrySound (s : State) : Prop where
  slices : ∀ j : Fin 8, (s.slot (s.slotAt j)).state ≠ .free →
    (s.slot (s.slotAt j)).first = s.sliceFirst j.val ∧ (s.slot (s.slotAt j)).epoch = s.epochAt j.val ∧
    (s.slot (s.slotAt j)).span = (s.settings.settingsOf (s.epochAt j.val)).span
  aligned : ∀ fc, s.ring.cursor = some fc → s.settings.commit = none → fc.toNat % 2 ^ s.settings.active.span = 0
  switch : ∀ c, s.settings.commit = some c → ∃ fc, s.ring.cursor = some fc ∧
    fc.toNat % 2 ^ c.oldSpan = 0 ∧ c.switchHeartbeat.toNat % 2 ^ c.oldSpan = 0 ∧
    c.switchHeartbeat.toNat % 2 ^ s.settings.active.span = 0 ∧ (c.switchHeartbeat - fc).toNat < 144

/-- The newest heartbeat lies in the last slot that is not FREE, or just behind the cursor when every slot is FREE. -/
def NewestLegal (s : State) : Prop :=
  ∀ fc, s.ring.cursor = some fc → ∃ n, s.ring.newest = some n ∧
    ((∃ k, s.place n = .within k ∧ ∀ j : Fin 8, (s.slot (s.slotAt j)).state ≠ .free ↔ j ≤ k) ∨
      n = fc - 1 ∧ ∀ i : SlotId, (s.slot i).state = .free)

theorem geometryLegal_iff (s : State) :
    GeometryLegal s ↔ GeometrySound s ∧ NewestLegal s ∧
      ∀ c fc, s.settings.commit = some c → s.ring.cursor = some fc → 1 ≤ (c.switchHeartbeat - fc).toNat := by
  constructor
  · intro h
    refine ⟨⟨h.slices, h.aligned, fun c hc => ?_⟩, h.newest, fun c fc hc hfc => ?_⟩
    · obtain ⟨fc, h1, h2, h3, h4, -, h5⟩ := h.switch c hc
      exact ⟨fc, h1, h2, h3, h4, h5⟩
    · obtain ⟨fc', h1, -, -, -, h2, -⟩ := h.switch c hc
      obtain rfl := Option.some.inj (hfc.symm.trans h1)
      exact h2
  · rintro ⟨h, hn, hd⟩
    refine ⟨h.slices, h.aligned, fun c hc => ?_, hn⟩
    obtain ⟨fc, h1, h2, h3, h4, h5⟩ := h.switch c hc
    exact ⟨fc, h1, h2, h3, h4, hd c fc hc h1, h5⟩

/-! ### What reads cursor and settings alone -/

/-- Two states with the same cursor and the same settings, but for staging, map heartbeats and slices alike. -/
structure SameMapping (s t : State) : Prop where
  cursor : t.ring.cursor = s.ring.cursor
  cursorSlot : t.ring.cursorSlot = s.ring.cursorSlot
  commit : t.settings.commit = s.settings.commit
  active : t.settings.active = s.settings.active
  epoch : t.settings.epoch = s.settings.epoch

namespace SameMapping

variable {s t : State}

theorem of_eq (hr : t.ring.cursor = s.ring.cursor) (hcs : t.ring.cursorSlot = s.ring.cursorSlot)
    (hs : t.settings = s.settings) : SameMapping s t := ⟨hr, hcs, by rw [hs], by rw [hs], by rw [hs]⟩

theorem slotAt (h : SameMapping s t) (j : Fin 8) : t.slotAt j = s.slotAt j := by
  simp only [State.slotAt, h.cursorSlot]

theorem sliceFirst (h : SameMapping s t) (j : Nat) : t.sliceFirst j = s.sliceFirst j := by
  simp only [State.sliceFirst, SettingsUnit.sliceAt, h.cursor, h.commit, h.active]

theorem epochAt (h : SameMapping s t) (j : Nat) : t.epochAt j = s.epochAt j := by
  simp only [State.epochAt, h.cursor, h.commit, h.epoch]

theorem settingsOf (h : SameMapping s t) (e : Epoch) : t.settings.settingsOf e = s.settings.settingsOf e := by
  simp only [SettingsUnit.settingsOf, h.commit, h.active]

theorem place (h : SameMapping s t) (x : Heartbeat) : t.place x = s.place x := by
  refine State.place_congr h.cursor fun fc _ => ?_
  simp only [SettingsUnit.offset, h.commit, h.active]

end SameMapping

namespace GeometrySound

variable {s t : State}

/-- Where slots stay FREE or not, and keep their slices. -/
theorem congr (h : GeometrySound s) (hm : SameMapping s t)
    (hfree : ∀ i, (t.slot i).state = .free ↔ (s.slot i).state = .free)
    (hslice : ∀ i, (s.slot i).state ≠ .free → (t.slot i).first = (s.slot i).first ∧
      (t.slot i).span = (s.slot i).span ∧ (t.slot i).epoch = (s.slot i).epoch) : GeometrySound t where
  slices j hj := by
    rw [hm.slotAt] at hj ⊢
    have hj' := mt (hfree _).mpr hj
    obtain ⟨h1, h2, h3⟩ := hslice _ hj'
    rw [h1, h2, h3, hm.sliceFirst, hm.epochAt, hm.settingsOf]
    exact h.slices j hj'
  aligned fc hfc hc := by
    rw [hm.active]
    exact h.aligned fc (hm.cursor ▸ hfc) (hm.commit ▸ hc)
  switch c hc := by
    rw [hm.cursor, hm.active]
    exact h.switch c (hm.commit ▸ hc)

end GeometrySound

theorem NewestLegal.congr {s t : State} (h : NewestLegal s) (hm : SameMapping s t) (hn : t.ring.newest = s.ring.newest)
    (hfree : ∀ i, (t.slot i).state = .free ↔ (s.slot i).state = .free) : NewestLegal t := by
  intro fc hfc
  obtain ⟨n, h1, h2⟩ := h fc (hm.cursor ▸ hfc)
  refine ⟨n, hn.trans h1, ?_⟩
  simp only [hm.place, hm.slotAt, Ne, hfree]
  exact h2

/-- The cursor is set wherever a slot is held. -/
theorem State.place_within_iff {s : State} {fc : Heartbeat} (hc : s.ring.cursor = some fc) {x : Heartbeat} {k : Fin 8} :
    s.place x = .within k ↔ (x - fc).toNat < Config.halfTurn ∧ s.settings.offset fc x = k.val := by
  refine ⟨fun h => ?_, fun ⟨hd, ho⟩ => State.place_eq_within hc hd ho⟩
  simp only [State.place, hc] at h
  split at h
  · simp at h
  · next hd =>
    split at h
    · obtain rfl := Place.within.inj h
      exact ⟨Nat.lt_of_not_le hd, rfl⟩
    · simp at h

/-! ### Opening (R10, R12) -/

theorem GeometrySound.fillOpen {s : State} (h : GeometrySound s) (t : Fin 8) (starts : Bool) :
    GeometrySound (s.fillOpen t starts) := by
  have hw := State.ChangesSlots.fillOpen t starts s
  have hm : SameMapping s (s.fillOpen t starts) := .of_eq hw.cursor hw.cursorSlot hw.settings
  refine ⟨fun j hj => ?_, fun fc hfc hc => ?_, fun c hc => ?_⟩
  · rw [hm.slotAt, hm.sliceFirst, hm.epochAt, hm.settingsOf]
    rw [hm.slotAt] at hj
    rw [State.slot_fillOpen] at hj ⊢
    split
    · obtain ⟨h1, h2, -, h3, -⟩ := (s.openedSlot j.val (starts && decide (j = 0))).examined_frame
      rw [h1, h2, h3]
      exact ⟨rfl, rfl, rfl⟩
    · next hn =>
      rw [if_neg hn] at hj
      exact h.slices j hj
  · rw [hw.settings]
    exact h.aligned fc (hm.cursor ▸ hfc) (hm.commit ▸ hc)
  · rw [hm.cursor, hw.settings]
    exact h.switch c (hm.commit ▸ hc)

/-- A heartbeat no further from the cursor lies at no higher offset (R8, R9). -/
theorem SettingsUnit.offset_mono (u : SettingsUnit) {fc x y : Heartbeat} (h : (x - fc).toNat ≤ (y - fc).toNat) :
    u.offset fc x ≤ u.offset fc y := by
  cases hu : u.commit with
  | none =>
    rw [SettingsUnit.offset_of_no_commit hu, SettingsUnit.offset_of_no_commit hu]
    exact Nat.div_le_div_right h
  | some c =>
    rw [SettingsUnit.offset_of_commit hu, SettingsUnit.offset_of_commit hu]
    split <;> split
    · exact Nat.div_le_div_right h
    · next hx _ => exact Nat.le_add_right_of_le (Nat.div_le_div_right hx.le)
    · next hx hy => omega
    · next hx hy =>
      rw [toNat_sub_switch (Nat.le_of_not_lt hx), toNat_sub_switch (Nat.le_of_not_lt hy)]
      exact Nat.add_le_add_left (Nat.div_le_div_right (by omega)) _

/-- The newest heartbeat after an HB_OPEN at offset `t`: it lies in the last slot that is not FREE, as `t` opens all up to its own
(R7, R12). -/
theorem newestLegal_of_open {s v : State} {fc x n : Heartbeat} {t : Fin 8} (hm : SameMapping s v)
    (hfc : s.ring.cursor = some fc) (hx : s.place x = .within t)
    (hopen : ∀ j : Fin 8, (v.slot (s.slotAt j)).state = .free ↔
      (s.slot (s.slotAt j)).state = .free ∧ ((s.slot (s.slotAt t)).state = .free → ¬ j ≤ t))
    (hnew : v.ring.newest = newer fc x (some n))
    (hold : (∃ k, s.place n = .within k ∧ ∀ j : Fin 8, (s.slot (s.slotAt j)).state ≠ .free ↔ j ≤ k) ∨
      (n = fc - 1 ∨ n = x) ∧ ∀ i : SlotId, (s.slot i).state = .free) : NewestLegal v := by
  intro fc' hfc'
  obtain rfl := Option.some.inj ((hm.cursor ▸ hfc').symm.trans hfc)
  obtain ⟨hdx, hox⟩ := (State.place_within_iff hfc).mp hx
  simp only [hm.place, hm.slotAt]
  obtain ⟨k, hk, hfilled⟩ | ⟨hn, hfree⟩ := hold
  · obtain ⟨hdn, hon⟩ := (State.place_within_iff hfc).mp hk
    have hnew' : v.ring.newest = if (n - fc').toNat < (x - fc').toNat then some x else some n := by
      rw [hnew, newer, if_neg hdn.not_ge]
    have hfilled' : ∀ j : Fin 8, (s.slot (s.slotAt j)).state = .free ↔ ¬ j ≤ k := fun j => by rw [← hfilled j, not_not]
    have hopen' : ∀ j : Fin 8, (v.slot (s.slotAt j)).state ≠ .free ↔ j ≤ k ∨ j ≤ t ∧ ¬ t ≤ k := by
      intro j
      rw [Ne, hopen, hfilled', hfilled']
      tauto
    by_cases hlt : (n - fc').toNat < (x - fc').toNat
    · rw [if_pos hlt] at hnew'
      have hle : k ≤ t := by
        have := s.settings.offset_mono hlt.le
        rw [hon, hox] at this
        exact this
      refine ⟨x, hnew', .inl ⟨t, hx, fun j => ?_⟩⟩
      rw [hopen']
      constructor
      · rintro (h | h)
        · exact h.trans hle
        · exact h.1
      · intro h
        by_cases ht : t ≤ k
        · exact .inl (h.trans ht)
        · exact .inr ⟨h, ht⟩
    · rw [if_neg hlt] at hnew'
      have hle : t ≤ k := by
        have := s.settings.offset_mono (Nat.le_of_not_lt hlt)
        rw [hon, hox] at this
        exact this
      refine ⟨n, hnew', .inl ⟨k, hk, fun j => ?_⟩⟩
      rw [hopen']
      tauto
  · have hnew' : v.ring.newest = some x := by
      rw [hnew]
      unfold newer
      dsimp only
      split
      · rfl
      · next hb =>
        obtain rfl | rfl := hn
        · have hback : (fc' - 1 - fc').toNat = 65535 := by bv_omega
          exact absurd (by rw [hback]; decide) hb
        · simp
    refine ⟨x, hnew', .inl ⟨t, hx, fun j => ?_⟩⟩
    rw [Ne, hopen]
    simp [hfree]

/-! ### The release of a commit (R145) -/

/-- A commit that stands at the cursor is released there, and one that does not is ahead of it. -/
theorem geometryLegal_releaseCommit {s : State} (h : GeometrySound s) (hn : NewestLegal s)
    (he : ∀ c, s.settings.commit = some c → c.oldEpoch + 1 = s.settings.epoch) : GeometryLegal s.releaseCommit := by
  obtain ⟨c, hc, hcur, e⟩ | ⟨hne, e⟩ := s.releaseCommit_cases
  · obtain ⟨-, hring, -⟩ := s.releaseCommit_frame
    have hset : s.releaseCommit.settings = s.endCommit.settings := by rw [e]
    have hslot : ∀ i, s.releaseCommit.slot i = s.slot i := fun i => by simp only [State.slot, hring]
    have hat : ∀ j, s.releaseCommit.slotAt j = s.slotAt j := fun j => by simp only [State.slotAt, hring]
    have hcur' : s.releaseCommit.ring.cursor = some c.switchHeartbeat := by rw [hring, hcur]
    have hnone : s.releaseCommit.settings.commit = none := by rw [hset]; rfl
    have hactive : s.releaseCommit.settings.active = s.settings.active := by rw [hset]; rfl
    have hold : c.oldSlices c.switchHeartbeat = 0 := by simp [PendingCommit.oldSlices]
    have hplace : ∀ x, s.releaseCommit.place x = s.place x := fun x =>
      State.place_congr (by rw [hring]) fun fc hfc => by
        obtain rfl := Option.some.inj (hfc.symm.trans hcur)
        exact SettingsUnit.offset_of_release hc hnone (by rw [hactive]) x
    have hne : s.settings.epoch ≠ c.oldEpoch := by
      have := he c hc
      bv_omega
    obtain ⟨fc, hfc, -, -, hal, -⟩ := h.switch c hc
    obtain rfl := Option.some.inj (hfc.symm.trans hcur)
    refine (geometryLegal_iff _).mpr ⟨⟨fun j hj => ?_, fun fc hfc _ => ?_, fun c' hc' => ?_⟩, ?_, fun c' _ hc' => ?_⟩
    · rw [hat, hslot] at hj ⊢
      obtain ⟨h1, h2, h3⟩ := h.slices j hj
      have hepoch : s.epochAt j.val = s.settings.epoch := by simp [State.epochAt, hc, hcur, hold]
      have hepoch' : s.releaseCommit.epochAt j.val = s.settings.epoch := by
        simp only [State.epochAt, hset]
        rfl
      refine ⟨h1.trans ?_, (h2.trans hepoch).trans hepoch'.symm, h3.trans ?_⟩
      · rw [State.sliceFirst_of_cursor hcur, State.sliceFirst_of_cursor hcur', SettingsUnit.sliceAt_of_no_commit hnone,
          SettingsUnit.sliceAt_of_new hc (by omega), hold, hactive, Nat.sub_zero]
      · rw [hepoch, hepoch']
        simp only [SettingsUnit.settingsOf, hc, hnone, hactive, hne, if_false]
    · obtain rfl := Option.some.inj (hfc.symm.trans hcur')
      rw [hactive]
      exact hal
    · rw [hnone] at hc'
      simp at hc'
    · intro fc hfc
      have := hn fc (by rw [← hring]; exact hfc)
      simp only [hplace, hat, hslot, hring]
      exact this
    · rw [hnone] at hc'
      simp at hc'
  · rw [e]
    refine (geometryLegal_iff s).mpr ⟨h, hn, fun c fc hc hfc => ?_⟩
    have hsw : c.switchHeartbeat ≠ fc := fun e => hne c hc (e ▸ hfc)
    by_contra h0
    exact hsw (by bv_omega)

/-! ### The advance of the cursor (R6) -/

theorem toNat_sub_mod {a b : Heartbeat} {p : Nat} (hp : p = 1 ∨ p = 2 ∨ p = 4 ∨ p = 8 ∨ p = 16) (ha : a.toNat % p = 0)
    (hb : b.toNat % p = 0) : (a - b).toNat % p = 0 := by
  have := a.isLt
  have := b.isLt
  rw [BitVec.toNat_sub]
  obtain rfl | rfl | rfl | rfl | rfl := hp <;> omega

/-- The span code of the slice at the cursor. -/
def State.cursorSpan (s : State) : Nat := (s.settings.settingsOf (s.epochAt 0)).span

/-- What a cursor that stands at a slice, with a commit some slices ahead of it or none, says of the slice it stands at. -/
structure CursorSlice (s : State) (fc : Heartbeat) : Prop where
  cursor : s.ring.cursor = some fc
  span : s.cursorSpan ≤ 4
  /-- With a commit pending the slice is an old one, and the switch lies a number of old slices ahead. -/
  pending : ∀ c, s.settings.commit = some c → s.cursorSpan = c.oldSpan ∧ 1 ≤ (c.switchHeartbeat - fc).toNat ∧
    (c.switchHeartbeat - fc).toNat % 2 ^ c.oldSpan = 0
  free : s.settings.commit = none → s.cursorSpan = s.settings.active.span

theorem cursorSlice_of_legal {s : State} {fc : Heartbeat} (hfc : s.ring.cursor = some fc) (h : GeometryLegal s)
    (hset : SettingsLegal s) : CursorSlice s fc := by
  cases hc : s.settings.commit with
  | none =>
    have hspan : s.cursorSpan = s.settings.active.span := by simp [State.cursorSpan, SettingsUnit.settingsOf, hc]
    exact ⟨hfc, hspan ▸ hset.active.1.span, by simp [hc], fun _ => hspan⟩
  | some c =>
    obtain ⟨fc', hfc', h1, h2, -, h3, -⟩ := h.switch c hc
    obtain rfl := Option.some.inj (hfc.symm.trans hfc')
    obtain ⟨⟨hout, -⟩, hold, -⟩ := hset.outgoing c hc
    have h4 : c.oldSpan ≤ 4 := hold ▸ hout.span
    have hmod := toNat_sub_mod (two_pow_le_of_le_four h4) h2 h1
    have hle : 2 ^ c.oldSpan ≤ (c.switchHeartbeat - fc).toNat := Nat.le_of_dvd h3 (Nat.dvd_of_mod_eq_zero hmod)
    have hslices : 0 < c.oldSlices fc := Nat.div_pos hle (by positivity)
    have hspan : s.cursorSpan = c.oldSpan := by
      simp [State.cursorSpan, SettingsUnit.settingsOf, State.epochAt, hc, hfc, hslices, hold]
    refine ⟨hfc, hspan ▸ h4, fun c' hc' => ?_, by simp [hc]⟩
    obtain rfl := Option.some.inj (hc.symm.trans hc')
    exact ⟨hspan, h3, hmod⟩

namespace CursorSlice

variable {s t : State} {fc fc' : Heartbeat}

/-- How far the cursor advances. -/
theorem step (h : CursorSlice s fc) (hfc' : fc' = fc + BitVec.ofNat 16 (2 ^ s.cursorSpan)) :
    (fc' - fc).toNat = 2 ^ s.cursorSpan ∧ 2 ^ s.cursorSpan ≤ 16 ∧ 0 < 2 ^ s.cursorSpan := by
  have hp := two_pow_le_of_le_four h.span
  generalize 2 ^ s.cursorSpan = p at hp hfc'
  have : p ≤ 16 := by omega
  refine ⟨?_, this, by omega⟩
  rw [hfc', BitVec.toNat_sub, toNat_heartbeat_add_ofNat]
  have := fc.isLt
  omega

/-- Past the slice at the cursor every offset shrinks by one (R8, R9). -/
theorem offset_advance (h : CursorSlice s fc) (hfc' : fc' = fc + BitVec.ofNat 16 (2 ^ s.cursorSpan)) {x : Heartbeat}
    (hx : 2 ^ s.cursorSpan ≤ (x - fc).toNat) : s.settings.offset fc x = s.settings.offset fc' x + 1 := by
  obtain ⟨hstep, h16, hpos⟩ := h.step hfc'
  have hx' := toNat_sub_switch (fc := fc) (sw := fc') (x := x) (by rw [hstep]; exact hx)
  rw [hstep] at hx'
  cases hc : s.settings.commit with
  | none =>
    rw [SettingsUnit.offset_of_no_commit hc, SettingsUnit.offset_of_no_commit hc, hx', ← h.free hc,
      Nat.div_eq_sub_div hpos hx]
  | some c =>
    obtain ⟨hspan, h1, hmod⟩ := h.pending c hc
    rw [hspan] at hx hx' hstep hpos
    have hle : 2 ^ c.oldSpan ≤ (c.switchHeartbeat - fc).toNat := Nat.le_of_dvd h1 (Nat.dvd_of_mod_eq_zero hmod)
    have hsw := toNat_sub_switch (fc := fc) (sw := fc') (x := c.switchHeartbeat) (by rw [hstep]; exact hle)
    rw [hstep] at hsw
    rw [SettingsUnit.offset_of_commit hc, SettingsUnit.offset_of_commit hc, PendingCommit.oldSlices,
      PendingCommit.oldSlices, hx', hsw, Nat.div_eq_sub_div hpos hx, Nat.div_eq_sub_div hpos hle]
    by_cases hd : (x - fc).toNat < (c.switchHeartbeat - fc).toNat
    · rw [if_pos hd, if_pos (by omega)]
    · rw [if_neg hd, if_neg (by omega)]
      omega

/-- One old slice fewer lies before the switch heartbeat. -/
theorem oldSlices_advance (h : CursorSlice s fc) (hfc' : fc' = fc + BitVec.ofNat 16 (2 ^ s.cursorSpan)) {c : PendingCommit}
    (hc : s.settings.commit = some c) : c.oldSlices fc = c.oldSlices fc' + 1 := by
  obtain ⟨hspan, h1, hmod⟩ := h.pending c hc
  obtain ⟨hstep, -, hpos⟩ := h.step hfc'
  rw [hspan] at hstep hpos
  have hle : 2 ^ c.oldSpan ≤ (c.switchHeartbeat - fc).toNat := Nat.le_of_dvd h1 (Nat.dvd_of_mod_eq_zero hmod)
  rw [PendingCommit.oldSlices, PendingCommit.oldSlices, toNat_sub_switch (sw := fc') (by rw [hstep]; exact hle), hstep,
    Nat.div_eq_sub_div hpos hle]

theorem sliceAt_advance (h : CursorSlice s fc) (hfc' : fc' = fc + BitVec.ofNat 16 (2 ^ s.cursorSpan)) (j : Nat) :
    s.settings.sliceAt fc' j = s.settings.sliceAt fc (j + 1) := by
  have shift : ∀ p : Nat, fc + BitVec.ofNat 16 p + BitVec.ofNat 16 (j * p) = fc + BitVec.ofNat 16 ((j + 1) * p) := by
    intro p
    rw [BitVec.add_assoc, ← BitVec.ofNat_add, Nat.add_mul, Nat.one_mul, Nat.add_comm]
  cases hc : s.settings.commit with
  | none =>
    rw [SettingsUnit.sliceAt_of_no_commit hc, SettingsUnit.sliceAt_of_no_commit hc, hfc', h.free hc, shift]
  | some c =>
    have hold := h.oldSlices_advance hfc' hc
    by_cases hj : j < c.oldSlices fc'
    · obtain ⟨hspan, -⟩ := h.pending c hc
      rw [SettingsUnit.sliceAt_of_old hc hj, SettingsUnit.sliceAt_of_old hc (by omega), hfc', hspan, shift]
    · rw [SettingsUnit.sliceAt_of_new hc (Nat.le_of_not_lt hj), SettingsUnit.sliceAt_of_new hc (by omega), hold,
        Nat.add_sub_add_right]

/-- The slices at the offsets after the cursor has advanced past its slice. -/
theorem slices_advance (h : CursorSlice s fc) (hfc' : fc' = fc + BitVec.ofNat 16 (2 ^ s.cursorSpan))
    (ht : t.ring.cursor = some fc') (hset : t.settings = s.settings) (j : Nat) :
    t.sliceFirst j = s.sliceFirst (j + 1) ∧ t.epochAt j = s.epochAt (j + 1) := by
  rw [State.sliceFirst_of_cursor ht, State.sliceFirst_of_cursor h.cursor, hset, h.sliceAt_advance hfc' j]
  refine ⟨rfl, ?_⟩
  cases hc : s.settings.commit with
  | none => simp [State.epochAt, hset, hc]
  | some c => simp [State.epochAt, hset, hc, ht, h.cursor, h.oldSlices_advance hfc' hc]

end CursorSlice

/-- From `s` to `t` the cursor slot is emptied and the cursor advances past its slice, the newest heartbeat with it where it would
fall behind (R6, R7). -/
structure Advances (s t : State) (fc fc' : Heartbeat) : Prop where
  slice : CursorSlice s fc
  past : fc' = fc + BitVec.ofNat 16 (2 ^ s.cursorSpan)
  cursor : t.ring.cursor = some fc'
  settings : t.settings = s.settings
  newest : t.ring.newest = newestAfterAdvance fc' s.ring.newest
  slots : ∀ j : Fin 8, t.slot (t.slotAt j) = if j = 7 then .free else s.slot (s.slotAt (j + 1))

theorem GeometrySound.advance {s t : State} {fc fc' : Heartbeat} (h : GeometrySound s) (ha : Advances s t fc fc') :
    GeometrySound t where
  slices j hj := by
    rw [ha.slots] at hj ⊢
    by_cases h7 : j = 7
    · rw [if_pos h7] at hj
      exact absurd rfl hj
    · rw [if_neg h7] at hj ⊢
      obtain ⟨hfirst, hepoch⟩ := ha.slice.slices_advance ha.past ha.cursor ha.settings j.val
      have hval : (j + 1 : Fin 8).val = j.val + 1 := Fin.val_add_one_of_lt (Fin.lt_last_iff_ne_last.mpr h7)
      rw [hfirst, hepoch, ha.settings, ← hval]
      exact h.slices (j + 1) hj
  aligned fc₁ hfc₁ hc := by
    obtain rfl := Option.some.inj (hfc₁.symm.trans ha.cursor)
    rw [ha.settings] at hc ⊢
    have hp := two_pow_le_of_le_four ha.slice.span
    have hal := h.aligned fc ha.slice.cursor hc
    rw [ha.past, toNat_heartbeat_add_ofNat, ha.slice.free hc]
    rw [ha.slice.free hc] at hp
    have := fc.isLt
    obtain e | e | e | e | e := hp <;> rw [e] at hal ⊢ <;> omega
  switch c hc := by
    rw [ha.settings] at hc ⊢
    obtain ⟨fc₁, hfc₁, h1, h2, h3, h4⟩ := h.switch c hc
    obtain rfl := Option.some.inj (hfc₁.symm.trans ha.slice.cursor)
    obtain ⟨hspan, hpos, hmod⟩ := ha.slice.pending c hc
    obtain ⟨hstep, -, -⟩ := ha.slice.step ha.past
    have hp := two_pow_le_of_le_four ha.slice.span
    refine ⟨fc', ha.cursor, ?_, h2, h3, ?_⟩
    · rw [ha.past, toNat_heartbeat_add_ofNat, hspan]
      rw [hspan] at hp
      have := fc₁.isLt
      obtain e | e | e | e | e := hp <;> rw [e] at h1 ⊢ <;> omega
    · rw [hspan] at hstep
      have hle : 2 ^ c.oldSpan ≤ (c.switchHeartbeat - fc₁).toNat := Nat.le_of_dvd hpos (Nat.dvd_of_mod_eq_zero hmod)
      rw [toNat_sub_switch (by rw [hstep]; exact hle)]
      omega

theorem newestLegal_advance {s t : State} {fc fc' : Heartbeat} (h : NewestLegal s) (ha : Advances s t fc fc')
    (hheld : (s.slot (s.slotAt 0)).state ≠ .free) : NewestLegal t := by
  intro fc₁ hfc₁
  obtain rfl := Option.some.inj (hfc₁.symm.trans ha.cursor)
  obtain ⟨n, hn, ⟨k, hk, hfilled⟩ | ⟨-, hfree⟩⟩ := h fc ha.slice.cursor
  · obtain ⟨hd, ho⟩ := (State.place_within_iff ha.slice.cursor).mp hk
    obtain ⟨hstep, h16, hpos⟩ := ha.slice.step ha.past
    have hslots : ∀ j : Fin 8, (t.slot (t.slotAt j)).state ≠ .free ↔ j.val + 1 ≤ k.val := by
      intro j
      rw [ha.slots]
      by_cases h7 : j = 7
      · rw [if_pos h7, h7]
        exact ⟨fun e => absurd rfl e, fun e => by have := k.isLt; simp at e; omega⟩
      · have hval : (j + 1 : Fin 8).val = j.val + 1 := Fin.val_add_one_of_lt (Fin.lt_last_iff_ne_last.mpr h7)
        rw [if_neg h7, hfilled, Fin.le_def, hval]
    by_cases hx : 2 ^ s.cursorSpan ≤ (n - fc).toNat
    · have hadv := ha.slice.offset_advance ha.past hx
      have hd' : (n - fc₁).toNat < Config.halfTurn := by
        rw [toNat_sub_switch (by rw [hstep]; exact hx)]
        omega
      refine ⟨n, ?_, .inl ⟨⟨k.val - 1, by omega⟩, (State.place_within_iff ha.cursor).mpr ⟨hd', ?_⟩, fun j => ?_⟩⟩
      · rw [ha.newest, hn, newestAfterAdvance, if_neg hd'.not_ge]
      · rw [ha.settings]
        show _ = k.val - 1
        omega
      · rw [hslots, Fin.le_def]
        show _ ↔ j.val ≤ k.val - 1
        omega
    · have hk0 : k.val = 0 := by
        rw [← ho]
        cases hc : s.settings.commit with
        | none =>
          rw [SettingsUnit.offset_of_no_commit hc, ← ha.slice.free hc]
          exact Nat.div_eq_of_lt (Nat.lt_of_not_le hx)
        | some c =>
          obtain ⟨hspan, hpos', hmod⟩ := ha.slice.pending c hc
          have hle : 2 ^ c.oldSpan ≤ (c.switchHeartbeat - fc).toNat := Nat.le_of_dvd hpos' (Nat.dvd_of_mod_eq_zero hmod)
          rw [hspan] at hx
          rw [SettingsUnit.offset_of_commit hc, if_pos (by omega)]
          exact Nat.div_eq_of_lt (Nat.lt_of_not_le hx)
      have hback : Config.halfTurn ≤ (n - fc₁).toNat := by
        show 32768 ≤ _
        generalize 2 ^ s.cursorSpan = p at hstep h16 hpos hx
        bv_omega
      refine ⟨fc₁ - 1, ?_, .inr ⟨rfl, fun i => ?_⟩⟩
      · rw [ha.newest, hn, newestAfterAdvance, if_pos hback]
      · obtain ⟨j, rfl⟩ := t.slotAt_surjective i
        by_contra hne
        have := (hslots j).mp hne
        omega
  · exact absurd (hfree _) hheld

end Sys2Proof.Machine
end

section
/-! Every step keeps the held slices consecutive and the row position ahead of every pulse: O9. -/

namespace Sys2Proof.Machine

open Sys2Proof Sys2Proof.Safety

/-! ### Settling and taking free no slot -/

theorem settle_free (s : State) (i : SlotId) : (s.settle.slot i).state = .free ↔ (s.slot i).state = .free := by
  by_cases ht : s.takesNext
  · rw [(State.settle_of_takes ht).1]
    split
    · next h =>
      subst h
      rw [← Slot.examined_state_free (s.slot s.ring.cursorSlot), ht.2.2.2]
      simp
    · exact Slot.examined_state_free _
  · rw [(State.settle_of_not_takes ht).1]
    exact Slot.examined_state_free _

theorem emitterTakes_free (s : State) (i : SlotId) : (s.emitterTakes.slot i).state = .free ↔ (s.slot i).state = .free := by
  by_cases ht : s.emitter.state = .idle ∧ s.emitter.stopping = none ∧ s.ring.cursor ≠ none ∧
      (s.slot s.ring.cursorSlot).state = .complete
  · rw [(s.emitterTakes_eq.1 ht).1]
    split
    · next h => simp [h, ht.2.2.2]
    · rfl
  · rw [s.emitterTakes_eq.2 ht]

end Sys2Proof.Machine

namespace Sys2Proof.Safety.GeometryLegal

open Sys2Proof Sys2Proof.Machine

variable {s t : State}

/-- Where slots stay FREE or not and keep their slices, under the same mapping. -/
theorem congr (h : GeometryLegal s) (hm : SameMapping s t) (hn : t.ring.newest = s.ring.newest)
    (hfree : ∀ i, (t.slot i).state = .free ↔ (s.slot i).state = .free)
    (hslice : ∀ i, (s.slot i).state ≠ .free → (t.slot i).first = (s.slot i).first ∧
      (t.slot i).span = (s.slot i).span ∧ (t.slot i).epoch = (s.slot i).epoch) : GeometryLegal t := by
  obtain ⟨h1, h2, h3⟩ := (geometryLegal_iff s).mp h
  exact (geometryLegal_iff t).mpr ⟨h1.congr hm hfree hslice, h2.congr hm hn hfree, by rw [hm.commit, hm.cursor]; exact h3⟩

/-- Where the slots are the same. -/
theorem of_slots (h : GeometryLegal s) (hm : SameMapping s t) (hs : t.ring.slots = s.ring.slots)
    (hn : t.ring.newest = s.ring.newest) : GeometryLegal t := by
  have e : ∀ i, t.slot i = s.slot i := fun i => by simp only [State.slot, hs]
  exact h.congr hm hn (fun i => by rw [e]) fun i _ => by rw [e]; exact ⟨rfl, rfl, rfl⟩

theorem writes (h : GeometryLegal s) (hw : s.Writes t) : GeometryLegal t :=
  h.congr (.of_eq hw.cursor hw.cursorSlot hw.settings) hw.newest (fun i => by rw [hw.state]) fun i _ => (hw.slice i).2

theorem settle (h : GeometryLegal s) : GeometryLegal s.settle := by
  have hc := State.ChangesSlots.settle s
  refine h.congr (.of_eq hc.cursor hc.cursorSlot hc.settings) hc.newest (settle_free s) fun i _ => ?_
  obtain ⟨st, d, e⟩ := s.slot_settle i
  rw [e]
  exact ⟨rfl, rfl, rfl⟩

theorem emitterTakes (h : GeometryLegal s) : GeometryLegal s.emitterTakes := by
  have hc := State.ChangesSlots.emitterTakes s
  refine h.congr (.of_eq hc.cursor hc.cursorSlot hc.settings) hc.newest (emitterTakes_free s) fun i _ => ?_
  obtain ⟨st, e⟩ := s.slot_emitterTakes i
  rw [e]
  exact ⟨rfl, rfl, rfl⟩

theorem spares (h : GeometryLegal s) (hq : s.Spares t) : GeometryLegal t :=
  h.of_slots (.of_eq hq.cursor hq.cursorSlot hq.settings) hq.slots hq.newest

end Sys2Proof.Safety.GeometryLegal

namespace Sys2Proof.Machine

open Sys2Proof Sys2Proof.Safety

/-! ### The geometry of the ring at each move -/

theorem geometryLegal_of_reset {s : State} (hr : s.ring = .reset) (hc : s.settings.commit = none) : GeometryLegal s := by
  have hcur : s.ring.cursor = none := by rw [hr]; rfl
  refine ⟨fun j hj => ?_, by simp [hcur], by simp [hc], by simp [hcur]⟩
  have : s.slot (s.slotAt j) = .free := by simp [State.slot, hr, Ring.reset]
  rw [this] at hj
  exact absurd rfl hj

/-- The newest heartbeat after an HB_OPEN in the ring (R7). -/
theorem State.openedFor_newest (l : LinkId) (x : Heartbeat) (t : Fin 8) {s : State} {fc : Heartbeat}
    (hfc : s.ring.cursor = some fc) : (s.openedFor l x t).ring.newest = newer fc x s.ring.newest := by
  have hw := (State.Writes.continuity l x t s).trans (.setIntake l ⟨some x, some x⟩ _)
  have hu : (((s.continuity l x t).intakeAt l x).updateNewest x).ring.newest = newer fc x s.ring.newest := by
    have hcur : ((s.continuity l x t).intakeAt l x).ring.cursor = some fc := hw.cursor.trans hfc
    have hnew : ((s.continuity l x t).intakeAt l x).ring.newest = s.ring.newest := hw.newest
    generalize (s.continuity l x t).intakeAt l x = v at hcur hnew
    simp only [State.updateNewest, hcur, hnew]
  unfold State.openedFor
  dsimp only
  split <;> exact hu

/-- An HB_OPEN in the ring, from a state whose newest heartbeat is settled or, right after the cursor is set, the HB_OPEN itself. -/
theorem geometryLegal_opened {s : State} (h : GeometrySound s) {fc x n : Heartbeat} {t : Fin 8}
    (hfc : s.ring.cursor = some fc) (hx : s.place x = .within t) (hnewest : s.ring.newest = some n)
    (hold : (∃ k, s.place n = .within k ∧ ∀ j : Fin 8, (s.slot (s.slotAt j)).state ≠ .free ↔ j ≤ k) ∨
      (n = fc - 1 ∨ n = x) ∧ ∀ i : SlotId, (s.slot i).state = .free)
    (hahead : ∀ c, s.settings.commit = some c → 1 ≤ (c.switchHeartbeat - fc).toNat) (l : LinkId) (starts : Bool) :
    GeometryLegal ((s.fillOpen t starts).openedFor l x t).settle := by
  have hw := State.ChangesSlots.fillOpen t starts s
  have hopen := fillOpen_free t starts s
  have hsound := h.fillOpen t starts
  generalize s.fillOpen t starts = o at hw hopen hsound
  have hj := State.openedFor_judges l x t o
  obtain ⟨hset, -, hcur, hcs, -⟩ := State.openedFor_frame l x t o
  have hn := State.openedFor_newest l x t (hw.cursor.trans hfc)
  generalize o.openedFor l x t = v at hj hset hcur hcs hn
  have hmo : SameMapping o v := .of_eq hcur hcs hset
  have hm : SameMapping s v := .of_eq (hcur.trans hw.cursor) (hcs.trans hw.cursorSlot) (hset.trans hw.settings)
  have hv : GeometrySound v := hsound.congr hmo (fun i => by rw [hj.state]) fun i _ => hj.slice i
  refine GeometryLegal.settle ((geometryLegal_iff v).mpr ⟨hv, ?_, fun c fc' hc hfc' => ?_⟩)
  · refine newestLegal_of_open hm hfc hx (fun j => ?_) (hn.trans (by rw [hw.newest, hnewest])) hold
    rw [hj.state]
    exact hopen j
  · obtain rfl := Option.some.inj ((hm.cursor ▸ hfc').symm.trans hfc)
    exact hahead c (hm.commit ▸ hc)

/-- The first HB_OPEN lies in the slice at the cursor that it sets (R6). -/
theorem State.place_setCursor {s : State} (hc : s.ring.cursor = none) (hcommit : s.settings.commit = none)
    (hspan : s.settings.active.span ≤ 4) (x : Heartbeat) :
    (s.setCursor x).ring.cursor = some (sliceStart s.settings.active.span x) ∧ (s.setCursor x).ring.newest = some x ∧
    (sliceStart s.settings.active.span x).toNat % 2 ^ s.settings.active.span = 0 ∧ (s.setCursor x).place x = .within 0 := by
  have hp := two_pow_le_of_le_four hspan
  have hx := x.isLt
  have hstart : (sliceStart s.settings.active.span x).toNat = x.toNat - x.toNat % 2 ^ s.settings.active.span := by
    rw [sliceStart, BitVec.toNat_ofNat]
    omega
  have hd : (x - sliceStart s.settings.active.span x).toNat = x.toNat % 2 ^ s.settings.active.span := by
    rw [BitVec.toNat_sub, hstart]
    have := Nat.mod_le x.toNat (2 ^ s.settings.active.span)
    omega
  have e : s.setCursor x = { s with ring :=
      { s.ring with cursor := some (sliceStart s.settings.active.span x), newest := some x } } := by
    simp only [State.setCursor, hc]
  have hcur : (s.setCursor x).ring.cursor = some (sliceStart s.settings.active.span x) := by rw [e]
  have hset : (s.setCursor x).settings = s.settings := by rw [e]
  refine ⟨hcur, by rw [e], ?_, State.place_eq_within hcur ?_ ?_⟩
  · rw [hstart]
    obtain h | h | h | h | h := hp <;> rw [h] <;> omega
  · rw [hd]
    obtain h | h | h | h | h := hp <;> rw [h] <;> show _ < 32768 <;> omega
  · rw [hset, SettingsUnit.offset_of_no_commit hcommit, hd]
    exact Nat.div_eq_of_lt (Nat.mod_lt _ (by positivity))

theorem geometryLegal_takeOpen {s : State} (hr : RingLegal s) (hset : SettingsLegal s) (h : GeometryLegal s) (l : LinkId)
    (x : Heartbeat) : GeometryLegal (s.takeOpen l x) := by
  rw [State.takeOpen_eq]
  cases hc : s.ring.cursor with
  | none =>
    have hcommit : s.settings.commit = none := by
      cases hcm : s.settings.commit with
      | none => rfl
      | some c =>
        obtain ⟨fc, hfc, -⟩ := h.switch c hcm
        simp [hc] at hfc
    obtain ⟨hcur, hnew, hal, hplace⟩ := State.place_setCursor hc hcommit hset.active.1.span x
    have hfree : ∀ i, ((s.setCursor x).slot i).state = .free := by
      intro i
      rw [(State.Judges.setCursor x s).state]
      exact hr.unset hc i
    have hsettings : (s.setCursor x).settings = s.settings := (State.Takes.setCursor l x s).settings
    simp only [hplace]
    refine geometryLegal_opened ⟨fun j hj => absurd (hfree _) hj, fun fc hfc _ => ?_, ?_⟩ hcur hplace hnew
      (.inr ⟨.inr rfl, hfree⟩) ?_ l _
    · obtain rfl := Option.some.inj (hfc.symm.trans hcur)
      rw [hsettings]
      exact hal
    · simp [hsettings, hcommit]
    · simp [hsettings, hcommit]
  | some fc =>
    have e : s.setCursor x = s := by simp only [State.setCursor, hc]
    rw [e]
    cases hp : s.place x with
    | behind => exact h.writes ((State.Writes.setIntake ..).trans (.countLate ..))
    | beyond => exact h
    | within t =>
      obtain ⟨hs, hn, hahead⟩ := (geometryLegal_iff s).mp h
      obtain ⟨n, hnew, hold⟩ := hn fc hc
      refine geometryLegal_opened hs hc hp hnew (hold.imp id fun ⟨h1, h2⟩ => ⟨.inl h1, h2⟩)
        (fun c hcm => hahead c fc hcm hc) l _

/-- The release of the record slot, and of a commit that is due behind it (R6, R122, R145). -/
theorem geometryLegal_releaseSlot {s : State} (hr : RingSound s) (hset : SettingsLegal s) (h : GeometryLegal s) {i : SlotId}
    (hi : s.emitter.slot = some i) : GeometryLegal (s.releaseSlot i) := by
  obtain ⟨hcs, -⟩ := hr.active i hi
  have hem := (hr.record i).mp hi
  have h0 : s.slotAt 0 = i := by simp [State.slotAt, hcs]
  have hheld : (s.slot (s.slotAt 0)).state ≠ .free := by rw [h0, hem]; simp
  obtain ⟨hs, hn, -⟩ := (geometryLegal_iff s).mp h
  cases hc : s.ring.cursor with
  | none => exact absurd (hr.unset hc _) hheld
  | some fc =>
    have hslice := cursorSlice_of_legal hc h hset
    obtain ⟨hfirst, -, hspan⟩ := h.slices 0 hheld
    have hfirst' : (s.slot i).first = fc := by
      rw [← h0, hfirst]
      show s.sliceFirst 0 = fc
      rw [State.sliceFirst_of_cursor hc]
      cases hcm : s.settings.commit with
      | none => simp [SettingsUnit.sliceAt_of_no_commit hcm]
      | some c =>
        obtain ⟨hold, h1, hmod⟩ := hslice.pending c hcm
        have hle : 2 ^ c.oldSpan ≤ (c.switchHeartbeat - fc).toNat := Nat.le_of_dvd h1 (Nat.dvd_of_mod_eq_zero hmod)
        rw [SettingsUnit.sliceAt_of_old hcm (Nat.div_pos hle (by positivity))]
        simp
    have hspan' : (s.slot i).span = s.cursorSpan := by
      rw [← h0, hspan]
      rfl
    generalize hadv : (s.emptySlot i).advanceCursor (s.slot i) = v
    have ha : Advances s v fc (fc + BitVec.ofNat 16 (2 ^ s.cursorSpan)) := by
      subst hadv
      refine ⟨hslice, rfl, ?_, rfl, ?_, fun j => ?_⟩
      · simp only [State.advanceCursor, hfirst', hspan']
      · simp only [State.advanceCursor, hfirst', hspan']
        rfl
      · have hat : ((s.emptySlot i).advanceCursor (s.slot i)).slotAt j = s.slotAt (j + 1) := by
          show s.ring.cursorSlot + 1 + j = _
          rw [add_assoc, add_comm 1 j]
          rfl
        have hslot : ∀ i', ((s.emptySlot i).advanceCursor (s.slot i)).slot i' = (s.emptySlot i).slot i' := fun _ => rfl
        rw [hat, hslot, State.emptySlot, State.slot_mapSlot_ite]
        have : s.slotAt (j + 1) = i ↔ j = 7 := by
          rw [← h0, s.slotAt_injective.eq_iff]
          omega
        simp only [this]
    have hrel : GeometryLegal v.releaseCommit :=
      geometryLegal_releaseCommit (hs.advance ha) (newestLegal_advance hn ha hheld) fun c hcm => by
        rw [ha.settings] at hcm ⊢
        exact (hset.outgoing c hcm).2.2.1
    have : s.releaseSlot i = { v.releaseCommit with emitter :=
        { v.releaseCommit.emitter with state := .idle, slot := none, next := none } } := by rw [← hadv]; rfl
    rw [this]
    exact hrel.of_slots (.of_eq rfl rfl rfl) rfl rfl

/-! ### A commit that becomes pending (R141, R143) -/

/-- Eight slices of one span code are at most 128 heartbeats. -/
theorem lt_of_place_within {s : State} {fc n : Heartbeat} {k : Fin 8} (hfc : s.ring.cursor = some fc)
    (hc : s.settings.commit = none) (hspan : s.settings.active.span ≤ 4) (hk : s.place n = .within k) :
    (n - fc).toNat < 128 := by
  have hp := two_pow_le_of_le_four hspan
  have ho := ((State.place_within_iff hfc).mp hk).2
  rw [SettingsUnit.offset_of_no_commit hc] at ho
  have hlt : (n - fc).toNat / 2 ^ s.settings.active.span < 8 := ho ▸ k.isLt
  rw [Nat.div_lt_iff_lt_mul (by positivity)] at hlt
  omega

/-- Where the switch heartbeat of a new commit lies: at the cursor or a whole number of old slices after it, past the newest
heartbeat. -/
theorem newCommit_distance {s : State} (hset : SettingsLegal s) {fc n : Heartbeat} (hal : fc.toNat % 2 ^ s.settings.active.span = 0)
    (hn : s.ring.newest = some n) (hd : (n - fc).toNat < 128 ∨ n = fc - 1) :
    (s.newCommit fc).switchHeartbeat.toNat % 2 ^ s.settings.active.span = 0 ∧
    (s.newCommit fc).switchHeartbeat.toNat % 2 ^ s.settings.staging.span = 0 ∧
    ((s.newCommit fc).switchHeartbeat - fc).toNat < 144 ∧
    ((s.newCommit fc).switchHeartbeat - fc).toNat % 2 ^ s.settings.active.span = 0 ∧
    ((n - fc).toNat < 128 → (n - fc).toNat < ((s.newCommit fc).switchHeartbeat - fc).toNat) := by
  have ha := hset.active.1.span
  have hb := hset.staging.span
  have e : (s.newCommit fc).switchHeartbeat = switchAfter n s.settings.active.span s.settings.staging.span := by
    simp only [State.newCommit, hn, Option.getD_some]
  obtain ⟨hmod, -, -⟩ := switchAfter_spec n ha hb
  obtain ⟨h1, h2, h3⟩ := switchAfter_bounds n ha hb
  rw [e]
  have dvd : ∀ m, m ≤ max s.settings.active.span s.settings.staging.span →
      (switchAfter n s.settings.active.span s.settings.staging.span).toNat % 2 ^ m = 0 := fun m hm =>
    Nat.mod_eq_zero_of_dvd ((pow_dvd_pow 2 hm).trans (Nat.dvd_of_mod_eq_zero hmod))
  have hactive := dvd _ (Nat.le_max_left ..)
  refine ⟨hactive, dvd _ (Nat.le_max_right ..), ?_, toNat_sub_mod (two_pow_le_of_le_four ha) hactive hal, fun hd' => ?_⟩
  · obtain hd | rfl := hd
    · rw [switchAfter_distance ha hb hd]
      omega
    · generalize switchAfter (fc - 1) s.settings.active.span s.settings.staging.span = sw at h1 h2
      generalize 2 ^ max s.settings.active.span s.settings.staging.span = p at h2 h3
      bv_omega
  · rw [switchAfter_distance ha hb hd']
    omega

/-- The held slices are all old ones as a commit becomes pending. -/
theorem geometrySound_withCommit {s : State} (hset : SettingsLegal s) (h : GeometryLegal s) {fc : Heartbeat}
    (hfc : s.ring.cursor = some fc) (hc : s.settings.commit = none) :
    GeometrySound (s.withCommit fc) ∧ NewestLegal (s.withCommit fc) := by
  obtain ⟨hs, hnew, -⟩ := (geometryLegal_iff s).mp h
  obtain ⟨n, hn, hold⟩ := hnew fc hfc
  have hal := h.aligned fc hfc hc
  have hspan := hset.active.1.span
  have hd : (n - fc).toNat < 128 ∨ n = fc - 1 :=
    hold.imp (fun ⟨k, hk, _⟩ => lt_of_place_within hfc hc hspan hk) fun h => h.1
  obtain ⟨h1, h2, h3, h4, h5⟩ := newCommit_distance hset hal hn hd
  have hcur : (s.withCommit fc).ring.cursor = some fc := hfc
  have hcommit : (s.withCommit fc).settings.commit = some (s.newCommit fc) := rfl
  refine ⟨⟨fun j hj => ?_, fun _ _ hcm => ?_, fun c hcm => ?_⟩, fun fc' hfc' => ?_⟩
  · have hj' : (s.slot (s.slotAt j)).state ≠ .free := hj
    obtain ⟨hfirst, hepoch, hsp⟩ := h.slices j hj'
    obtain ⟨k, hk, hfilled⟩ | ⟨-, hfree⟩ := hold
    · obtain ⟨hdn, ho⟩ := (State.place_within_iff hfc).mp hk
      rw [SettingsUnit.offset_of_no_commit hc] at ho
      have hjk : j.val ≤ k.val := (hfilled j).mp hj'
      have hlt : j.val < (s.newCommit fc).oldSlices fc := by
        have hd' := lt_of_place_within hfc hc hspan hk
        obtain ⟨q, hq⟩ := Nat.dvd_of_mod_eq_zero h4
        have hlt : (n - fc).toNat < 2 ^ s.settings.active.span * q := hq ▸ h5 hd'
        have hq' : (s.newCommit fc).oldSlices fc = q := by
          show ((s.newCommit fc).switchHeartbeat - fc).toNat / 2 ^ s.settings.active.span = q
          rw [hq, Nat.mul_div_cancel_left _ (by positivity)]
        rw [hq']
        have := Nat.div_lt_of_lt_mul hlt
        omega
      have hep : (s.withCommit fc).epochAt j.val = s.settings.epoch := by
        simp only [State.epochAt, hcommit, hcur, hlt, if_true]
        rfl
      have hep' : s.epochAt j.val = s.settings.epoch := by simp [State.epochAt, hc]
      show (s.slot (s.slotAt j)).first = _ ∧ (s.slot (s.slotAt j)).epoch = _ ∧ (s.slot (s.slotAt j)).span = _
      rw [hfirst, hepoch, hsp, hep, hep', State.sliceFirst_of_cursor hfc, State.sliceFirst_of_cursor hcur,
        SettingsUnit.sliceAt_of_no_commit hc, SettingsUnit.sliceAt_of_old hcommit hlt]
      refine ⟨rfl, rfl, ?_⟩
      have e : (s.withCommit fc).settings.settingsOf s.settings.epoch = s.settings.active := by
        simp [SettingsUnit.settingsOf, hcommit, State.newCommit]
      rw [e]
      simp [SettingsUnit.settingsOf, hc]
    · exact absurd (hfree _) hj'
  · rw [hcommit] at hcm
    simp at hcm
  · obtain rfl := Option.some.inj (hcommit.symm.trans hcm)
    exact ⟨fc, hcur, hal, h1, h2, h3⟩
  · obtain rfl := Option.some.inj (hfc'.symm.trans hcur)
    refine ⟨n, hn, hold.imp (fun ⟨k, hk, hfilled⟩ => ⟨k, ?_, hfilled⟩) id⟩
    rw [← hk]
    refine State.place_congr (by rfl) fun fc'' hfc'' => ?_
    obtain rfl := Option.some.inj (hfc''.symm.trans hfc)
    exact SettingsUnit.offset_of_pending hc hcommit rfl (h5 (lt_of_place_within hfc hc hspan hk))

theorem GeometrySound.writes {s t : State} (h : GeometrySound s) (hw : s.Writes t) : GeometrySound t :=
  h.congr (.of_eq hw.cursor hw.cursorSlot hw.settings) (fun i => by rw [hw.state]) fun i _ => (hw.slice i).2

theorem NewestLegal.writes {s t : State} (h : NewestLegal s) (hw : s.Writes t) : NewestLegal t :=
  h.congr (.of_eq hw.cursor hw.cursorSlot hw.settings) hw.newest fun i => by rw [hw.state]

/-- The commit state of a commit that has just become pending names the epoch before. -/
theorem withCommit_epoch (s : State) (fc : Heartbeat) (c : PendingCommit) (hc : (s.withCommit fc).settings.commit = some c) :
    c.oldEpoch + 1 = (s.withCommit fc).settings.epoch := by
  obtain rfl := Option.some.inj hc
  rfl

theorem geometryLegal_commitPending {s : State} (hset : SettingsLegal s) (h : GeometryLegal s) {fc : Heartbeat}
    (hfc : s.ring.cursor = some fc) (hc : s.settings.commit = none) : GeometryLegal (s.commitPendingFrom fc).1 := by
  rw [State.commitPendingFrom_fst]
  obtain ⟨h1, h2⟩ := geometrySound_withCommit hset h hfc hc
  have hw := State.Writes.cutLastOld (s.newCommit fc) fc (s.withCommit fc)
  refine (geometryLegal_releaseCommit (h1.writes hw) (h2.writes hw) fun c hcm => ?_).settle
  rw [hw.settings] at hcm ⊢
  exact withCommit_epoch s fc c hcm

/-- What the core moves do to the geometry of the ring. -/
theorem CoreMove.geometryLegal {s t : State} (h : CoreMove s t) (hr : RingLegal s) (hset : SettingsLegal s)
    (hs : GeometryLegal s) : GeometryLegal t := by
  have settled {v : State} (hw : s.Writes v) : GeometryLegal v.settle := (hs.writes hw).settle
  have of_ring {t : State} (hr : t.ring = s.ring) (hs' : t.settings = s.settings) : GeometryLegal t :=
    hs.of_slots (.of_eq (by rw [hr]) (by rw [hr]) hs') (by rw [hr]) (by rw [hr])
  cases h with
  | takeOpen l x _ => exact geometryLegal_takeOpen hr hset hs l x
  | takeBurst l b => exact hs.writes (.takeBurstItem l b s)
  | takeClose l c =>
    rw [State.takeClose_eq]
    split
    · exact of_ring rfl rfl
    · exact settled (.closedFor ..)
  | takeLoss l =>
    rw [State.takeLossItem_eq]
    split
    · exact hs
    · exact settled (.lostFor ..)
  | takeDown l reason =>
    rw [State.takeDownItem_eq]
    exact settled (.downFor ..)
  | timebase => exact hs.writes (.timebase s)
  | expiry i hf => exact settled (.giveUp hf)
  | epochMarkSent i f _ => exact of_ring (by simp [State.afterEpochMark]) (by simp [State.afterEpochMark])
  | headSent i f _ => exact of_ring (by simp [State.afterHead]) (by simp [State.afterHead])
  | rowSent i f _ =>
    obtain ⟨e, -, ⟨-, h⟩ | ⟨-, h⟩⟩ := s.afterRow_cases i f <;> rw [h]
    · have hret : GeometryLegal (s.returnCells i s.emitter.row f.pulses) := by
        have hslot : ∀ i', ((s.returnCells i s.emitter.row f.pulses).slot i').state = (s.slot i').state ∧
            ((s.returnCells i s.emitter.row f.pulses).slot i').first = (s.slot i').first ∧
            ((s.returnCells i s.emitter.row f.pulses).slot i').span = (s.slot i').span ∧
            ((s.returnCells i s.emitter.row f.pulses).slot i').epoch = (s.slot i').epoch := by
          intro i'
          unfold State.returnCells
          dsimp only
          rw [State.slot_mapSlot_ite]
          split
          · next e => rw [e]; exact ⟨rfl, rfl, rfl, rfl⟩
          · exact ⟨rfl, rfl, rfl, rfl⟩
        exact hs.congr (.of_eq rfl rfl rfl) rfl (fun i' => by rw [(hslot i').1]) fun i' _ => (hslot i').2
      exact hret.of_slots (.of_eq (by simp) (by simp) (by simp)) (by simp) (by simp)
    · exact of_ring (by simp) (by simp)
  | tailSent i f first h =>
    have hi : s.countEmitted.emitter.slot = some i := (State.sending_eq_some.mp h).2.1
    have hrel : GeometryLegal (s.countEmitted.releaseSlot i) :=
      geometryLegal_releaseSlot (s := s.countEmitted) (hr.sound.of_slots rfl id rfl rfl Iff.rfl rfl) (hset.congr rfl) (of_ring rfl rfl) hi
    obtain ⟨-, e⟩ | ⟨-, -, e⟩ | ⟨-, -, e⟩ := s.afterTail_cases first i <;> rw [e]
    · exact of_ring rfl rfl
    · exact (hrel.of_slots (t := State.boundary _) (.of_eq (by simp) (by simp) (by simp)) (by simp) (by simp)).emitterTakes
    · have h := hrel.emitterTakes
      generalize (s.countEmitted.releaseSlot i).emitterTakes = v at h
      exact h.of_slots (.of_eq (by simp) (by simp) (by simp)) (by simp) (by simp)
  | boundary => exact of_ring (by simp) (by simp)
  | writeSettings c hc => exact hs.of_slots ⟨rfl, rfl, rfl, rfl, rfl⟩ rfl rfl
  | commitNow hf hcur hc =>
    have hcur' : s.commitNow.1.ring.cursor = none := hcur
    have hc' : s.commitNow.1.settings.commit = none := hc
    refine ⟨fun j hj => absurd (hr.unset hcur _) hj, fun fc hfc => ?_, fun c hcm => ?_, fun fc hfc => ?_⟩
    · rw [hcur'] at hfc
      simp at hfc
    · rw [hc'] at hcm
      simp at hcm
    · rw [hcur'] at hfc
      simp at hfc
  | commitPending fc hf hfc hc => exact geometryLegal_commitPending hset hs hfc hc
  | forceClose i hi => exact settled (.forced (State.oldestFilling_filling hi))
  | setStopping k => exact of_ring rfl rfl
  | restart hr _ hset' _ _ =>
    refine geometryLegal_of_reset hr ?_
    rw [hset']
    unfold State.applyCommit
    split
    · rfl
    · next hc => simpa using hc
  | pinReset => exact geometryLegal_of_reset rfl rfl

end Sys2Proof.Machine
end

section
/-! Every step keeps the row position ahead of every pulse, with ring, settings and geometry legal: O9. -/

namespace Sys2Proof.Machine

open Sys2Proof Sys2Proof.Safety

/-! ### Events at the slots (R119) -/

/-- Only FILLING slots get pulses, and the record slot is EMITTING. -/
theorem emissionLegal_writes {s t : State} (h : EmissionLegal s) (hr : RingSound s) (hw : s.Writes t) : EmissionLegal t := by
  refine h.congr (by rw [hw.settings]; exact fun _ => rfl) (by rw [hw.emitter]) (by rw [hw.emitter]) (by rw [hw.emitter])
    (by rw [hw.emitter]; exact id) fun i hi => ⟨hw.rows i ?_, (hw.slice i).2.2.2⟩
  rw [(hr.record i).mp hi]
  simp

/-- A record that is taken begins at the first row of its order. -/
theorem emissionLegal_taking {s t : State} {u : Slot} (he : t.emitter = s.emitterAt u) (hset : t.settings = s.settings)
    (hepoch : (t.slot s.ring.cursorSlot).epoch = u.epoch) : EmissionLegal t := by
  refine (emissionLegal_iff t).mpr fun _ i hi => ?_
  rw [he] at hi ⊢
  obtain rfl : s.ring.cursorSlot = i := Option.some.inj hi
  have ho : t.orderOf s.ring.cursorSlot = (s.settings.settingsOf u.epoch).order := by
    rw [State.orderOf, hset, hepoch]
  rw [ho]
  refine passed_first _ ?_ _
  simp only [State.emitterAt]
  split <;> simp

theorem emissionLegal_settle {s : State} (h : EmissionLegal s) : EmissionLegal s.settle := by
  have hc := State.ChangesSlots.settle s
  have hslot : ∀ i, (s.settle.slot i).rows = (s.slot i).rows ∧ (s.settle.slot i).epoch = (s.slot i).epoch := by
    intro i
    obtain ⟨st, d, e⟩ := s.slot_settle i
    rw [e]
    exact ⟨rfl, rfl⟩
  by_cases ht : s.takesNext
  · exact emissionLegal_taking (State.settle_of_takes ht).2 hc.settings (hslot _).2
  · have he := (State.settle_of_not_takes ht).2
    exact h.congr (by rw [hc.settings]; exact fun _ => rfl) (by rw [he]) (by rw [he]) (by rw [he]) (by rw [he]; exact id)
      fun i _ => hslot i

theorem emissionLegal_emitterTakes {s : State} (h : EmissionLegal s) : EmissionLegal s.emitterTakes := by
  have hc := State.ChangesSlots.emitterTakes s
  by_cases ht : s.emitter.state = .idle ∧ s.emitter.stopping = none ∧ s.ring.cursor ≠ none ∧
      (s.slot s.ring.cursorSlot).state = .complete
  · obtain ⟨st, e⟩ := s.slot_emitterTakes s.ring.cursorSlot
    exact emissionLegal_taking (s.emitterTakes_eq.1 ht).2 hc.settings (by rw [e])
  · rw [s.emitterTakes_eq.2 ht]
    exact h

/-- Without a record slot there is nothing to pass. -/
theorem emissionLegal_of_none {s : State} (h : s.emitter.slot = none) : EmissionLegal s :=
  (emissionLegal_iff s).mpr fun _ i hi => by simp [h] at hi

/-- While a restart waits nothing is said of the record. -/
theorem emissionLegal_of_stopping {s : State} (h : s.emitter.stopping ≠ none) : EmissionLegal s :=
  (emissionLegal_iff s).mpr fun hs => absurd hs h

theorem emissionLegal_takeOpen {s : State} (hr : RingSound s) (h : EmissionLegal s) (l : LinkId) (x : Heartbeat) :
    EmissionLegal (s.takeOpen l x) := by
  have e : (s.setCursor x).ring.slots = s.ring.slots ∧ (s.setCursor x).settings = s.settings ∧
      (s.setCursor x).emitter = s.emitter := by
    unfold State.setCursor
    split <;> exact ⟨rfl, rfl, rfl⟩
  obtain ⟨e1, e2, e3⟩ := e
  have hc : EmissionLegal (s.setCursor x) :=
    h.congr (by rw [e2]; exact fun _ => rfl) (by rw [e3]) (by rw [e3]) (by rw [e3]) (by rw [e3]; exact id)
      fun i _ => by simp only [State.slot, e1, and_self]
  have hr' := hr.setCursor x
  rw [State.takeOpen_eq]
  split
  · exact emissionLegal_writes hc hr' ((State.Writes.setIntake ..).trans (.countLate ..))
  · exact hc
  · next t hp =>
    refine emissionLegal_settle ?_
    have hw := State.ChangesSlots.fillOpen t (s.startsPartially x) (s.setCursor x)
    have he := State.fillOpen_emitter t (s.startsPartially x) (s.setCursor x)
    have ho : EmissionLegal ((s.setCursor x).fillOpen t (s.startsPartially x)) := by
      refine hc.congr (by rw [hw.settings]; exact fun _ => rfl) (by rw [he]) (by rw [he]) (by rw [he]) (by rw [he]; exact id)
        fun i hi => ?_
      obtain ⟨k, rfl⟩ := (s.setCursor x).slotAt_surjective i
      have hem := (hr'.record _).mp hi
      rw [State.slot_fillOpen, if_neg (by simp [hem])]
      exact ⟨rfl, rfl⟩
    generalize (s.setCursor x).fillOpen t (s.startsPartially x) = o at ho
    have hj := State.openedFor_judges l x t o
    obtain ⟨hset, -⟩ := State.openedFor_frame l x t o
    exact ho.congr (by rw [hset]; exact fun _ => rfl) (by rw [hj.emitter]) (by rw [hj.emitter]) (by rw [hj.emitter])
      (by rw [hj.emitter]; exact id) fun i _ => ⟨hj.rows i, (hj.slice i).2.2⟩

/-! ### Record frames (R117 to R120) -/

theorem emissionLegal_afterRow {s : State} (h : EmissionLegal s) {i : SlotId} (hi : s.emitter.slot = some i) (f : UplinkFrame) :
    EmissionLegal (s.afterRow i f).recordBoundary := by
  refine emissionLegal_recordBoundary ?_
  obtain ⟨e, he, ho⟩ := s.afterRow_cases i f
  obtain ⟨-, hslot, -, hstop⟩ := s.emitter.afterRow_frame (s.orderOf i) s.emitter.row
    ((s.returnCells i s.emitter.row f.pulses).slot i)
  rw [← he] at hslot hstop
  obtain ⟨hrun, e'⟩ | ⟨hwait, e'⟩ := ho <;> rw [e']
  · refine (emissionLegal_iff _).mpr fun _ i' hi' => ?_
    obtain rfl : i = i' := Option.some.inj (hi.symm.trans (hslot.symm.trans hi'))
    have hpassed := ((emissionLegal_iff s).mp h hrun i hi).1
    have hret : (s.returnCells i s.emitter.row f.pulses).slot i =
        { s.slot i with
          rows := (s.slot i).rows.set s.emitter.row (((s.slot i).rows[s.emitter.row]).drop f.pulses)
          totals := ((s.returnCells i s.emitter.row f.pulses).slot i).totals } := by
      unfold State.returnCells
      dsimp only
      rw [State.slot_mapSlot]
      rfl
    have hrows : ∀ r, ¬ (s.orderOf i).le s.emitter.row r →
        ((s.returnCells i s.emitter.row f.pulses).slot i).rows[r] = [] := by
      intro r hr
      have hne : r ≠ s.emitter.row := fun e => hr (e ▸ RowOrder.le_refl _ _)
      rw [hret]
      exact (Vector.getElem_set_ne s.emitter.row.isLt r.isLt fun e => hne (Fin.ext e.symm)).trans (hpassed r hr)
    have := Emitter.passed_afterRow (o := s.orderOf i) (e := s.emitter) hrows
    rw [← he] at this
    have horder : State.orderOf { s.returnCells i s.emitter.row f.pulses with emitter := e } i = s.orderOf i := by
      show ((s.settings.settingsOf ((s.returnCells i s.emitter.row f.pulses).slot i).epoch).order) = _
      rw [hret]
      rfl
    rw [horder]
    exact this
  · exact emissionLegal_of_stopping (by rw [← hstop] at hwait; exact hwait)

theorem emissionLegal_afterHead {s : State} (h : EmissionLegal s) (i : SlotId) (hi : s.emitter.slot = some i) :
    EmissionLegal (s.afterHead i).recordBoundary := by
  refine emissionLegal_recordBoundary ((emissionLegal_iff _).mpr fun hrun i' hi' => ?_)
  obtain rfl : i = i' := Option.some.inj (hi.symm.trans hi')
  refine ⟨((emissionLegal_iff s).mp h hrun i hi).1, fun hn r => ?_⟩
  have hn' : (if (s.slot i).hasPulses then FrameKind.row else .tail) = .tail := Option.some.inj hn
  have hp : (s.slot i).hasPulses = false := by
    by_contra hp
    simp [hp] at hn'
  by_contra hne
  have : (s.slot i).hasPulses = true := (Slot.hasPulses_iff _).mpr ⟨r, hne⟩
  rw [hp] at this
  simp at this

/-! ### Commits (R142) -/

/-- A release keeps the settings of the slices that are held. -/
theorem emissionLegal_releaseCommit {s : State} (h : EmissionLegal s) (hr : RingSound s) (hg : GeometrySound s)
    (he : ∀ c, s.settings.commit = some c → c.oldEpoch + 1 = s.settings.epoch) : EmissionLegal s.releaseCommit := by
  obtain ⟨c, hc, hcur, e⟩ | ⟨-, e⟩ := s.releaseCommit_cases
  · have hne : s.settings.epoch ≠ c.oldEpoch := by
      have := he c hc
      bv_omega
    refine (emissionLegal_iff _).mpr fun hrun i hi => ?_
    rw [e] at hrun hi ⊢
    obtain ⟨j, rfl⟩ := s.slotAt_surjective i
    have hheld : (s.slot (s.slotAt j)).state ≠ .free := by rw [(hr.record _).mp hi]; simp
    have hepoch : (s.slot (s.slotAt j)).epoch = s.settings.epoch := by
      rw [(hg.slices j hheld).2.1]
      simp [State.epochAt, hc, hcur, PendingCommit.oldSlices]
    have horder : s.orderOf (s.slotAt j) = s.settings.active.order := by
      simp only [State.orderOf, SettingsUnit.settingsOf, hc, hepoch, hne, if_false]
    have hpass := (emissionLegal_iff s).mp h hrun _ hi
    rw [horder] at hpass
    exact hpass
  · rw [e]
    exact h

theorem emissionLegal_commitPending {s : State} (hr : RingSound s) (hset : SettingsLegal s) (hg : GeometryLegal s)
    (h : EmissionLegal s) {fc : Heartbeat} (hfc : s.ring.cursor = some fc) (hc : s.settings.commit = none) :
    EmissionLegal (s.commitPendingFrom fc).1 := by
  rw [State.commitPendingFrom_fst]
  have hw := State.Writes.cutLastOld (s.newCommit fc) fc (s.withCommit fc)
  have hr' : RingSound (s.withCommit fc) := hr.of_slots rfl id rfl rfl Iff.rfl rfl
  have hg' := (geometrySound_withCommit hset hg hfc hc).1
  have h' : EmissionLegal (s.withCommit fc) := by
    refine (emissionLegal_iff _).mpr fun hrun i hi => ?_
    have hi' : s.emitter.slot = some i := hi
    obtain ⟨j, rfl⟩ := s.slotAt_surjective i
    have hheld : (s.slot (s.slotAt j)).state ≠ .free := by rw [(hr.record _).mp hi']; simp
    have hepoch : (s.slot (s.slotAt j)).epoch = s.settings.epoch := by
      rw [(hg.slices j hheld).2.1]
      simp [State.epochAt, hc]
    have hold : (s.withCommit fc).settings.settingsOf s.settings.epoch = s.settings.active := by
      simp [SettingsUnit.settingsOf, State.withCommit, State.newCommit]
    have horder : (s.withCommit fc).orderOf (s.slotAt j) = s.orderOf (s.slotAt j) := by
      show ((s.withCommit fc).settings.settingsOf (s.slot (s.slotAt j)).epoch).order = _
      rw [State.orderOf, hepoch, hold]
      simp [SettingsUnit.settingsOf, hc]
    rw [horder]
    exact (emissionLegal_iff s).mp h hrun _ hi'
  refine emissionLegal_settle (emissionLegal_releaseCommit (emissionLegal_writes h' hr' hw) (hr'.writes hw) (hg'.writes hw)
    fun c hcm => ?_)
  rw [hw.settings] at hcm ⊢
  exact withCommit_epoch s fc c hcm

/-- What the core moves do to the record. -/
theorem CoreMove.emissionLegal {s t : State} (h : CoreMove s t) (hr : RingLegal s) (hset : SettingsLegal s)
    (hg : GeometryLegal s) (hs : EmissionLegal s) : EmissionLegal t := by
  have settled {v : State} (hw : s.Writes v) : EmissionLegal v.settle :=
    emissionLegal_settle (emissionLegal_writes hs hr.sound hw)
  cases h with
  | takeOpen l x _ => exact emissionLegal_takeOpen hr.sound hs l x
  | takeBurst l b => exact emissionLegal_writes hs hr.sound (.takeBurstItem l b s)
  | takeClose l c =>
    rw [State.takeClose_eq]
    split
    · exact emissionLegal_writes hs hr.sound (.countLate l s)
    · exact settled (.closedFor ..)
  | takeLoss l =>
    rw [State.takeLossItem_eq]
    split
    · exact hs
    · exact settled (.lostFor ..)
  | takeDown l reason =>
    rw [State.takeDownItem_eq]
    exact settled (.downFor ..)
  | timebase => exact emissionLegal_writes hs hr.sound (.timebase s)
  | expiry i hf => exact settled (.giveUp hf)
  | epochMarkSent i f h =>
    refine emissionLegal_recordBoundary ((emissionLegal_iff _).mpr fun hrun i' hi' => ?_)
    exact ⟨((emissionLegal_iff s).mp hs hrun i' hi').1, by simp [State.afterEpochMark]⟩
  | headSent i f h => exact emissionLegal_afterHead hs i (State.sending_eq_some.mp h).2.1
  | rowSent i f h => exact emissionLegal_afterRow hs (State.sending_eq_some.mp h).2.1 f
  | tailSent i f first _ =>
    have hrel : EmissionLegal (s.countEmitted.releaseSlot i) :=
      emissionLegal_of_none (by rw [State.releaseSlot_emitter])
    obtain ⟨hstop, e⟩ | ⟨-, -, e⟩ | ⟨-, -, e⟩ := s.afterTail_cases first i <;> rw [e]
    · exact emissionLegal_of_stopping hstop
    · exact emissionLegal_emitterTakes (emissionLegal_boundary hrel)
    · exact emissionLegal_boundary (emissionLegal_emitterTakes hrel)
  | boundary => exact emissionLegal_boundary (hs.congr (fun _ => rfl) rfl rfl rfl id fun _ _ => ⟨rfl, rfl⟩)
  | writeSettings c hc => exact hs.congr (fun _ => rfl) rfl rfl rfl id fun _ _ => ⟨rfl, rfl⟩
  | commitNow hf hcur hc =>
    refine emissionLegal_of_none (?_ : s.emitter.slot = none)
    cases he : s.emitter.slot with
    | none => rfl
    | some i =>
      have := hr.unset hcur i
      rw [(hr.record i).mp he] at this
      simp at this
  | commitPending fc hf hfc hc => exact emissionLegal_commitPending hr.sound hset hg hs hfc hc
  | forceClose i hi => exact settled (.forced (State.oldestFilling_filling hi))
  | setStopping k =>
    refine emissionLegal_of_stopping ?_
    simp only [State.setStopping]
    split <;> simp
  | restart _ _ _ he _ => exact emissionLegal_of_none (by rw [he]; rfl)
  | pinReset => exact emissionLegal_of_none rfl

/-- Settles O9: an HB_OPEN opens up to its own slot and moves the newest heartbeat there; the advance of the cursor shifts every
slice by one offset; a commit becomes pending past the newest heartbeat, so all held slices are old ones; and the row position
moves past empty chains alone. -/
theorem emissionStaysLegal : Obligations.EmissionStaysLegal :=
  keptByStep_of_core
    (fun _ _ h ⟨hr, hset, hg, he⟩ => ⟨hr.spares h, hset.congr h.settings, hg.spares h, he.spares h⟩)
    fun _ _ h ⟨hr, hset, hg, he⟩ =>
      ⟨h.ringLegal hr, h.settingsLegal hset, h.geometryLegal hr hset hg, h.emissionLegal hr hset hg he⟩

end Sys2Proof.Machine
end

section
/-! The control unit and the return lane stay within their bounds (R147, R151 to R154, R162): O12. -/

namespace Sys2Proof.Safety.LaneLegal

open Sys2Proof Sys2Proof.Machine

variable {r : ReturnLane}

theorem age (h : LaneLegal r) (n : Nat) : LaneLegal (r.age n) := by
  have hlen := ageWindow_length_le n r.errorWindow
  unfold ReturnLane.age
  split
  · exact h
  all_goals
    refine ⟨h.training, h.counting, hlen.trans h.window, fun hs => hlen.trans_lt (h.noLoss hs),
      fun a ha => lt_of_mem_ageWindow ha, h.alignment, h.framed, h.short⟩

theorem trainUp (h : LaneLegal r) (hs : r.state = .training) : LaneLegal r.trainUp := by
  have hc := h.counting hs
  have hw := h.noLoss (by simp [hs])
  have ha : r.alignment.isSome = true := h.alignment.mpr (by simp [hs])
  unfold ReturnLane.trainUp
  split
  · exact ⟨hc, by simp, h.window, fun _ => hw, h.ages, by simp [ha], fun _ => rfl, h.short⟩
  · next hn =>
    simp only [Config.trainingWords] at hn
    exact ⟨hc, fun _ => Nat.lt_of_not_le hn, h.window, h.noLoss, h.ages, h.alignment, h.framed, h.short⟩

theorem trainReset (h : LaneLegal r) : LaneLegal r.trainReset :=
  ⟨Nat.zero_le _, fun _ => by simp [ReturnLane.trainReset], h.window, h.noLoss, h.ages, h.alignment, h.framed, h.short⟩

/-- In SEARCH with a window of at most four marks. -/
theorem toSearch (hw : r.errorWindow.length ≤ 4) (ha : ∀ a ∈ r.errorWindow, a < 256) : LaneLegal r.toSearch :=
  ⟨Nat.zero_le _, by simp [ReturnLane.toSearch], hw, by simp [ReturnLane.toSearch], ha, by simp [ReturnLane.toSearch],
    by simp [ReturnLane.toSearch], by simp [ReturnLane.toSearch]⟩

theorem setTimer (h : LaneLegal r) (n : Nat) : LaneLegal { r with signalTimer := n } :=
  ⟨h.training, h.counting, h.window, h.noLoss, h.ages, h.alignment, h.framed, h.short⟩

theorem noFrame (h : LaneLegal r) : LaneLegal { r with frame := none } :=
  ⟨h.training, h.counting, h.window, h.noLoss, h.ages, h.alignment, by simp, by simp⟩

theorem setFrame (h : LaneLegal r) (hs : r.state = .aligned) {ws : List Word16} (hw : requestComplete ws = false) :
    LaneLegal { r with frame := some ws } :=
  ⟨h.training, h.counting, h.window, h.noLoss, h.ages, h.alignment, fun _ => hs, fun _ h' => Option.some.inj h' ▸ hw⟩

theorem found (pos : Nat) : LaneLegal
    { r with state := .training, alignment := some pos, trainingCount := 1, errorWindow := [], signalTimer := 0, frame := none } :=
  ⟨by simp, by simp, by simp, by simp, by simp, by simp, by simp, by simp⟩

/-- A word with a code error, below the limit of the window. -/
theorem mark (h : LaneLegal r) (hl : (markWindow r.errorWindow).length < 4) :
    LaneLegal { r with errorWindow := markWindow r.errorWindow, signalTimer := 0 } := by
  refine ⟨h.training, h.counting, hl.le, fun _ => hl, fun a ha => ?_, h.alignment, h.framed, h.short⟩
  obtain rfl | ha := List.mem_cons.mp ha
  · omega
  · exact lt_of_mem_ageWindow ha

theorem markWindow_length (h : LaneLegal r) (hs : r.state ≠ .search) : (markWindow r.errorWindow).length ≤ 4 := by
  have := ageWindow_length_le 1 r.errorWindow
  have := h.noLoss hs
  simp only [markWindow, List.length_cons]
  omega

end Sys2Proof.Safety.LaneLegal

namespace Sys2Proof.Machine

open Sys2Proof Sys2Proof.Safety

/-! ### Lane words keep request queue and receiver legal (R151 to R154) -/

/-- The request queue holds at most four requests, and the return-lane receiver is legal. -/
def LaneBound (s : State) : Prop := s.control.queue.length ≤ 4 ∧ LaneLegal s.lane

namespace LaneBound

variable {s : State}

theorem mapLane (h : LaneBound s) {f : ReturnLane → ReturnLane} (hf : LaneLegal (f s.lane)) : LaneBound (s.mapLane f) :=
  ⟨h.1, hf⟩

theorem countDiscarded (h : LaneBound s) : LaneBound s.countDiscarded := h

theorem discardFrame (h : LaneBound s) :
    LaneBound s.discardFrame ∧ s.discardFrame.lane.state = s.lane.state ∧
    s.discardFrame.lane.errorWindow = s.lane.errorWindow := by
  obtain ⟨-, e⟩ | ⟨-, e⟩ := s.discardFrame_cases <;> rw [e]
  · exact ⟨h, rfl, rfl⟩
  · exact ⟨⟨h.1, h.2.noFrame⟩, rfl, rfl⟩

theorem alignedControl (h : LaneBound s) (hs : s.lane.state = .aligned) (c : Word16) : LaneBound (s.alignedControl c) := by
  obtain ⟨hd, hst, -⟩ := h.discardFrame
  unfold State.alignedControl
  repeat' split
  · exact h
  · exact h
  · exact hd.mapLane (hd.2.setFrame (hst.trans hs) rfl)
  · exact hd

theorem laneControl (h : LaneBound s) (c : Word16) : LaneBound (s.laneControl c) := by
  unfold State.laneControl
  split
  · exact h
  · next hs =>
    refine h.mapLane ?_
    split
    · exact (h.2.age 1).trainUp (by simp [ReturnLane.age, hs])
    · exact (h.2.age 1).trainReset
  · next hs => exact (h.mapLane (h.2.age 1)).alignedControl (by simp [ReturnLane.age, hs]) c

theorem offerRequest (h : LaneBound s) (q : Request) : LaneBound (s.offerRequest q) := by
  unfold State.offerRequest
  split
  · next hl =>
    refine ⟨?_, h.2⟩
    simp only [Config.queueRequests] at hl
    simp only [List.length_append, List.length_cons, List.length_nil]
    omega
  · exact h

theorem closeRequest (h : LaneBound s) (ws : List Word32) : LaneBound (s.closeRequest ws) := by
  cases ws with
  | nil => exact h
  | cons header rest =>
    simp only [State.closeRequest, State.completeRequest]
    split
    · exact h.offerRequest _
    · exact h

theorem requestData (h : LaneBound s) (ws : List Word16) : LaneBound (s.requestData ws) := by
  unfold State.requestData
  split
  · exact h
  · next before hf =>
    split
    · exact (h.mapLane h.2.noFrame).closeRequest _
    · next hn => exact h.mapLane (h.2.setFrame (h.2.framed (by simp [hf])) (by simpa using hn))

theorem requestWordsArrive (h : LaneBound s) (ws : List Word16) : LaneBound (s.requestWordsArrive ws) := by
  unfold State.requestWordsArrive
  split
  · exact h
  · exact h.mapLane (h.2.age _).trainReset
  · dsimp only
    split
    · exact (h.mapLane (h.2.age _)).requestData ws
    · have hc := h.laneControl Config.requestStart
      exact (hc.mapLane (hc.2.age _)).requestData ws

theorem laneWord (h : LaneBound s) (w : LaneWord) : LaneBound (s.laneWord w) := by
  unfold State.laneWord
  split
  · exact h.laneControl _
  · split
    · exact h
    · exact h.mapLane (h.2.age 1).trainReset
    · exact (h.mapLane (h.2.age 1)).requestData _

theorem inRequest (h : LaneBound s) (inFrame : Option (List Word16)) : LaneBound (s.inRequest inFrame) := by
  cases inFrame with
  | none => exact h
  | some ws => exact h.requestWordsArrive ws

theorem laneCodeError (h : LaneBound s) : LaneBound s.laneCodeError := by
  unfold State.laneCodeError
  split
  · exact h
  · exact h.mapLane (.toSearch h.2.window h.2.ages)
  · next hs =>
    obtain ⟨hd, hst, -⟩ := h.discardFrame
    have hn : s.discardFrame.lane.state ≠ .search := by rw [hst, hs]; simp
    dsimp only
    split
    · refine ⟨hd.1, LaneLegal.toSearch (r := { s.discardFrame.lane with
        errorWindow := markWindow s.discardFrame.lane.errorWindow, signalTimer := 0 }) (hd.2.markWindow_length hn) fun a ha => ?_⟩
      obtain rfl | ha := List.mem_cons.mp ha
      · omega
      · exact lt_of_mem_ageWindow ha
    · next hl => exact hd.mapLane (hd.2.mark (Nat.lt_of_not_le hl))

theorem laneSignalLoss (h : LaneBound s) : LaneBound s.laneSignalLoss := by
  obtain ⟨hd, -⟩ := h.discardFrame
  have lost : LaneBound (s.discardFrame.mapLane fun r => { r.toSearch with signalTimer := Config.signalPeriods }) :=
    hd.mapLane ((LaneLegal.toSearch hd.2.window hd.2.ages).setTimer _)
  unfold State.laneSignalLoss
  split
  · exact h
  · exact lost
  · exact lost

end LaneBound

/-! ### The other moves -/

/-- Request queue and lane within their bounds, live settings and copy state too. -/
def ControlBound (s : State) : Prop := ControlLegal s ∧ LaneLegal s.lane

/-- From `s` to `t` nothing changes that `ControlBound` is about, but that a commit may end and opening words be sent. -/
structure State.KeepsControl (s t : State) : Prop where
  queue : t.control.queue = s.control.queue
  live : t.control.live = s.control.live
  copyNext : t.padTable.copyNext = s.padTable.copyNext
  commit : t.settings.commit = s.settings.commit ∨ t.settings.commit = none
  opening : t.uplink.opening ≤ s.uplink.opening
  lane : t.lane = s.lane

namespace State.KeepsControl

variable {s t u : State}

theorem bound (h : s.KeepsControl t) (hs : ControlBound s) : ControlBound t := by
  obtain ⟨hc, hl⟩ := hs
  refine ⟨⟨h.queue ▸ hc.requests, h.live ▸ hc.lowWater, h.live ▸ hc.timeout, h.copyNext ▸ hc.copy, fun hn => ?_,
    h.opening.trans hc.opening⟩, h.lane ▸ hl⟩
  obtain e | e := h.commit
  · rw [e]
    exact hc.exclusive (h.copyNext ▸ hn)
  · exact e

theorem of_eq (hq : t.control.queue = s.control.queue) (hl : t.control.live = s.control.live)
    (hp : t.padTable.copyNext = s.padTable.copyNext) (hs : t.settings.commit = s.settings.commit)
    (ho : t.uplink.opening = s.uplink.opening) (hr : t.lane = s.lane) : s.KeepsControl t :=
  ⟨hq, hl, hp, .inl hs, ho.le, hr⟩

theorem trans (h : s.KeepsControl t) (h' : t.KeepsControl u) : s.KeepsControl u where
  queue := h'.queue.trans h.queue
  live := h'.live.trans h.live
  copyNext := h'.copyNext.trans h.copyNext
  commit := by
    obtain e | e := h'.commit
    · rw [e]; exact h.commit
    · exact .inr e
  opening := h'.opening.trans h.opening
  lane := h'.lane.trans h.lane

theorem of_slots (h : s.ChangesSlots t) : s.KeepsControl t :=
  .of_eq (by rw [h.control]) (by rw [h.control]) (by rw [h.padTable]) (by rw [h.settings]) (by rw [h.uplink]) h.lane

theorem of_takes {l : LinkId} (h : State.Takes l s t) : s.KeepsControl t :=
  .of_eq (by rw [h.control]) (by rw [h.control]) (by rw [h.padTable]) (by rw [h.settings]) (by rw [h.uplink]) h.lane

theorem beginTaking {l : LinkId} {it : Item} (h : s.beginTaking = some (l, it, t)) : s.KeepsControl t := by
  obtain ⟨-, -, hp, hs, -, hu, hl, hc, -⟩ := State.beginTaking_frame h
  exact .of_eq (by rw [hc]) (by rw [hc]) (by rw [hp]) (by rw [hs]) (by rw [hu]) hl

theorem releaseCommit (s : State) : s.KeepsControl s.releaseCommit := by
  obtain ⟨c, -, -, e⟩ | ⟨-, e⟩ := s.releaseCommit_cases <;> rw [e]
  · exact ⟨rfl, rfl, rfl, .inr rfl, Nat.le_refl _, rfl⟩
  · exact .of_eq rfl rfl rfl rfl rfl rfl

theorem boundary (s : State) : s.KeepsControl s.boundary :=
  .of_eq (by simp) (by simp) (by simp) (by simp) (by simp) (by simp)

theorem afterTail (first : Bool) (i : SlotId) (s : State) : s.KeepsControl (s.afterTail first i) := by
  have hr : s.KeepsControl (s.countEmitted.releaseSlot i) := by
    have h1 : s.KeepsControl ((s.countEmitted.emptySlot i).advanceCursor (s.countEmitted.slot i)) :=
      .of_eq rfl rfl rfl rfl rfl rfl
    exact (h1.trans (releaseCommit _)).trans (.of_eq rfl rfl rfl rfl rfl rfl)
  obtain ⟨-, e⟩ | ⟨-, -, e⟩ | ⟨-, -, e⟩ := s.afterTail_cases first i <;> rw [e]
  · exact .of_eq rfl rfl rfl rfl rfl rfl
  · exact (hr.trans (boundary _)).trans (of_slots (.emitterTakes _))
  · exact (hr.trans (of_slots (.emitterTakes _))).trans (boundary _)

theorem applyCommit (s : State) : s.KeepsControl s.applyCommit := by
  unfold State.applyCommit
  split
  · exact ⟨rfl, rfl, rfl, .inr rfl, Nat.le_refl _, rfl⟩
  · exact .of_eq rfl rfl rfl rfl rfl rfl

theorem restartCore (s : State) : s.KeepsControl s.restartCore := (applyCommit s).trans (.of_eq rfl rfl rfl rfl rfl rfl)

theorem mapLinks (f : LinkId → Link → Link) (s : State) : s.KeepsControl (s.mapLinks f) :=
  .of_eq (by simp) (by simp) (by simp) (by simp) (by simp) (by simp)

theorem mapGlobals (f : GlobalCounters → GlobalCounters) (s : State) : s.KeepsControl (s.mapGlobals f) :=
  .of_eq rfl rfl rfl rfl rfl rfl

theorem resumeUplink (s : State) : s.KeepsControl s.resumeUplink :=
  .of_eq (by simp) (by simp) (by simp) (by simp) (by simp) (by simp)

end State.KeepsControl

/-- What lane words may do. -/
theorem controlBound_of_lane {s t : State} (h : s.ChangesLane t) (hb : LaneBound s → LaneBound t) (hs : ControlBound s) :
    ControlBound t := by
  obtain ⟨hc, hl⟩ := hs
  obtain ⟨hq, hl'⟩ := hb ⟨hc.requests, hl⟩
  have hlive : t.control.live = s.control.live := by rw [h.control]
  have hopen : t.uplink.opening = s.uplink.opening := by rw [h.uplink]
  exact ⟨⟨hq, hlive ▸ hc.lowWater, hlive ▸ hc.timeout, h.padTable ▸ hc.copy, by rw [h.padTable, h.settings]; exact hc.exclusive,
    hopen ▸ hc.opening⟩, hl'⟩

/-- What requests may do. -/
theorem RequestAct.controlBound {q : Request} {s t : State} (h : RequestAct q s t) (hs : ControlBound s) :
    ControlBound t := by
  have of_eq {t : State} (h : s.KeepsControl t) : ControlBound t := h.bound hs
  obtain ⟨hc, hl⟩ := hs
  cases h with
  | nothing => exact ⟨hc, hl⟩
  | writeSettings hc' | reject | hold | release | setStopping | drawFree => exact of_eq (.of_eq rfl rfl rfl rfl rfl rfl)
  | writePad p hp => exact of_eq (.of_eq rfl rfl hp rfl rfl rfl)
  | copyBank hc' =>
    exact ⟨⟨hc.requests, hc.lowWater, hc.timeout, fun i hi => by obtain rfl := Option.some.inj hi; omega, fun _ => hc',
      hc.opening⟩, hl⟩
  | commitNow hf hr hc' => exact of_eq (.of_eq rfl rfl rfl rfl rfl rfl)
  | commitPending fc hf hr hc' hp =>
    rw [State.commitPendingFrom_fst]
    have h1 : ControlBound (s.withCommit fc) :=
      ⟨⟨hc.requests, hc.lowWater, hc.timeout, hc.copy, fun hn => absurd hp hn, hc.opening⟩, hl⟩
    have h2 := (State.KeepsControl.of_slots (.cutLastOld (s.newCommit fc) fc (s.withCommit fc))).bound h1
    exact (State.KeepsControl.of_slots (.settle _)).bound ((State.KeepsControl.releaseCommit _).bound h2)
  | clearDelta => exact of_eq (.mapLinks ..)
  | clearCounters =>
    unfold State.clearCounters
    exact of_eq ((State.KeepsControl.mapLinks _ s).trans (.mapGlobals _ _))
  | clearCause c => exact of_eq (.of_eq (by cases c <;> rfl) (by cases c <;> rfl) rfl rfl rfl rfl)
  | setLive =>
    have ht : field (q.payload[1]?.getD 0) 16 16 ≤ 65535 := Nat.le_of_lt_succ (Nat.mod_lt _ (by decide))
    unfold setLiveAct
    dsimp only
    have hk : s.KeepsControl (s.mapLinks fun l k => k.enableChange (s.control.live.enable.getLsbD l.val)
      ((BitVec.ofNat 24 (q.payload[0]?.getD 0).toNat).getLsbD l.val)) := .mapLinks ..
    have hb := hk.bound ⟨hc, hl⟩
    generalize s.mapLinks _ = v at hb
    obtain ⟨hv, hvl⟩ := hb
    exact ⟨⟨hv.requests, Nat.min_le_left .., ht, hv.copy, hv.exclusive, hv.opening⟩, hvl⟩
  | forceClose i hi => exact of_eq (.of_slots (((State.ChangesSlots.giveUp i s).trans (.mapSlot ..)).trans (.settle _)))
  | softReset => exact ⟨⟨Nat.zero_le _, hc.lowWater, hc.timeout, hc.copy, hc.exclusive, hc.opening⟩, hl⟩

theorem controlBound_reset : ControlBound State.reset := by
  exact ⟨⟨by simp [State.reset, Control.reset], by simp [State.reset, Control.reset, Live.reset],
    by simp [State.reset, Control.reset, Live.reset], by simp [State.reset, PadTable.reset],
    by simp [State.reset, PadTable.reset], by simp [State.reset, Uplink.reset]⟩,
    ⟨by simp [State.reset, ReturnLane.reset], by simp [State.reset, ReturnLane.reset], by simp [State.reset, ReturnLane.reset],
      by simp [State.reset, ReturnLane.reset], by simp [State.reset, ReturnLane.reset], by simp [State.reset, ReturnLane.reset],
      by simp [State.reset, ReturnLane.reset], by simp [State.reset, ReturnLane.reset]⟩⟩

theorem Move.controlBound {s t : State} (h : Move s t) (hs : ControlBound s) : ControlBound t := by
  have keep {t : State} (h : s.KeepsControl t) : ControlBound t := h.bound hs
  have taking {l : LinkId} {it : Item} {s' t : State} (hb : s.beginTaking = some (l, it, s')) (h : State.Takes l s' t) :
      ControlBound t := keep ((State.KeepsControl.beginTaking hb).trans (.of_takes h))
  have lane {t : State} (h : s.ChangesLane t) (hb : LaneBound s → LaneBound t) : ControlBound t :=
    controlBound_of_lane h hb hs
  cases h with
  | nothing => exact hs
  | link | timebase => exact keep (.of_eq rfl rfl rfl rfl rfl rfl)
  | takeOpen l x _ s' hb => exact taking hb (.takeOpen ..)
  | takeBurst l b s' hb => exact taking hb (.takeBurstItem ..)
  | takeClose l c s' hb => exact taking hb (.takeClose ..)
  | takeLoss l s' hb => exact taking hb (.takeLossItem ..)
  | takeDown l reason s' hb => exact taking hb (.takeDownItem ..)
  | expiry i _ _ => exact keep (.of_slots ((State.ChangesSlots.giveUp i s).trans (.settle _)))
  | epochMarkSent i f _ => exact keep (.of_eq (by simp [State.afterEpochMark]) (by simp [State.afterEpochMark])
      (by simp [State.afterEpochMark]) (by simp [State.afterEpochMark]) (by simp [State.afterEpochMark])
      (by simp [State.afterEpochMark]))
  | headSent i f _ => exact keep (.of_eq (by simp [State.afterHead]) (by simp [State.afterHead]) (by simp [State.afterHead])
      (by simp [State.afterHead]) (by simp [State.afterHead]) (by simp [State.afterHead]))
  | rowSent i f _ =>
    obtain ⟨e, -, ⟨-, h⟩ | ⟨-, h⟩⟩ := s.afterRow_cases i f <;> rw [h] <;>
      exact keep (.of_eq (by simp) (by simp) (by simp) (by simp) (by simp) (by simp))
  | tailSent i f first _ => exact keep (.afterTail ..)
  | replySent | replySentHandover | handover =>
    exact keep (.of_eq (by simp) (by simp) (by simp) (by simp) (by simp) (by simp))
  | trainWordSent h => exact keep ⟨by simp, by simp, by simp, by simp, by simp, by simp⟩
  | laneAlignment pos h =>
    refine lane (.mapLane ..) fun hb => hb.mapLane ?_
    have hf : s.lane.frame = none := by
      cases hfr : s.lane.frame with
      | none => rfl
      | some ws =>
        have := hb.2.framed (by simp [hfr])
        simp [h] at this
    have := LaneLegal.found pos
    rw [← hf] at this
    exact this
  | laneWord w => exact lane (.laneWord w s) (·.laneWord w)
  | laneCodeError f => exact lane ((State.ChangesLane.inRequest f s).trans (.laneCodeError _)) fun hb => (hb.inRequest f).laneCodeError
  | laneSignalLoss f =>
    exact lane ((State.ChangesLane.inRequest f s).trans (.laneSignalLoss _)) fun hb => (hb.inRequest f).laneSignalLoss
  | requestFrame ws => exact lane (.requestWordsArrive ws s) (·.requestWordsArrive ws)
  | requestCut ws c =>
    exact lane ((State.ChangesLane.requestWordsArrive ws s).trans (.laneControl c _)) fun hb =>
      (hb.requestWordsArrive ws).laneControl c
  | request q rest t a hq hh ha h =>
    obtain ⟨hc, hl⟩ := hs
    have hr : rest.length ≤ 4 := by
      have := hc.requests
      rw [hq, List.length_cons] at this
      omega
    have h0 : ControlBound { s with control := { s.control with queue := rest } } :=
      ⟨⟨hr, hc.lowWater, hc.timeout, hc.copy, hc.exclusive, hc.opening⟩, hl⟩
    exact State.KeepsControl.bound (s := t) (t := t.formReply q a) (.of_eq rfl rfl rfl rfl rfl rfl) (h.controlBound h0)
  | copyEntry i hi h =>
    obtain ⟨hc, hl⟩ := hs
    exact ⟨⟨hc.requests, hc.lowWater, hc.timeout, fun j hj => by obtain rfl := Option.some.inj hj; omega,
      fun _ => hc.exclusive (by simp [h]), hc.opening⟩, hl⟩
  | copyDone =>
    obtain ⟨hc, hl⟩ := hs
    exact ⟨⟨hc.requests, hc.lowWater, hc.timeout, by simp, by simp, hc.opening⟩, hl⟩
  | pinReset => exact State.KeepsControl.bound (s := State.reset) (.of_eq rfl rfl rfl rfl rfl rfl) controlBound_reset
  | runRestart _ _ =>
    unfold State.runRestart
    exact keep (((State.KeepsControl.restartCore s).trans (.mapLinks ..)).trans (.resumeUplink _))
  | softReset _ _ =>
    have h1 := ((State.KeepsControl.restartCore s).trans (.mapLinks
      (fun l _ => Link.softReset (s.control.live.enable.getLsbD l.val)) _)).bound hs
    unfold State.softReset
    dsimp only
    generalize s.restartCore.mapLinks _ = v at h1
    obtain ⟨hc, hl⟩ := h1
    refine (State.KeepsControl.resumeUplink _).bound ?_
    exact ⟨⟨hc.requests, hc.lowWater, hc.timeout, by simp, by simp, hc.opening⟩, hl⟩

/-- Settles O12: a request enters below the limit alone, every write to the live settings limits them, a copy starts with no commit
pending, and the lane's receiver keeps its fields in agreement at every word. -/
theorem controlStaysLegal : Obligations.ControlStaysLegal :=
  keptByStep_of_move (fun s _ hs => State.KeepsControl.bound (s := s) (.of_eq rfl rfl rfl rfl rfl rfl) hs) fun _ _ h hs =>
    h.controlBound hs

end Sys2Proof.Machine
end

section
/-! Uplink frames: payload lengths, the frame that the arbiter forms, and O13; and that the reset state is legal, O3. -/

namespace Sys2Proof.Machine

open Sys2Proof Sys2Proof.Safety

/-! ### Fields of payload words -/

/-- A field of a payload word, read from the number that the word was made of. -/
theorem field_word (n : Nat) {lo width : Nat} (h : lo + width ≤ 32) : field (word n) lo width = n / 2 ^ lo % 2 ^ width := by
  have hd : 2 ^ width ∣ 2 ^ (32 - lo) := Nat.pow_dvd_pow 2 (by omega)
  have he : (2 : Nat) ^ 32 = 2 ^ lo * 2 ^ (32 - lo) := by rw [← Nat.pow_add]; congr 1; omega
  simp only [field, word, BitVec.toNat_ofNat]
  rw [he, Nat.mod_mul_right_div_self, Nat.mod_mod_of_dvd _ hd]

/-! ### Payload lengths (R116, R173, R174) -/

theorem length_epochMarkPayload (t : Slot) (runStart : Bool) (cfg : Settings) :
    (epochMarkPayload t runStart cfg).length = 14 := by
  simp [epochMarkPayload, length_settingsWords]

theorem length_headPayload (t : Slot) (order : RowOrder) : (headPayload t order).length = 51 := by
  simp [headPayload, linkEntry, List.length_flatMap]

theorem length_codeWords (cs : List Nat) : (codeWords cs).length = (cs.length + 3) / 4 := by
  induction cs using codeWords.induct with
  | case1 | case2 | case3 | case4 => simp [codeWords]
  | case5 a b c d rest ih =>
    simp only [codeWords, List.length_cons, ih]
    omega

theorem length_pulseWords (p : StoredPulse) : (pulseWords p.pulse).length = pulseSize p := by
  simp only [pulseWords, pulseSize, List.cons_append, List.nil_append, List.length_cons, length_codeWords]
  omega

/-- The pulses that fit are the longest head of the chain within the room (R119). -/
theorem pulseSizes_fitting_le (room : Nat) (ps : List StoredPulse) : ((fitting room ps).map pulseSize).sum ≤ room := by
  induction ps generalizing room with
  | nil => simp [fitting]
  | cons p ps ih =>
    unfold fitting
    split
    · have := ih (room - pulseSize p)
      simp only [List.map_cons, List.sum_cons]
      omega
    · simp

theorem length_rowPayload (section_ : Nat) (continued : Bool) (row : RowId) (ps : List StoredPulse) :
    (rowPayload section_ continued row ps).length = 1 + (ps.map pulseSize).sum := by
  simp only [rowPayload, List.length_cons, List.length_flatMap, length_pulseWords]
  rw [Nat.add_comm]

/-! ### The frames that the arbiter forms (R116, R123) -/

/-- A frame of at most 255 payload words is well framed as it is formed. -/
theorem wellFramed_uplinkFrame (kind : FrameKind) (attention : Bool) (kindField : Word16) {payload : List Word32}
    (pulses : Nat) (h : payload.length ≤ 255) : WellFramed (uplinkFrame kind attention kindField payload pulses) := by
  have hk : kind.code < 16 := by cases kind <;> decide
  have ha : attention.toNat ≤ 1 := Bool.toNat_le attention
  have hf := kindField.isLt
  refine ⟨h, ?_, ?_, rfl⟩
  · simp only [uplinkFrame, uplinkHeader]
    rw [field_word _ (by decide)]
    simp only [placed, placedFlag]
    omega
  · simp only [uplinkFrame, uplinkHeader]
    rw [field_word _ (by decide)]
    simp only [placed, placedFlag]
    omega

/-- A frame that is well framed, with the payload length of its kind. -/
def FrameFits (f : UplinkFrame) : Prop :=
  WellFramed f ∧ (f.kind = .epochMark → f.payload.length = 14) ∧ (f.kind = .head → f.payload.length = 51) ∧
    (f.kind = .tail → f.payload.length = 8)

/-- A REPLY of 1 to 65 payload words. -/
def ReplyFits (r : Reply) : Prop := 1 ≤ r.payload.length ∧ r.payload.length ≤ 65

/-- What `FramesLegal` asks of transmitter, port and reply holder. -/
def FramesBound (s : State) : Prop :=
  (∀ f, s.uplink.tx = .frame f → FrameFits f) ∧ (∀ r, s.uplink.port = some r → ReplyFits r) ∧
    (∀ r, s.control.holder = some r → ReplyFits r)

theorem framesLegal_iff (s : State) : FramesLegal s ↔ FramesBound s := by
  constructor
  · intro h
    exact ⟨fun f hf => ⟨h.sending f hf, h.epochMark f hf, h.head f hf, h.tail f hf⟩, h.waiting, h.held⟩
  · rintro ⟨hf, hp, hh⟩
    exact ⟨fun f h => (hf f h).1, fun f h => (hf f h).2.1, fun f h => (hf f h).2.2.1, fun f h => (hf f h).2.2.2, hp, hh⟩

namespace FramesBound

variable {s t : State}

theorem congr (hx : t.uplink.tx = s.uplink.tx) (hp : t.uplink.port = s.uplink.port)
    (hh : t.control.holder = s.control.holder) (hs : FramesBound s) : FramesBound t := by
  unfold FramesBound
  rwa [hx, hp, hh]

theorem of_uplink (hu : t.uplink = s.uplink) (hh : t.control.holder = s.control.holder) (hs : FramesBound s) :
    FramesBound t := hs.congr (by rw [hu]) (by rw [hu]) hh

theorem of_slots (h : s.ChangesSlots t) (hs : FramesBound s) : FramesBound t := hs.of_uplink h.uplink (by rw [h.control])

theorem of_lane (h : s.ChangesLane t) (hs : FramesBound s) : FramesBound t :=
  hs.congr (by rw [h.uplink]) (by rw [h.uplink]) (by rw [h.control])

theorem reset : FramesBound State.reset :=
  ⟨fun f h => by simp [State.reset, Uplink.reset] at h, fun r h => by simp [State.reset, Uplink.reset] at h,
    fun r h => by simp [State.reset, Control.reset] at h⟩

/-- A transmitter that sends no frame, with port and holder as they were or emptied. -/
theorem transmitTrain (hs : FramesBound s) : FramesBound s.transmitTrain :=
  ⟨fun f h => by simp at h, hs.2.1, hs.2.2⟩

theorem transmit {kind : FrameKind} {w : Word16} {payload : List Word32} {n : Nat}
    (hf : FrameFits (uplinkFrame kind s.attention w payload n)) (hs : FramesBound s) :
    FramesBound (s.transmit kind w payload n) := by
  refine ⟨fun f h => ?_, hs.2.1, hs.2.2⟩
  obtain rfl := Transmitter.frame.inj h
  exact hf

theorem transmitRow (i : SlotId) (hs : FramesBound s) : FramesBound (s.transmitRow i) := by
  unfold State.transmitRow
  split
  · exact hs.transmitTrain
  · next row _ =>
    have hlen := pulseSizes_fitting_le (Config.payloadWords - 1) (s.slot i).rows[row]
    refine transmit ⟨wellFramed_uplinkFrame _ _ _ _ ?_, ?_, ?_, ?_⟩ (hs.of_uplink rfl rfl)
    · rw [length_rowPayload]
      have : Config.payloadWords = 255 := rfl
      omega
    all_goals intro h; cases h

/-- The record's next frame, whichever it is (R115). -/
theorem transmitRecord (i : SlotId) (kind : FrameKind) (hs : FramesBound s) : FramesBound (s.transmitRecord i kind) := by
  cases kind with
  | epochMark =>
    refine transmit ⟨wellFramed_uplinkFrame _ _ _ _ ?_, fun _ => length_epochMarkPayload .., ?_, ?_⟩ hs
    · rw [length_epochMarkPayload]; decide
    all_goals intro h; cases h
  | head =>
    refine transmit ⟨wellFramed_uplinkFrame _ _ _ _ ?_, ?_, fun _ => length_headPayload .., ?_⟩ hs
    · rw [length_headPayload]; decide
    all_goals intro h; cases h
  | row => exact hs.transmitRow i
  | tail =>
    refine transmit ⟨wellFramed_uplinkFrame _ _ _ _ (by simp [tailPayload]), ?_, ?_, fun _ => rfl⟩ hs
    all_goals intro h; cases h
  | reply => exact hs.transmitTrain

/-- The arbiter's choice (R123). -/
theorem arbitrate (hs : FramesBound s) : FramesBound s.arbitrate := by
  unfold State.arbitrate
  split
  · exact hs.transmitTrain
  · split
    · next r hr =>
      obtain ⟨hf, hp, hh⟩ := hs
      have h65 : r.payload.length ≤ 65 := (hp r hr).2
      refine transmit ⟨wellFramed_uplinkFrame _ _ _ _ (by omega), ?_, ?_, ?_⟩ ⟨hf, fun _ h => by simp at h, hh⟩
      all_goals intro h; cases h
    · split
      · exact hs.transmitRecord _ _
      · exact hs.transmitTrain

theorem boundary (hs : FramesBound s) : FramesBound s.boundary :=
  arbitrate (hs.of_uplink (by simp) (by simp))

theorem recordBoundary (hs : FramesBound s) : FramesBound s.recordBoundary := by
  unfold State.recordBoundary
  split
  · exact hs.boundary
  · exact ⟨fun f h => by simp at h, hs.2.1, hs.2.2⟩

theorem resumeUplink (hs : FramesBound s) : FramesBound s.resumeUplink := by
  obtain ⟨-, h⟩ | ⟨-, h⟩ := s.resumeUplink_cases <;> rw [h]
  · exact hs.boundary
  · exact hs

theorem handover (hs : FramesBound s) : FramesBound s.handover := by
  obtain ⟨r, hr, -, h⟩ | ⟨-, h⟩ := s.handover_cases <;> rw [h]
  · obtain ⟨hf, hp, hh⟩ := hs
    exact ⟨hf, fun r' h' => Option.some.inj h' ▸ hh r hr, fun _ h' => by simp at h'⟩
  · exact hs

theorem afterTail (first : Bool) (i : SlotId) (hs : FramesBound s) : FramesBound (s.afterTail first i) := by
  have hr : FramesBound (s.countEmitted.releaseSlot i) := hs.of_uplink (by simp) (by simp)
  obtain ⟨-, e⟩ | ⟨-, -, e⟩ | ⟨-, -, e⟩ := s.afterTail_cases first i <;> rw [e]
  · exact ⟨fun f h => by simp at h, hs.2.1, hs.2.2⟩
  · exact hr.boundary.of_slots (.emitterTakes _)
  · exact (hr.of_slots (.emitterTakes _)).boundary

end FramesBound

/-- Requests leave uplink port and reply holder to the forming of the reply. -/
theorem RequestAct.uplink_holder {q : Request} {s t : State} (h : RequestAct q s t) :
    t.uplink = s.uplink ∧ t.control.holder = s.control.holder := by
  cases h with
  | nothing | writeSettings | writePad | copyBank | reject | drawFree | hold | release | setStopping | softReset | commitNow =>
    exact ⟨rfl, rfl⟩
  | commitPending fc _ _ _ _ =>
    rw [State.commitPendingFrom_fst]
    have h1 := State.ChangesSlots.cutLastOld (s.newCommit fc) fc (s.withCommit fc)
    have h2 := State.ChangesSlots.settle ((s.withCommit fc).cutLastOld (s.newCommit fc) fc).releaseCommit
    obtain ⟨-, -, -, hu, -, hc, -⟩ := ((s.withCommit fc).cutLastOld (s.newCommit fc) fc).releaseCommit_frame
    constructor
    · rw [h2.uplink, hu, h1.uplink]; rfl
    · rw [h2.control, hc, h1.control]; rfl
  | clearDelta => exact ⟨State.mapLinks_uplink .., by rw [State.mapLinks_control]⟩
  | clearCounters => exact ⟨by simp [State.clearCounters], by simp [State.clearCounters]⟩
  | clearCause c => exact ⟨rfl, by cases c <;> rfl⟩
  | setLive => exact ⟨by simp [setLiveAct], by simp [setLiveAct]⟩
  | forceClose i _ =>
    have h := (((State.ChangesSlots.giveUp i s).trans (.mapSlot i (fun t => { t with flags := { t.flags with forced := true } })
      _)).trans (.settle _))
    exact ⟨h.uplink, by rw [h.control]⟩

/-- What one command can do keeps transmitter, port and holder within their bounds. -/
theorem Move.framesBound {s t : State} (h : Move s t) (hs : FramesBound s) : FramesBound t := by
  have taking {l : LinkId} {it : Item} {s' t : State} (hb : s.beginTaking = some (l, it, s')) (h : State.Takes l s' t) :
      FramesBound t := by
    obtain ⟨-, -, -, -, -, hu, -, hc, -⟩ := State.beginTaking_frame hb
    exact hs.of_uplink (by rw [h.uplink, hu]) (by rw [h.control, hc])
  cases h with
  | nothing => exact hs
  | link | timebase | copyEntry | copyDone => exact hs.of_uplink rfl rfl
  | takeOpen l x _ s' hb => exact taking hb (.takeOpen ..)
  | takeBurst l b s' hb => exact taking hb (.takeBurstItem ..)
  | takeClose l c s' hb => exact taking hb (.takeClose ..)
  | takeLoss l s' hb => exact taking hb (.takeLossItem ..)
  | takeDown l reason s' hb => exact taking hb (.takeDownItem ..)
  | expiry i _ _ => exact hs.of_slots ((State.ChangesSlots.giveUp i s).trans (.settle _))
  | epochMarkSent i f _ => exact (hs.of_uplink rfl rfl : FramesBound (s.afterEpochMark i)).recordBoundary
  | headSent i f _ => exact (hs.of_uplink rfl rfl : FramesBound (s.afterHead i)).recordBoundary
  | rowSent i f _ =>
    refine FramesBound.recordBoundary ?_
    obtain ⟨e, -, ⟨-, h⟩ | ⟨-, h⟩⟩ := s.afterRow_cases i f <;> rw [h] <;> exact hs.of_uplink rfl rfl
  | tailSent i f first _ => exact hs.afterTail first i
  | replySent => exact hs.transmitTrain.boundary
  | replySentHandover => exact hs.transmitTrain.handover.boundary
  | trainWordSent _ => exact FramesBound.boundary ⟨hs.1, hs.2.1, hs.2.2⟩
  | handover => exact hs.handover
  | laneAlignment pos _ => exact hs.of_uplink rfl rfl
  | laneWord w => exact hs.of_lane (.laneWord w s)
  | laneCodeError f => exact hs.of_lane ((State.ChangesLane.inRequest f s).trans (.laneCodeError _))
  | laneSignalLoss f => exact hs.of_lane ((State.ChangesLane.inRequest f s).trans (.laneSignalLoss _))
  | requestFrame ws => exact hs.of_lane (.requestWordsArrive ws s)
  | requestCut ws c => exact hs.of_lane ((State.ChangesLane.requestWordsArrive ws s).trans (.laneControl c _))
  | request q rest t a hq hh ha h =>
    obtain ⟨hu, -⟩ := h.uplink_holder
    obtain ⟨hf, hp, -⟩ := hs
    refine ⟨fun f h => hf f (hu ▸ h), fun r h => hp r (hu ▸ h), fun r h => ?_⟩
    obtain rfl := Option.some.inj h
    exact ⟨Nat.succ_pos _, Nat.succ_le_succ ha⟩
  | pinReset => exact FramesBound.reset
  | runRestart _ _ =>
    obtain ⟨-, -, -, -, hu, -, hc, -⟩ := s.restartCore_frame
    exact FramesBound.resumeUplink (hs.of_uplink ((State.mapLinks_uplink ..).trans hu)
      (by rw [State.mapLinks_control, hc]))
  | softReset _ _ =>
    obtain ⟨-, -, -, -, hu, -, hc, -⟩ := s.restartCore_frame
    unfold State.softReset
    dsimp only
    refine FramesBound.resumeUplink (hs.congr ?_ ?_ ?_) <;> simp [hu, hc]

/-- Settles O13: the arbiter alone forms frames, from payloads of their kind's length, and a reply answers with at most 64
words after its status word. -/
theorem framesStayLegal : Obligations.FramesStayLegal := by
  refine keptByStep_of_move (fun s cs hs => ?_) fun s t h hs => ?_
  · rw [framesLegal_iff] at hs ⊢
    exact hs
  · rw [framesLegal_iff] at hs ⊢
    exact h.framesBound hs

/-! ### The reset state -/

@[simp] theorem link_reset (l : LinkId) : State.reset.link l = .reset := by
  simp [State.link, State.reset]

theorem receiverLegal_reset : ReceiverLegal Receiver.reset := .down (.inr (.inl rfl)) (Nat.zero_le _) fun _ h => by cases h

/-- Settles O3: every invariant holds where queues, ring and copies are empty and the free list is full. -/
theorem resetIsLegal : Obligations.ResetIsLegal := by
  have hcells : CellsCounted State.reset := cellsCounted_of_reset rfl rfl
  obtain ⟨hcontrol, hlane⟩ := controlBound_reset
  refine ⟨fun l => ?_, fun l => ?_, SettingsLegal.reset, cellsStandOnce_of_reset rfl rfl,
    ringLegal_of_reset rfl rfl (.inl rfl), slotsLegal_of_free rfl, hcontrol, hlane, (framesLegal_iff _).mpr .reset,
    geometryLegal_of_reset rfl rfl, emissionLegal_of_none rfl, hcells, hcells.2⟩
  · rw [link_reset]
    exact ⟨Nat.zero_le _, fun _ => Nat.zero_le _⟩
  · rw [link_reset]
    exact receiverLegal_reset

end Sys2Proof.Machine

end

section
/-! The cyclic check bit by bit (R58), O23. -/

namespace Sys2Proof.Machine

open Sys2Proof Sys2Proof.Safety

/-- One bit entering the check: it adds the polynomial where it differs from the top bit. -/
def crcStep (c : Word16) (b : Bool) : Word16 := if c.getLsbD 15 = b then c <<< 1 else (c <<< 1) ^^^ 0x1021#16

/-- A bit of the check over `c` with a word added is the step of that word's top bit, with the word moved up. -/
theorem crcBit_xor (c w : Word16) : crcBit (c ^^^ w) = crcStep c (w.getLsbD 15) ^^^ (w <<< 1) := by
  have hs : (c ^^^ w) <<< 1 = (c <<< 1) ^^^ (w <<< 1) := BitVec.shiftLeft_xor_distrib c w 1
  have hx : c <<< 1 ^^^ w <<< 1 ^^^ 0x1021#16 = c <<< 1 ^^^ 0x1021#16 ^^^ w <<< 1 := by
    rw [BitVec.xor_assoc, BitVec.xor_comm (w <<< 1), ← BitVec.xor_assoc]
  unfold crcBit crcStep
  rw [BitVec.getLsbD_xor, hs]
  cases c.getLsbD 15 <;> cases w.getLsbD 15 <;> simp [hx]

/-- The top `n` bits of a word, the top one first. -/
def topBits (n : Nat) (w : Word16) : List Bool := (List.range n).map fun i => w.getLsbD (15 - i)

theorem topBits_succ {n : Nat} (hn : n < 16) (w : Word16) : topBits (n + 1) w = w.getLsbD 15 :: topBits n (w <<< 1) := by
  simp only [topBits, List.range_succ_eq_map, List.map_cons, List.map_map, Nat.sub_zero, List.cons.injEq, true_and]
  refine List.map_congr_left fun i hi => ?_
  have hi : i < n := List.mem_range.mp hi
  have h1 : ¬ 15 - i < 1 := by omega
  have h2 : 15 - i < 16 := by omega
  rw [BitVec.getLsbD_shiftLeft, decide_eq_true h2, decide_eq_false h1, Function.comp_apply, Nat.sub_sub, Nat.succ_eq_add_one]
  rfl

/-- `n` bits of the check over a word are the steps of the word's top `n` bits (R58). -/
theorem crcBits_xor {n : Nat} (hn : n ≤ 16) (c w : Word16) :
    crcBits n (c ^^^ w) = (topBits n w).foldl crcStep c ^^^ (w <<< n) := by
  induction n generalizing c w with
  | zero => simp [crcBits, topBits]
  | succ n ih =>
    rw [crcBits, crcBit_xor, ih (by omega), topBits_succ (by omega), List.foldl_cons, Nat.add_comm, BitVec.shiftLeft_add]

/-- A word enters the check bit by bit, bit 15 first (R58). -/
theorem crcWord_eq (c w : Word16) : crcWord c w = (topBits 16 w).foldl crcStep c := by
  rw [crcWord, crcBits_xor (Nat.le_refl 16), BitVec.shiftLeft_eq_zero (Nat.le_refl 16), BitVec.xor_zero]

/-- The check loses nothing in a bit: the polynomial has its lowest bit. -/
theorem crcBit_eq_zero {c : Word16} : crcBit c = 0#16 ↔ c = 0#16 := by
  refine ⟨fun h => ?_, fun h => by subst h; decide⟩
  unfold crcBit at h
  split at h
  · next htop =>
    have := congrArg (BitVec.getLsbD · 0) h
    simp at this
  · next htop =>
    refine BitVec.eq_of_getLsbD_eq fun i hi => ?_
    by_cases h15 : i = 15
    · subst h15
      simpa using htop
    · have := congrArg (BitVec.getLsbD · (i + 1)) h
      have hlt : i + 1 < 16 := by omega
      simpa [BitVec.getLsbD_shiftLeft, hlt, BitVec.getLsbD_eq_getElem hi] using this

theorem crcBits_eq_zero (n : Nat) {c : Word16} : crcBits n c = 0#16 ↔ c = 0#16 := by
  induction n generalizing c with
  | zero => rfl
  | succ n ih => rw [crcBits, ih, crcBit_eq_zero]

theorem crc_append_singleton (ws : List Word16) (w : Word16) : crc (ws ++ [w]) = crcWord (crc ws) w := by
  simp [crc]

/-- Settles O23: the check over a word is its steps bit by bit, and no bit loses anything, so that only the check itself brings
it to 0. -/
theorem checkWordClosesTheCheck : Obligations.CheckWordClosesTheCheck := by
  refine ⟨rfl, fun ws w => ?_, fun ws k => ?_⟩
  · rw [crc_append_singleton, crcWord_eq]
    rfl
  · rw [crc_append_singleton, crcWord, crcBits_eq_zero, BitVec.xor_eq_zero_iff]
    exact eq_comm

end Sys2Proof.Machine

end

section
/-! The intake arbiter's turn, and what every taking leaves, O24. -/

namespace Sys2Proof.Machine

open Sys2Proof Sys2Proof.Safety

/-! ### The arbiter's choice (R13, R14) -/

/-- A search over all indices finds the lowest that qualifies. -/
theorem find?_finRange_eq_some {n : Nat} {p : Fin n → Bool} {i : Fin n} :
    (List.finRange n).find? p = some i ↔ p i = true ∧ ∀ j, j < i → p j = false := by
  rw [← Fin.find?_eq_find?_finRange, Fin.find?_eq_some_iff]

/-- The arbiter selects the takeable link nearest after its pointer (R13). -/
theorem State.selected_eq_some {s : State} (hs : s.emitter.stopping = none) (l : LinkId) :
    s.selected = some l ↔ s.takeable l = true ∧
      ∀ l', s.takeable l' = true → (l - (s.ring.arbiter + 1)).val ≤ (l' - (s.ring.arbiter + 1)).val := by
  generalize ha : s.ring.arbiter + 1 = a
  have hfind : s.selected = some l ↔ (List.finRange 24).find? (s.takeable ∘ (a + ·)) = some (l - a) := by
    simp only [State.selected, hs, if_true, arbiterOrder, List.find?_map, ha, Option.map_eq_some_iff]
    constructor
    · rintro ⟨k, hk, rfl⟩
      simpa using hk
    · exact fun h => ⟨l - a, h, by simp⟩
  rw [hfind, find?_finRange_eq_some]
  simp only [Function.comp_apply, add_sub_cancel]
  refine and_congr_right fun _ => ⟨fun h l' hl' => ?_, fun h k hk => ?_⟩
  · by_contra hlt
    have := h (l' - a) (Fin.lt_def.mpr (by omega))
    simp [hl'] at this
  · by_contra hk'
    have := h (a + k) (by simpa using hk')
    simp only [add_sub_cancel_left] at this
    exact absurd (Fin.lt_def.mp hk) (by omega)

/-- A link is takeable unless its queue is empty or its head is an HB_OPEN beyond the ring (R13, R14). -/
theorem State.takeable_iff (s : State) (l : LinkId) :
    s.takeable l = true ↔
      ∃ it rest, (s.link l).queue.items = it :: rest ∧ ∀ x resync, it = .hbOpen x resync → s.place x ≠ .beyond := by
  unfold State.takeable State.headBlocked
  cases h : (s.link l).queue.items with
  | nil => simp
  | cons it rest =>
    cases it with
    | hbOpen x resync =>
      simp only [List.isEmpty_cons, Bool.not_false, Bool.true_and, List.head?_cons, Option.any_some, State.blocked,
        Bool.not_eq_true', decide_eq_false_iff_not]
      refine ⟨fun hx => ⟨_, rest, rfl, fun y r e => ?_⟩, fun ⟨it', rest', e, hx⟩ => ?_⟩
      · obtain ⟨rfl, -⟩ := Item.hbOpen.inj e
        exact hx
      · exact hx x resync (List.cons.inj e).1.symm
    | hbClose | burst | loss | linkDown => simp [State.blocked]

/-! ### The taking of an item, whatever its kind -/

/-- The effect of taking the item `it` of link `l`, which has left its queue. -/
def State.takeItem (l : LinkId) (it : Item) (s : State) : State :=
  match it with
  | .hbOpen x _ => s.takeOpen l x
  | .burst b => s.takeBurstItem l b
  | .hbClose c => s.takeClose l c
  | .loss => s.takeLossItem l
  | .linkDown reason => s.takeDownItem l reason

/-- The command of the item's kind takes it. -/
theorem exec_takeOf {s s' : State} {l : LinkId} {it : Item} (h : s.beginTaking = some (l, it, s')) :
    exec (takeOf it) s = .next (s'.takeItem l it) := by
  cases it <;> simp only [takeOf, exec, execTakeHbOpen, execTakeBurst, execTakeHbClose, execTakeLoss, execTakeLinkDown, h] <;>
    rfl

/-- A command of another kind takes nothing (log entry 2). -/
theorem exec_takeOf_skips {s : State} {it : Item}
    (h : ∀ l it' s', s.beginTaking = some (l, it', s') → takeOf it ≠ takeOf it') : exec (takeOf it) s = .next s := by
  cases it <;>
    · simp only [takeOf, exec, execTakeHbOpen, execTakeBurst, execTakeHbClose, execTakeLoss, execTakeLinkDown]
      split
      · next hb => exact (h _ _ _ hb rfl).elim
      · rfl

theorem State.Takes.takeItem (l : LinkId) (it : Item) (s : State) : State.Takes l s (s.takeItem l it) := by
  cases it with
  | hbOpen x resync => exact .takeOpen l x s
  | burst b => exact .takeBurstItem l b s
  | hbClose c => exact .takeClose l c s
  | loss => exact .takeLossItem l s
  | linkDown reason => exact .takeDownItem l reason s

/-- A taking of no HB_OPEN writes slots that are not FREE, and settles, unless it writes nothing but counts. -/
theorem State.takeItem_writes {it : Item} (h : it.isHbOpen = false) (l : LinkId) (s : State) :
    s.Writes (s.takeItem l it) ∨ ∃ v, s.Writes v ∧ s.takeItem l it = v.settle := by
  cases it with
  | hbOpen x resync => cases h
  | burst b => exact .inl (.takeBurstItem l b s)
  | hbClose c =>
    simp only [State.takeItem, State.takeClose_eq]
    split
    · exact .inl (.countLate l s)
    · next x _ => exact .inr ⟨_, .closedFor l x c s, rfl⟩
  | loss =>
    simp only [State.takeItem, State.takeLossItem_eq]
    split
    · exact .inl (.refl s)
    · next x _ => exact .inr ⟨_, .lostFor l x s, rfl⟩
  | linkDown reason => exact .inr ⟨_, .downFor l reason s, s.takeDownItem_eq l reason⟩

/-- Only an HB_OPEN moves cursor and newest heartbeat (R6, R7). -/
theorem State.takeItem_cursor {it : Item} (h : it.isHbOpen = false) (l : LinkId) (s : State) :
    (s.takeItem l it).ring.cursor = s.ring.cursor ∧ (s.takeItem l it).ring.newest = s.ring.newest := by
  obtain hw | ⟨v, hw, e⟩ := s.takeItem_writes h l
  · exact ⟨hw.cursor, hw.newest⟩
  · obtain ⟨-, -, -, -, -, -, -, -, hc, -, hn, -⟩ := v.settle_frame
    rw [e, hc, hn]
    exact ⟨hw.cursor, hw.newest⟩

/-! ### What a taking other than of a burst leaves of the slots -/

/-- From `s` to `t` the free list stays, and of a slot that is not FREE only state, deadline and link records change. -/
structure State.KeepsPulses (s t : State) : Prop where
  freeCells : t.freeCells = s.freeCells
  slots : ∀ i, (s.slot i).state ≠ .free → (t.slot i).state ≠ .free ∧
    t.slot i = { s.slot i with
      state := (t.slot i).state, deadline := (t.slot i).deadline, links := (t.slot i).links }

namespace State.KeepsPulses

variable {s t u : State}

theorem trans (h : s.KeepsPulses t) (h' : t.KeepsPulses u) : s.KeepsPulses u := by
  refine ⟨h'.freeCells.trans h.freeCells, fun i hi => ?_⟩
  obtain ⟨h1, e⟩ := h.slots i hi
  obtain ⟨h1', e'⟩ := h'.slots i h1
  exact ⟨h1', by rw [e', e]⟩

theorem of_judges (h : s.Judges t) : s.KeepsPulses t := by
  refine ⟨h.freeCells, fun i hi => ⟨by rwa [h.state], ?_⟩⟩
  rw [h.slots i]

theorem settle (s : State) : s.KeepsPulses s.settle := by
  obtain ⟨-, hf, -⟩ := s.settle_frame
  refine ⟨hf, fun i hi => ⟨fun hfree => hi ((settle_free s i).mp hfree), ?_⟩⟩
  obtain ⟨st, d, e⟩ := s.slot_settle i
  rw [e]

/-- Fill-opening writes FREE slots alone (R12). -/
theorem fillOpen (t : Fin 8) (starts : Bool) (s : State) : s.KeepsPulses (s.fillOpen t starts) := by
  refine ⟨s.fillOpen_freeCells t starts, fun i hi => ?_⟩
  obtain ⟨k, rfl⟩ := s.slotAt_surjective i
  rw [State.slot_fillOpen, if_neg (by simp [hi])]
  exact ⟨hi, rfl⟩

end State.KeepsPulses

theorem State.closedFor_judges (l : LinkId) (x : Heartbeat) (c : Close) (s : State) : s.Judges (s.closedFor l x c) := by
  have h := ((State.Judges.setIntake l { s.intake l with openHeartbeat := none } s).trans
    (.closeOwn l x c (s.ownPart l x) _)).trans (.closeMargin l (s.marginPart l x) _)
  unfold State.closedFor
  dsimp only
  split
  · exact h.trans (.countLate ..)
  · exact h

theorem State.lostFor_judges (l : LinkId) (x : Heartbeat) (s : State) : s.Judges (s.lostFor l x) := by
  unfold State.lostFor
  dsimp only
  refine State.Judges.trans ?_ (.setIntake ..)
  split <;> split
  · exact (State.Judges.mapRecord ..).trans (.mapRecord ..)
  · exact .mapRecord ..
  · exact .mapRecord ..
  · exact .refl s

theorem State.downFor_judges (l : LinkId) (reason : DownReason) (s : State) : s.Judges (s.downFor l reason) :=
  (State.Judges.foldl (State.Judges.downAt l reason) _ s).trans (.setIntake ..)

/-- Only a burst touches the free list, and more of a slot than its link records (R16 to R24). -/
theorem State.KeepsPulses.takeItem {it : Item} (h : it.isBurst = false) (l : LinkId) (s : State) :
    s.KeepsPulses (s.takeItem l it) := by
  have settles {v : State} (hv : s.Judges v) : s.KeepsPulses v.settle := (of_judges hv).trans (settle v)
  cases it with
  | hbOpen x resync =>
    have hc : s.Judges (s.setCursor x) := .setCursor x s
    simp only [State.takeItem, State.takeOpen_eq]
    split
    · exact of_judges (hc.trans ((State.Judges.setIntake l ⟨some x, some x⟩ _).trans (.countLate l _)))
    · exact of_judges hc
    · next j _ => exact (((of_judges hc).trans (fillOpen ..)).trans (of_judges (State.openedFor_judges l x j _))).trans (settle _)
  | burst b => cases h
  | hbClose c =>
    simp only [State.takeItem, State.takeClose_eq]
    split
    · exact of_judges (.countLate l s)
    · next x _ => exact settles (s.closedFor_judges l x c)
  | loss =>
    simp only [State.takeItem, State.takeLossItem_eq]
    split
    · exact of_judges (.refl s)
    · next x _ => exact settles (s.lostFor_judges l x)
  | linkDown reason =>
    simp only [State.takeItem, State.takeDownItem_eq]
    exact settles (s.downFor_judges l reason)

/-- Settles O24: the arbiter's search finds the nearest takeable link, and what each taking does beyond its own link stays
within the slots. -/
theorem arbiterServesInTurn : Obligations.ArbiterServesInTurn := by
  refine ⟨fun s => ⟨fun hs => by simp [State.selected, hs], fun hs l => State.selected_eq_some hs l, s.takeable_iff⟩,
    fun s => ⟨fun l it rest hsel hq => ?_, fun hnone it => ?_⟩⟩
  · have hb := State.beginTaking_eq_some.mpr ⟨hsel, rest, hq, rfl⟩
    refine ⟨⟨_, exec_takeOf hb, ?_⟩, fun it' hne => exec_takeOf_skips fun l₁ it₁ s₁ h => ?_⟩
    · obtain ⟨-, hothers, rest', hq', hlink⟩ := State.beginTaking_link hb
      obtain rfl : rest' = rest := by rw [hq] at hq'; exact (List.cons.inj hq').2.symm
      obtain ⟨hr, hf, hp, hset, he, hu, hl, hc, hd, -⟩ := State.beginTaking_frame hb
      generalize hs' : ({ s.mapLink l _ with ring := _ } : State) = s' at *
      have ht := State.Takes.takeItem l it s'
      obtain ⟨hrx, hdelta, hqueue⟩ := ht.received
      have hslot : ∀ i, s'.slot i = s.slot i := fun i => by simp only [State.slot, hr]
      refine ⟨by rw [ht.arbiter, hr], by rw [hqueue, hlink], by rw [hrx, hlink], by rw [hdelta, hlink],
        fun l' hl' => (ht.others l' hl').trans (hothers l' hl'), ht.padTable.trans hp, ht.settings.trans hset, ht.uplink.trans hu,
        ht.lane.trans hl, ht.freeDraws.trans hd, by rw [ht.control, hc], by rw [ht.stopping, he], by rw [ht.lastEpoch, he],
        by rw [ht.cursorSlot, hr], fun l' hl' => (ht.intake l' hl').trans (by simp only [State.intake, hr]), fun h => ?_,
        fun h => ?_⟩
      · obtain ⟨h1, h2⟩ := State.takeItem_cursor h l s'
        exact ⟨by rw [h1, hr], by rw [h2, hr]⟩
      · have hk := State.KeepsPulses.takeItem h l s'
        refine ⟨hk.freeCells.trans hf, fun i hi => ?_⟩
        obtain ⟨-, e⟩ := hk.slots i (by rwa [hslot])
        rw [e, hslot]
        exact ⟨rfl, rfl, rfl, rfl, rfl, rfl, rfl⟩
    · rw [hb] at h
      obtain ⟨-, rfl, -⟩ : l = l₁ ∧ it = it₁ ∧ _ = s₁ := by simpa using h
      exact hne
  · refine exec_takeOf_skips fun l it' s' h => ?_
    obtain ⟨hsel, -⟩ := State.beginTaking_eq_some.1 h
    simp [hnone] at hsel

end Sys2Proof.Machine

end

section
/-! The parts of an item: in which slot each applies, and what the two write; the heartbeats that a link skipped; O30 and O31. -/

namespace Sys2Proof.Machine

open Sys2Proof Sys2Proof.Safety

/-! ### In which slot a part applies (R20, R22, R23, R29) -/

theorem State.waitsFor_iff (s : State) (l : LinkId) (i : SlotId) :
    s.waitsFor l i = true ↔ (s.slot i).state = .filling ∧ (s.record i l).verdict = .pending := by
  simp [State.waitsFor]

theorem State.awaitsMargin_iff (s : State) (l : LinkId) (i : SlotId) :
    s.awaitsMargin l i = true ↔ (s.slot i).state = .filling ∧ (s.record i l).margin = .awaited := by
  simp [State.awaitsMargin]

theorem State.ownSlot_eq_some {s : State} {x : Heartbeat} {i : SlotId} :
    s.ownSlot x = some i ↔ ∃ j : Fin 8, s.place x = .within j ∧ i = s.slotAt j := by
  unfold State.ownSlot
  cases h : s.place x with
  | behind | beyond => simp
  | within j => simp [eq_comm]

theorem State.marginSlot_eq_some {s : State} {x : Heartbeat} {i : SlotId} :
    s.marginSlot x = some i ↔
      ∃ j : Fin 8, 0 < j.val ∧ s.place x = .within j ∧ s.sliceFirst j.val = x ∧ i = s.slotAt (j - 1) := by
  unfold State.marginSlot
  cases h : s.place x with
  | behind | beyond => simp
  | within j =>
    simp only [Option.ite_none_right_eq_some, Option.some.injEq, Place.within.injEq]
    constructor
    · rintro ⟨⟨h0, hx⟩, rfl⟩
      exact ⟨j, h0, rfl, hx, rfl⟩
    · rintro ⟨k, h0, rfl, hx, rfl⟩
      exact ⟨⟨h0, hx⟩, rfl⟩

theorem State.ownPart_eq_some {s : State} {l : LinkId} {x : Heartbeat} {i : SlotId} :
    s.ownPart l x = some i ↔
      ∃ j : Fin 8, s.place x = .within j ∧ i = s.slotAt j ∧ (s.slot i).state = .filling ∧ (s.record i l).verdict = .pending := by
  rw [State.ownPart, Option.filter_eq_some_iff, State.ownSlot_eq_some, State.waitsFor_iff]
  constructor
  · rintro ⟨⟨j, hj, hi⟩, hw⟩
    exact ⟨j, hj, hi, hw⟩
  · rintro ⟨j, hj, hi, hw⟩
    exact ⟨⟨j, hj, hi⟩, hw⟩

theorem State.marginPart_eq_some {s : State} {l : LinkId} {x : Heartbeat} {i : SlotId} :
    s.marginPart l x = some i ↔
      ∃ j : Fin 8, 0 < j.val ∧ s.place x = .within j ∧ s.sliceFirst j.val = x ∧ i = s.slotAt (j - 1) ∧
        (s.slot i).state = .filling ∧ (s.record i l).margin = .awaited := by
  rw [State.marginPart, Option.filter_eq_some_iff, State.marginSlot_eq_some, State.awaitsMargin_iff]
  constructor
  · rintro ⟨⟨j, h0, hj, hx, hi⟩, hw⟩
    exact ⟨j, h0, hj, hx, hi, hw⟩
  · rintro ⟨j, h0, hj, hx, hi, hw⟩
    exact ⟨⟨j, h0, hj, hx, hi⟩, hw⟩

/-- The two parts of an item stand in two slots: the margin part in the one before the own part's. -/
theorem State.marginSlot_ne_ownSlot {s : State} {x : Heartbeat} {i i' : SlotId} (h : s.ownSlot x = some i)
    (h' : s.marginSlot x = some i') : i' ≠ i := by
  obtain ⟨j, hj, rfl⟩ := State.ownSlot_eq_some.mp h
  obtain ⟨k, h0, hk, -, rfl⟩ := State.marginSlot_eq_some.mp h'
  obtain rfl : j = k := Place.within.inj (hj.symm.trans hk)
  intro e
  have := congrArg Fin.val (s.slotAt_injective e)
  rw [Fin.val_sub_one_of_ne_zero (fun e => by simp [e] at h0)] at this
  omega

theorem State.marginPart_ne_ownPart {s : State} {l : LinkId} {x : Heartbeat} {i i' : SlotId} (h : s.ownPart l x = some i)
    (h' : s.marginPart l x = some i') : i' ≠ i :=
  State.marginSlot_ne_ownSlot (Option.filter_eq_some_iff.mp h).1 (Option.filter_eq_some_iff.mp h').1

/-- The parts in a state with the same mapping and, of the link, the same records. -/
theorem State.ownPart_congr {s t : State} (hm : SameMapping s t) {l : LinkId}
    (h : ∀ i, (t.slot i).state = (s.slot i).state ∧ t.record i l = s.record i l) (x : Heartbeat) :
    t.ownPart l x = s.ownPart l x := by
  have hw : t.waitsFor l = s.waitsFor l := by
    funext i
    obtain ⟨h1, h2⟩ := h i
    simp only [State.waitsFor, h1, h2]
  simp only [State.ownPart, State.ownSlot, hm.place, hm.slotAt, hw]

theorem State.marginSlot_congr {s t : State} (hm : SameMapping s t) (x : Heartbeat) : t.marginSlot x = s.marginSlot x := by
  simp only [State.marginSlot, hm.place, hm.slotAt, hm.sliceFirst]

theorem State.marginPart_congr {s t : State} (hm : SameMapping s t) {l : LinkId} {x : Heartbeat}
    (h : ∀ i, s.marginSlot x = some i → (t.slot i).state = (s.slot i).state ∧ t.record i l = s.record i l) :
    t.marginPart l x = s.marginPart l x := by
  rw [State.marginPart, State.marginPart, State.marginSlot_congr hm]
  cases hi : s.marginSlot x with
  | none => rfl
  | some i =>
    obtain ⟨h1, h2⟩ := h i hi
    have hw : t.awaitsMargin l i = s.awaitsMargin l i := by simp only [State.awaitsMargin, h1, h2]
    rw [Option.filter_some, Option.filter_some, hw]

/-! ### What the two parts of an item write -/

/-- Write the record of link `l` in the slot `o`, if there is one. -/
def State.mapPart (l : LinkId) (o : Option SlotId) (f : LinkRecord → LinkRecord) (s : State) : State :=
  match o with
  | some i => s.mapRecord i l f
  | none => s

theorem State.record_mapPart (l : LinkId) (o : Option SlotId) (f : LinkRecord → LinkRecord) (s : State) (i : SlotId)
    (l' : LinkId) :
    (s.mapPart l o f).record i l' = if o = some i ∧ l' = l then f (s.record i l) else s.record i l' := by
  cases o with
  | none => simp [State.mapPart]
  | some k =>
    show (s.mapRecord k l f).record i l' = _
    split_ifs with h
    · obtain ⟨hk, rfl⟩ := h
      obtain rfl := Option.some.inj hk
      exact State.record_mapRecord ..
    · refine State.record_mapRecord_ne ?_ f s
      by_cases hi : i = k
      · exact .inr fun hl => h ⟨by rw [hi], hl⟩
      · exact .inl hi

/-- The records after an own part `f` and a margin part `g` of a link's item. -/
structure PartsWritten (l : LinkId) (own margin : Option SlotId) (f g : LinkRecord → LinkRecord) (s t : State) : Prop where
  atOwn : ∀ i, own = some i → t.record i l = f (s.record i l)
  atMargin : ∀ i, margin = some i → t.record i l = g (s.record i l)
  others : ∀ i l', l' ≠ l ∨ own ≠ some i ∧ margin ≠ some i → t.record i l' = s.record i l'

theorem State.partsWritten {l : LinkId} {own margin : Option SlotId} (hne : ∀ i i', own = some i → margin = some i' → i' ≠ i)
    (f g : LinkRecord → LinkRecord) (s : State) :
    PartsWritten l own margin f g s ((s.mapPart l own f).mapPart l margin g) where
  atOwn i hi := by
    rw [State.record_mapPart, if_neg fun h => hne i i hi h.1 rfl, State.record_mapPart, if_pos ⟨hi, rfl⟩]
  atMargin i hi := by
    rw [State.record_mapPart, if_pos ⟨hi, rfl⟩, State.record_mapPart, if_neg fun h => hne i i h.1 hi rfl]
  others i l' h := by
    have hown : ¬ (own = some i ∧ l' = l) := fun ⟨ho, hl⟩ => h.elim (fun h => h hl) fun h => h.1 ho
    have hmargin : ¬ (margin = some i ∧ l' = l) := fun ⟨hm, hl⟩ => h.elim (fun h => h hl) fun h => h.2 hm
    rw [State.record_mapPart, if_neg hmargin, State.record_mapPart, if_neg hown]

/-! ### Skipped heartbeats (R17) -/

/-- The record of a link that misses its slice by an event: an AWAITED margin becomes ABSENT with it (R26, R27). -/
theorem LinkRecord.miss_eq (mark : LinkFlags → LinkFlags) (hmark : ∀ f, (mark f).marginAbsent = f.marginAbsent) (r : LinkRecord) :
    r.miss mark =
      { r with
        verdict := .missing
        margin := if r.margin = .awaited then .absent else r.margin
        flags := { mark r.flags with marginAbsent := r.flags.marginAbsent || decide (r.margin = .awaited) } } := by
  unfold LinkRecord.miss
  split
  · next h => simp [h]
  · next h => simp [h, ← hmark r.flags]

/-- A skipped heartbeat writes the two parts of an item that did not come (R17). -/
theorem State.skipHeartbeat_eq (l : LinkId) (y : Heartbeat) (s : State) :
    s.skipHeartbeat l y =
      (s.mapPart l (s.ownPart l y) (LinkRecord.miss fun f => { f with gap := true })).mapPart l (s.marginPart l y)
        LinkRecord.marginAbsent := by
  have e : s.skipHeartbeat l y =
      let v := s.mapPart l (s.ownPart l y) (LinkRecord.miss fun f => { f with gap := true })
      v.mapPart l (v.marginPart l y) LinkRecord.marginAbsent := rfl
  rw [e]
  dsimp only
  congr 1
  cases ho : s.ownPart l y with
  | none => rfl
  | some i =>
    refine State.marginPart_congr (.of_eq (by rfl) (by rfl) (by rfl)) fun i' hi' => ?_
    have hne : i' ≠ i := State.marginSlot_ne_ownSlot (Option.filter_eq_some_iff.mp ho).1 hi'
    exact ⟨by rw [State.mapPart, State.mapRecord, State.slot_mapSlot_ne hne], State.record_mapRecord_ne (.inl hne) _ _⟩

theorem length_skipped (p x : Heartbeat) :
    (skipped p x).length = if 2 ≤ (x - p).toNat ∧ (x - p).toNat ≤ 32767 then (x - p).toNat - 1 else 0 := by
  unfold skipped
  dsimp only [Config.halfTurn]
  split
  · rw [List.length_map, List.length_range]
    split <;> omega
  · rw [if_neg (by omega), List.length_nil]

theorem getElem?_skipped {p x y : Heartbeat} {i : Nat} (h : (skipped p x)[i]? = some y) : y = p + 1 + BitVec.ofNat 16 i := by
  unfold skipped at h
  dsimp only at h
  split at h
  · simp only [List.getElem?_map, Option.map_eq_some_iff] at h
    obtain ⟨k, hk, rfl⟩ := h
    obtain ⟨-, rfl⟩ := List.getElem?_eq_some_iff.mp hk
    simp
  · simp at h

/-- Settles O31: a skipped heartbeat writes as an item's own part and margin part would. -/
theorem skippedHeartbeats : Obligations.SkippedHeartbeats := by
  refine ⟨fun p x => ⟨length_skipped p x, fun i y => getElem?_skipped⟩, fun s l y => ?_⟩
  have hp := State.partsWritten (l := l) (own := s.ownPart l y) (margin := s.marginPart l y)
    (fun i i' => State.marginPart_ne_ownPart) (LinkRecord.miss fun f => { f with gap := true }) LinkRecord.marginAbsent s
  rw [← State.skipHeartbeat_eq] at hp
  exact ⟨fun i hi => (hp.atOwn i hi).trans (LinkRecord.miss_eq (fun f => { f with gap := true }) (fun _ => rfl) _), hp.atMargin, hp.others⟩

/-! ### Epochs, settings copies and banks (R104, R134, R142) -/

/-- With a commit pending, a slice of the ring is served by the old epoch exactly while it begins before the switch heartbeat. -/
theorem State.epochAt_eq_ite_sliceFirst {s : State} {c : PendingCommit} {fc : Heartbeat} (hc : s.settings.commit = some c)
    (hfc : s.ring.cursor = some fc) (hd : (c.switchHeartbeat - fc).toNat % 2 ^ c.oldSpan = 0)
    (hlt : (c.switchHeartbeat - fc).toNat < 32768) (hspan : s.settings.active.span ≤ 4) (j : Fin 8) :
    s.epochAt j.val =
      if (s.sliceFirst j.val - fc).toNat < (c.switchHeartbeat - fc).toNat then c.oldEpoch else s.settings.epoch := by
  have hslices : c.oldSlices fc * 2 ^ c.oldSpan = (c.switchHeartbeat - fc).toNat :=
    Nat.div_mul_cancel (Nat.dvd_of_mod_eq_zero hd)
  have hiff : (s.sliceFirst j.val - fc).toNat < (c.switchHeartbeat - fc).toNat ↔ j.val < c.oldSlices fc := by
    rw [State.sliceFirst_of_cursor hfc]
    by_cases hj : j.val < c.oldSlices fc
    · have hmul : j.val * 2 ^ c.oldSpan < c.oldSlices fc * 2 ^ c.oldSpan := Nat.mul_lt_mul_of_pos_right hj (Nat.two_pow_pos _)
      rw [SettingsUnit.sliceAt_of_old hc hj, add_sub_cancel_left, BitVec.toNat_ofNat]
      exact ⟨fun _ => hj, fun _ => (Nat.mod_le _ _).trans_lt (hslices ▸ hmul)⟩
    · refine ⟨fun h => absurd h ?_, fun h => absurd h hj⟩
      have hp : (j.val - c.oldSlices fc) * 2 ^ s.settings.active.span ≤ 7 * 16 :=
        Nat.mul_le_mul (by omega) (Nat.pow_le_pow_right (by decide) hspan)
      rw [SettingsUnit.sliceAt_of_new hc (by omega), add_sub_right_comm, toNat_heartbeat_add_ofNat]
      omega
  simp only [State.epochAt, hc, hfc, hiff]

/-- Settles O30: each part asks where the heartbeat maps and whether that slot waits for it, and without a pending commit there is
one epoch alone. -/
theorem partsAndEpochs : Obligations.PartsAndEpochs := by
  refine ⟨fun s l x i => ⟨State.ownPart_eq_some, State.marginPart_eq_some⟩, fun s j e hc => ?_, fun s c fc hc hfc => ?_, rfl, rfl,
    fun t => ⟨rfl, rfl⟩⟩
  · simp [State.epochAt, SettingsUnit.settingsOf, State.bankOf, hc]
  · refine ⟨fun j => by simp only [State.epochAt, hc, hfc]; rfl,
      fun hd hlt hspan j => State.epochAt_eq_ite_sliceFirst hc hfc hd hlt hspan j, by simp [SettingsUnit.settingsOf, hc],
      by simp [State.bankOf, hc], fun e he => ⟨by simp [SettingsUnit.settingsOf, hc, he], by simp [State.bankOf, hc, he]⟩⟩

end Sys2Proof.Machine

end

section
/-! How events at the slots end: `SlotsSettle` from the settling, with the losses that it counts; the takings of HB_CLOSE, LOSS and
LINK_DOWN, O35 and O36. -/

namespace Sys2Proof.Machine

open Sys2Proof Sys2Proof.Safety

/-! ### The settling (R28, R114) -/

/-- A slot in which no link is PENDING any more is done with. -/
theorem Slot.examined_eq_ite (t : Slot) :
    t.examined.state = (if t.state = .complete ∨ t.state = .filling ∧ ∀ l : LinkId, t.links[l].verdict ≠ .pending then .complete
        else t.state) ∧
      t.examined.deadline =
        if t.state = .filling ∧ ∀ l : LinkId, t.links[l].verdict ≠ .pending then none else t.deadline := by
  simp only [← Slot.hasPending_eq_false]
  unfold Slot.examined
  by_cases h : t.state = .filling ∧ t.hasPending = false
  · simp [h]
  · simp only [h, or_false, if_false, and_true]
    split
    · next h' => exact h'
    · rfl

/-- Settling brings the slots that an event has written to their ends, and the emitter to the cursor slot, as `SlotsSettle` says. -/
theorem slotsSettle_settle {s v : State} (hslot : ∀ i, (v.slot i).state = (s.slot i).state ∧
      (v.slot i).deadline = (s.slot i).deadline ∧ (v.slot i).epoch = (s.slot i).epoch)
    (hcursor : v.ring.cursor = s.ring.cursor) (hcs : v.ring.cursorSlot = s.ring.cursorSlot)
    (hemit : v.emitter = { s.emitter with lastEpoch := v.emitter.lastEpoch })
    (hpaused : v.uplink.paused = s.uplink.paused) : SlotsSettle s v.settle := by
  have hstate : ∀ i, (v.slot i).state = (s.slot i).state := fun i => (hslot i).1
  have hidle : v.emitter.state = s.emitter.state := by rw [hemit]
  have hstop : v.emitter.stopping = s.emitter.stopping := by rw [hemit]
  have hexam (i : SlotId) := (v.slot i).examined_eq_ite
  simp only [(hslot _).1, (hslot _).2.1] at hexam
  have hrec (i : SlotId) (l : LinkId) : (v.slot i).links[l] = v.settle.record i l := (v.record_settle i l).symm
  simp only [hrec] at hexam
  have htakes : v.takesNext ↔ s.emitter.state = .idle ∧ s.emitter.stopping = none ∧ s.ring.cursor ≠ none ∧
      (v.slot s.ring.cursorSlot).examined.state = .complete := by
    rw [State.takesNext, hidle, hstop, hcursor, hcs]
  by_cases h : v.takesNext
  · obtain ⟨hsl, he⟩ := State.settle_of_takes h
    obtain ⟨h1, h2, h3, h4⟩ := htakes.mp h
    rw [hcs] at hsl he
    have hset : v.settle.settings = v.settings := by simp
    refine ⟨fun i => ?_, fun i => ?_, fun _ _ => ?_, fun hstay => ?_⟩
    · intro done
      rw [hsl i]
      by_cases hi : i = s.ring.cursorSlot
      · subst hi
        have hdone : done := by
          by_contra hn
          rw [(hexam _).1, if_neg hn] at h4
          exact hn (.inl h4)
        rw [if_pos rfl, if_pos hdone, if_pos ⟨rfl, h3, h1, h2⟩]
      · rw [if_neg hi, (hexam i).1]
        simp only [hi, false_and, if_false]
        rfl
    · rw [← (hexam i).2, hsl i]
      split <;> rfl
    · rw [he, hset]
      simp only [State.emitterAt, hpaused, hcs, (hslot _).2.2]
      rw [hemit]
      cases (v.settings.settingsOf (s.slot s.ring.cursorSlot).epoch).order <;> rfl
    · have hemitting : (v.settle.slot s.ring.cursorSlot).state = .emitting := by rw [hsl, if_pos rfl]
      obtain hs | hs := hstay
      · rw [(Slot.examined_state_emitting _).mpr (by rw [hstate, hs])] at h4
        cases h4
      · exact absurd hemitting hs
  · obtain ⟨hsl, he⟩ := State.settle_of_not_takes h
    refine ⟨fun i => ?_, fun i => ?_, fun hs ht => ?_, fun _ => by rw [he, hemit]⟩
    · intro done
      rw [hsl i, (hexam i).1]
      split
      · next hd =>
        rw [if_neg]
        rintro ⟨rfl, h1, h2, h3⟩
        exact h (htakes.mpr ⟨h2, h3, h1, by rw [(hexam _).1, if_pos hd]⟩)
      · rfl
    · rw [← (hexam i).2, hsl i]
    · rw [hsl, Slot.examined_state_emitting, hstate] at ht
      exact absurd ht hs

/-- Slots without INCOMPLETE complete without a loss (R42, R43). -/
theorem State.settle_control {v : State} (h : ∀ i, (v.slot i).state = .filling → (v.slot i).flags.incomplete = false) :
    v.settle.control = v.control := by
  have hex : v.examineAll.control = v.control ∧
      ∀ i, (v.examineAll.slot i).state = .filling → (v.examineAll.slot i).flags.incomplete = false := by
    refine State.examineAll_induction (P := fun t => t.control = v.control ∧
      ∀ i, (t.slot i).state = .filling → (t.slot i).flags.incomplete = false) (fun t k ht => ?_) ⟨rfl, h⟩
    obtain ⟨hc, ht⟩ := ht
    obtain ⟨hf, -, e⟩ | ⟨-, e⟩ := t.examine_cases k
    · rw [e]
      refine ⟨?_, fun i hi => ?_⟩
      · rw [← hc]
        simp [State.completeSlot, ht k hf]
      · by_cases hik : i = k
        · subst hik
          rw [State.slot_completeSlot] at hi
          cases hi
        · rw [State.slot_completeSlot_ne hik] at hi ⊢
          exact ht i hi
    · rw [e]
      exact ⟨hc, ht⟩
  obtain ⟨-, -, -, -, -, -, hctl, -⟩ := v.examineAll.emitterTakes_frame
  rw [State.settle, hctl, hex.1]

/-! ### The takings of HB_CLOSE, LOSS and LINK_DOWN (R22 to R24, R38) -/

/-- What the start of a taking leaves to read: slots, mapping, records and parts (R13). -/
structure State.Begins (s s' : State) : Prop where
  slot : ∀ i, s'.slot i = s.slot i
  mapping : SameMapping s s'
  intake : ∀ l, s'.intake l = s.intake l
  counters : ∀ l, (s'.link l).counters = (s.link l).counters
  rx : ∀ l, (s'.link l).rx = (s.link l).rx
  emitter : s'.emitter = s.emitter
  control : s'.control = s.control
  settings : s'.settings = s.settings
  padTable : s'.padTable = s.padTable
  uplink : s'.uplink = s.uplink
  freeCells : s'.freeCells = s.freeCells
  newest : s'.ring.newest = s.ring.newest

theorem State.begins {s s' : State} {l : LinkId} {it : Item} (h : s.beginTaking = some (l, it, s')) : s.Begins s' := by
  obtain ⟨hr, hf, hp, hset, he, hu, -, hc, -, -, -⟩ := State.beginTaking_frame h
  obtain ⟨-, hothers, rest, -, hlink⟩ := State.beginTaking_link h
  have hcounters (l' : LinkId) : (s'.link l').counters = (s.link l').counters ∧ (s'.link l').rx = (s.link l').rx := by
    by_cases hl : l' = l
    · subst hl
      rw [hlink]
      exact ⟨rfl, rfl⟩
    · rw [hothers l' hl]
      exact ⟨rfl, rfl⟩
  exact ⟨fun i => by simp only [State.slot, hr], .of_eq (by rw [hr]) (by rw [hr]) hset,
    fun l' => by simp only [State.intake, hr], fun l' => (hcounters l').1, fun l' => (hcounters l').2, he, hc, hset, hp, hu, hf,
    by rw [hr]⟩

namespace State.Begins

variable {s s' v : State}

theorem record (h : s.Begins s') (i : SlotId) (l : LinkId) : s'.record i l = s.record i l := by
  simp only [State.record, h.slot]

theorem ownPart (h : s.Begins s') (l : LinkId) (x : Heartbeat) : s'.ownPart l x = s.ownPart l x :=
  State.ownPart_congr h.mapping (fun i => ⟨by rw [h.slot], h.record i l⟩) x

theorem marginPart (h : s.Begins s') (l : LinkId) (x : Heartbeat) : s'.marginPart l x = s.marginPart l x :=
  State.marginPart_congr h.mapping fun i _ => ⟨by rw [h.slot], h.record i l⟩

/-- How a taking ends that has written link records alone. -/
theorem settles (h : s.Begins s') (hj : s'.Judges v) (hw : s'.Writes v) :
    SlotsSettle s v.settle ∧ v.settle.emitter.lastEpoch = s.emitter.lastEpoch ∧
    ((∀ i, (s.slot i).state = .filling → (s.slot i).flags.incomplete = false) → v.settle.control = s.control) ∧
    v.settle.freeCells = s.freeCells := by
  have hslot : ∀ i, (v.slot i).state = (s.slot i).state := fun i => by rw [hj.state, h.slot]
  refine ⟨slotsSettle_settle (fun i => ⟨hslot i, by rw [hj.deadline, h.slot], by rw [(hj.slice i).2.2, h.slot]⟩)
    (hw.cursor.trans h.mapping.cursor) (hw.cursorSlot.trans h.mapping.cursorSlot) (by rw [hj.emitter, h.emitter])
    (by rw [hw.uplink, h.uplink]), ?_, fun hinc => ?_, ?_⟩
  · rw [(State.ChangesSlots.settle v).lastEpoch, hj.emitter, h.emitter]
  · rw [State.settle_control fun i hi => ?_, hj.control, h.control]
    rw [hj.flags, h.slot]
    exact hinc i (by rw [← hslot, hi])
  · obtain ⟨-, hf, -⟩ := v.settle_frame
    rw [hf, hj.freeCells, h.freeCells]

end State.Begins

/-- What the own part of an HB_CLOSE does to the link's record (R22). -/
def State.closing (x : Heartbeat) (c : Close) (own : Option SlotId) (s : State) : LinkRecord → LinkRecord :=
  match own with
  | some i => LinkRecord.close c (decide (x = (s.slot i).lastHeartbeat)) (s.slot i).margin
  | none => id

theorem State.closeOwn_eq (l : LinkId) (x : Heartbeat) (c : Close) (own : Option SlotId) (s : State) :
    s.closeOwn l x c own = s.mapPart l own (s.closing x c own) := by
  cases own <;> rfl

/-- The records after the parts of an HB_CLOSE (R22). -/
theorem State.closedFor_parts (l : LinkId) (x : Heartbeat) (c : Close) (s : State) :
    PartsWritten l (s.ownPart l x) (s.marginPart l x) (s.closing x c (s.ownPart l x))
      (fun r => { r with margin := .taken, verdict := .done }) s (s.closedFor l x c) := by
  have h := State.partsWritten (l := l) (own := s.ownPart l x) (margin := s.marginPart l x)
    (fun i i' => State.marginPart_ne_ownPart) (s.closing x c (s.ownPart l x))
    (fun r => { r with margin := .taken, verdict := .done }) (s.closeIntake l)
  have hrec : ∀ i l', (s.closedFor l x c).record i l' =
      (((s.closeIntake l).mapPart l (s.ownPart l x) (s.closing x c (s.ownPart l x))).mapPart l (s.marginPart l x)
        fun r => { r with margin := .taken, verdict := .done }).record i l' := by
    intro i l'
    have e : s.closing x c (s.ownPart l x) = (s.closeIntake l).closing x c (s.ownPart l x) := rfl
    rw [e, ← State.closeOwn_eq]
    unfold State.closedFor
    dsimp only
    split <;> cases s.marginPart l x <;> rfl
  exact ⟨fun i hi => (hrec i l).trans (h.atOwn i hi), fun i hi => (hrec i l).trans (h.atMargin i hi),
    fun i l' hl => (hrec i l').trans (h.others i l' hl)⟩

/-- The records after the parts of a LOSS (R23). -/
theorem State.lostFor_parts (l : LinkId) (x : Heartbeat) (s : State) :
    PartsWritten l (s.ownPart l x) (s.marginPart l x) (LinkRecord.miss fun f => { f with ingressLoss := true })
      LinkRecord.marginAbsent s (s.lostFor l x) := by
  have h := State.partsWritten (l := l) (own := s.ownPart l x) (margin := s.marginPart l x)
    (fun i i' => State.marginPart_ne_ownPart) (LinkRecord.miss fun f => { f with ingressLoss := true })
    LinkRecord.marginAbsent s
  exact ⟨h.atOwn, h.atMargin, h.others⟩

/-- What the writing of a part leaves of the links and of the intake states. -/
theorem State.mapPart_frame (l : LinkId) (o : Option SlotId) (f : LinkRecord → LinkRecord) (s : State) :
    (s.mapPart l o f).links = s.links ∧ (s.mapPart l o f).ring.intake = s.ring.intake := by
  cases o <;> exact ⟨rfl, rfl⟩

theorem State.lostFor_frame (l : LinkId) (x : Heartbeat) (s : State) :
    (s.lostFor l x).links = s.links ∧ (s.lostFor l x).intake l = { s.intake l with openHeartbeat := none } := by
  have e : s.lostFor l x =
      ((s.mapPart l (s.ownPart l x) (LinkRecord.miss fun f => { f with ingressLoss := true })).mapPart l (s.marginPart l x)
        LinkRecord.marginAbsent).closeIntake l := rfl
  obtain ⟨h1, h2⟩ := s.mapPart_frame l (s.ownPart l x) (LinkRecord.miss fun f => { f with ingressLoss := true })
  obtain ⟨h3, h4⟩ := State.mapPart_frame l (s.marginPart l x) LinkRecord.marginAbsent
    (s.mapPart l (s.ownPart l x) (LinkRecord.miss fun f => { f with ingressLoss := true }))
  rw [e]
  generalize State.mapPart l _ _ (State.mapPart l _ _ s) = v at h3 h4
  refine ⟨h3.trans h1, ?_⟩
  rw [State.closeIntake, State.intake_setIntake]
  simp only [State.intake, h4, h2]

/-- A LINK_DOWN reaches the link's record in a FILLING slot (R38). -/
theorem State.record_downAt (l : LinkId) (reason : DownReason) (s : State) (k i : SlotId) (l' : LinkId) :
    (s.downAt l reason k).record i l' =
      if i = k ∧ l' = l ∧ (s.slot i).state = .filling then (s.record i l).takeDown reason else s.record i l' := by
  unfold State.downAt
  by_cases hik : i = k ∧ l' = l
  · obtain ⟨rfl, rfl⟩ := hik
    by_cases hf : (s.slot i).state = .filling <;> simp [hf]
  · rw [if_neg fun h : i = k ∧ l' = l ∧ _ => hik ⟨h.1, h.2.1⟩]
    by_cases hf : (s.slot k).state = .filling
    · rw [if_pos hf]
      exact State.record_mapRecord_ne (not_and_or.mp hik) _ _
    · rw [if_neg hf]

theorem State.record_foldl_downAt (l : LinkId) (reason : DownReason) {is : List SlotId} (his : is.Nodup) (s : State)
    (i : SlotId) (l' : LinkId) :
    (is.foldl (State.downAt l reason) s).record i l' =
      if i ∈ is ∧ l' = l ∧ (s.slot i).state = .filling then (s.record i l).takeDown reason else s.record i l' := by
  induction is generalizing s with
  | nil => simp
  | cons k is ih =>
    obtain ⟨hk, his⟩ := List.nodup_cons.mp his
    have hstate := (State.Judges.downAt l reason s k).state i
    rw [List.foldl_cons, ih his, State.record_downAt, State.record_downAt, hstate]
    by_cases hik : i = k
    · subst hik
      simp [hk]
    · simp [hik]

theorem State.downFor_record (l : LinkId) (reason : DownReason) (s : State) (i : SlotId) (l' : LinkId) :
    (s.downFor l reason).record i l' =
      if l' = l ∧ (s.slot i).state = .filling then (s.record i l).takeDown reason else s.record i l' := by
  have h := State.record_foldl_downAt l reason (List.nodup_finRange 8) s i l'
  simp only [List.mem_finRange, true_and] at h
  rw [State.downFor, State.record_setIntake, h]

/-- A LINK_DOWN on a PENDING link (R38). -/
theorem LinkRecord.takeDown_of_pending {r : LinkRecord} (h : r.verdict = .pending) (reason : DownReason) :
    (r.closedLast = true → r.takeDown reason = r.marginAbsent) ∧
    (r.closedLast = false → reason = .lost →
      r.takeDown reason = { r with verdict := .missing, flags := { r.flags with lost := true } }) ∧
    (r.closedLast = false → reason ≠ .lost →
      r.takeDown reason = { r with verdict := .excluded, flags := { r.flags with held := true } }) := by
  unfold LinkRecord.takeDown
  rw [if_pos h]
  refine ⟨fun hc => if_pos hc, fun hc hr => ?_, fun hc hr => ?_⟩ <;> rw [if_neg (by simp [hc])]
  · rw [hr]
  · cases reason with
    | lost => exact absurd rfl hr
    | held | disabled => rfl

/-- What `settle` leaves of links, intake states and records, read for one link. -/
theorem State.settle_reads (v : State) (l : LinkId) :
    v.settle.link l = v.link l ∧ v.settle.intake l = v.intake l ∧ ∀ i, v.settle.record i l = v.record i l :=
  ⟨(State.ChangesSlots.settle v).link l, (State.ChangesSlots.settle v).intake_eq l, fun i => v.record_settle i l⟩

/-- The taking of a LOSS (R23). -/
theorem lossTaken {s s' : State} {l : LinkId} {x : Heartbeat} (hb : s.beginTaking = some (l, .loss, s'))
    (hx : (s.intake l).openHeartbeat = some x) : exec .takeLoss s = .next (s'.lostFor l x).settle := by
  have e : exec .takeLoss s = .next (s'.takeLossItem l) := exec_takeOf hb
  rw [e, State.takeLossItem_eq, (State.begins hb).intake, hx]

/-- Settles O36: a LOSS writes its two parts, a LINK_DOWN every FILLING slot that waits, and the slots settle. -/
theorem lossAndLinkDownTaken : Obligations.LossAndLinkDownTaken := by
  refine ⟨fun s s' l hb => ⟨fun hx => ?_, fun x hx => ?_⟩, fun s s' l reason hb => ?_⟩
  · have e : exec .takeLoss s = .next (s'.takeLossItem l) := exec_takeOf hb
    rw [e, State.takeLossItem_eq, (State.begins hb).intake, hx]
  · have h := State.begins hb
    obtain ⟨hset, hlast, hctl, hfree⟩ := h.settles (s'.lostFor_judges l x) (.lostFor l x s')
    obtain ⟨hlinks, hintake⟩ := s'.lostFor_frame l x
    have hparts := s'.lostFor_parts l x
    rw [h.ownPart, h.marginPart] at hparts
    obtain ⟨hown, hmargin, hothers⟩ := hparts
    refine ⟨_, lossTaken hb hx, ?_, fun i hi => ?_, fun i hi => ?_, fun i l' hl => ?_, hset, hlast, hctl, ?_, hfree⟩
    · rw [(State.settle_reads _ l).2.1, hintake, h.intake]
    · rw [State.record_settle, hown i hi, h.record]
      exact LinkRecord.miss_eq (fun f => { f with ingressLoss := true }) (fun _ => rfl) _
    · rw [State.record_settle, hmargin i hi, h.record]
      rfl
    · rw [State.record_settle, hothers i l' hl, h.record]
    · rw [(State.settle_reads _ l).1, State.link, hlinks]
      exact h.counters l
  · have e : exec .takeLinkDown s = .next (s'.takeDownItem l reason) := exec_takeOf hb
    rw [State.takeDownItem_eq] at e
    have h := State.begins hb
    obtain ⟨hset, hlast, hctl, hfree⟩ := h.settles (s'.downFor_judges l reason) (.downFor l reason s')
    have hrec : ∀ i l', (s'.downFor l reason).settle.record i l' =
        if l' = l ∧ (s.slot i).state = .filling then (s.record i l).takeDown reason else s.record i l' := by
      intro i l'
      rw [State.record_settle, State.downFor_record, h.slot, h.record, h.record]
    have hfold := State.ChangesSlots.foldl (State.ChangesSlots.downAt l reason) (List.finRange 8) s'
    have hintake : ∀ l', (s'.downFor l reason).settle.intake l' = if l' = l then ⟨none, none⟩ else s.intake l' := by
      intro l'
      rw [(State.settle_reads _ l').2.1, State.downFor]
      split
      · next hl => rw [hl, State.intake_setIntake]
      · next hl => rw [State.intake_setIntake_ne hl, hfold.intake_eq, h.intake]
    refine ⟨_, e, by rw [hintake, if_pos rfl], fun l' hl => by rw [hintake, if_neg hl], fun i hf hp => ?_, fun i l' hl => ?_,
      hset, hlast, hctl, ?_, hfree⟩
    · intro r
      rw [hrec, if_pos ⟨rfl, hf⟩]
      exact LinkRecord.takeDown_of_pending hp reason
    · rw [hrec]
      split
      · next hlf =>
        obtain ⟨rfl, hf⟩ := hlf
        have hp : (s.record i l').verdict ≠ .pending := by
          obtain hl | hl | hl := hl
          · exact absurd rfl hl
          · exact absurd hf hl
          · exact hl
        exact if_neg hp
      · rfl
    · rw [(State.settle_reads _ l).1, State.downFor, State.link_setIntake, hfold.link]
      exact h.counters l

/-! ### The taking of an HB_CLOSE (R22) -/

/-- The own part of an HB_CLOSE on a PENDING link, by whether it is the slice's last heartbeat (R22). -/
theorem LinkRecord.close_of_pending {r : LinkRecord} (h : r.verdict = .pending) (c : Close) (last : Prop) [Decidable last]
    (margin : Nat) :
    let t := r.close c (decide last) margin
    t.flags =
      { r.flags with
        feTruncated := r.flags.feTruncated || c.feTruncated
        countMismatch := r.flags.countMismatch || c.countMismatch || c.implicit } ∧
    t.pulseCount = r.pulseCount ∧ t.droppedCount = r.droppedCount ∧
    (last → margin = 0 → t.verdict = .done ∧ t.closedLast = true ∧ t.margin = r.margin) ∧
    (last → margin ≠ 0 → t.verdict = .pending ∧ t.closedLast = true ∧ t.margin = .awaited) ∧
    (¬ last → t.verdict = .pending ∧ t.closedLast = r.closedLast ∧ t.margin = r.margin) := by
  unfold LinkRecord.close
  by_cases hl : last
  · by_cases hm : margin = 0 <;> simp [hl, hm, h]
  · simp [hl, h]

theorem State.closedFor_frame (l : LinkId) (x : Heartbeat) (c : Close) (s : State) :
    (s.closedFor l x c).intake l = { s.intake l with openHeartbeat := none } ∧
    ((s.closedFor l x c).link l).counters =
      if s.ownPart l x = none ∧ s.marginPart l x = none then
        { (s.link l).counters with lateItems := satAdd cap32 (s.link l).counters.lateItems 1 }
      else (s.link l).counters := by
  have hframe : ∀ (own receiving : Option SlotId), let v := ((s.closeIntake l).closeOwn l x c own).closeMargin l receiving
      v.links = s.links ∧ v.intake l = { s.intake l with openHeartbeat := none } := by
    intro own receiving
    have h : ((s.closeIntake l).intake l) = { s.intake l with openHeartbeat := none } := State.intake_setIntake ..
    cases own <;> cases receiving <;> exact ⟨rfl, h⟩
  obtain ⟨hl, hi⟩ := hframe (s.ownPart l x) (s.marginPart l x)
  unfold State.closedFor
  dsimp only at hl hi ⊢
  generalize ((s.closeIntake l).closeOwn l x c (s.ownPart l x)).closeMargin l (s.marginPart l x) = v at hl hi
  have hlink : v.link l = s.link l := by simp only [State.link, hl]
  by_cases h : s.ownPart l x = none ∧ s.marginPart l x = none
  · rw [if_pos (by simp [h]), if_pos h]
    exact ⟨hi, by rw [State.countLate, State.link_mapLink, hlink]; rfl⟩
  · rw [if_neg (by simpa using h), if_neg h, hlink]
    exact ⟨hi, rfl⟩

theorem closeTaken {s s' : State} {l : LinkId} {c : Close} {x : Heartbeat} (hb : s.beginTaking = some (l, .hbClose c, s'))
    (hx : (s.intake l).openHeartbeat = some x) : exec .takeHbClose s = .next (s'.closedFor l x c).settle := by
  have e : exec .takeHbClose s = .next (s'.takeClose l c) := exec_takeOf hb
  rw [e, State.takeClose_eq, (State.begins hb).intake, hx]

/-- Settles O35: the two parts write as `closedFor` says, and the slots settle. -/
theorem hbCloseTaken : Obligations.HbCloseTaken := by
  intro s s' l c hb
  have h := State.begins hb
  refine ⟨fun hx => ?_, fun x hx => ?_⟩
  · have e : exec .takeHbClose s = .next (s'.takeClose l c) := exec_takeOf hb
    rw [e, State.takeClose_eq, h.intake, hx]
    rfl
  obtain ⟨hset, hlast, hctl, hfree⟩ := h.settles (s'.closedFor_judges l x c) (.closedFor l x c s')
  obtain ⟨hintake, hcounters⟩ := s'.closedFor_frame l x c
  have hparts := s'.closedFor_parts l x c
  rw [h.ownPart, h.marginPart] at hparts hcounters
  obtain ⟨hown, hmargin, hothers⟩ := hparts
  refine ⟨_, closeTaken hb hx, ?_, fun i hi => ?_, fun i hi => ?_, fun i l' hl => ?_, ?_, hset, hlast, hctl, hfree⟩
  · rw [(State.settle_reads _ l).2.1, hintake, h.intake]
  · intro r last
    have hp : r.verdict = .pending := by
      obtain ⟨-, -, -, -, hp⟩ := State.ownPart_eq_some.mp hi
      exact hp
    have hrec : (s'.closedFor l x c).settle.record i l = r.close c (decide last) (s.slot i).margin := by
      rw [State.record_settle, hown i hi, h.record, hi, State.closing, h.slot]
      rfl
    rw [hrec]
    exact LinkRecord.close_of_pending hp c last _
  · rw [State.record_settle, hmargin i hi, h.record]
  · rw [State.record_settle, hothers i l' hl, h.record]
  · rw [(State.settle_reads _ l).1, hcounters, h.counters]

end Sys2Proof.Machine

end

section
/-! The giving up of a slot, by its deadline and by FORCE_CLOSE: O37 and O56. -/

namespace Sys2Proof.Machine

open Sys2Proof Sys2Proof.Safety

/-! ### The timebase (R34) -/

theorem State.slot_timebase (s : State) (i : SlotId) :
    ({ s with ring := { s.ring with slots := Vector.ofFn fun i : SlotId => s.ring.slots[i].countDown } } : State).slot i =
      (s.slot i).countDown := by
  simp [State.slot]

theorem Slot.countDown_eq (t : Slot) :
    t.countDown = { t with deadline := if t.state = .filling then t.deadline.map (· - 1) else t.deadline } := by
  unfold Slot.countDown
  split <;> rfl

/-- The deadline of a FILLING slot is exhausted after as many steps as it counts. -/
theorem execAll_timebase (i : SlotId) (n : Nat) : ∀ s : State, (s.slot i).state = .filling → (s.slot i).deadline = some n →
    ∃ t, execAll (List.replicate n .timebaseStep) s = .next t ∧ t.slot i = { s.slot i with deadline := some 0 } := by
  induction n with
  | zero => exact fun s _ hd => ⟨s, rfl, by rw [← hd]⟩
  | succ n ih =>
    intro s hf hd
    have hslot := s.slot_timebase i
    rw [Slot.countDown_eq, if_pos hf, hd] at hslot
    obtain ⟨t, ht, e⟩ := ih _ (by rw [hslot]; exact hf) (by rw [hslot]; rfl)
    exact ⟨t, ht, by rw [e, hslot]⟩

/-! ### The giving up of a slot (R36, R37) -/

theorem State.mapSlot_mapSlot (i : SlotId) (f g : Slot → Slot) (s : State) :
    (s.mapSlot i f).mapSlot i g = s.mapSlot i fun t => g (f t) := by
  simp [State.mapSlot]

/-- Give up every PENDING link of slot `i`, and change its flags. -/
def State.givenUp (i : SlotId) (f : SlotFlags → SlotFlags) (s : State) : State :=
  s.mapSlot i fun t => { t.mapRecords LinkRecord.giveUp with flags := f t.flags }

theorem State.giveUp_eq (i : SlotId) (s : State) : s.giveUp i = s.givenUp i fun f => { f with incomplete := true } := rfl

theorem State.forced_eq (i : SlotId) (s : State) :
    ((s.giveUp i).mapSlot i fun t => { t with flags := { t.flags with forced := true } }) =
      s.givenUp i fun f => { f with incomplete := true, forced := true } := by
  rw [State.giveUp, State.mapSlot_mapSlot, State.givenUp]

/-- A link given up is PENDING no more; the others stay (R36). -/
theorem LinkRecord.giveUp_cases (r : LinkRecord) :
    r.giveUp.verdict ≠ .pending ∧
    (r.verdict = .pending → r.closedLast = true → r.giveUp = r.marginAbsent) ∧
    (r.verdict = .pending → r.closedLast = false → r.giveUp = { r with verdict := .missing }) ∧
    (r.verdict ≠ .pending → r.giveUp = r) := by
  unfold LinkRecord.giveUp
  by_cases hp : r.verdict = .pending
  · cases hc : r.closedLast <;> simp [hp, LinkRecord.marginAbsent]
  · simp [hp]

/-- A slot still FILLING after its examination waits for a link. -/
theorem Slot.examined_waits (t : Slot) (h : t.examined.state = .filling) : t.examined.hasPending = true := by
  unfold Slot.examined at h ⊢
  split
  · next hd =>
    rw [if_pos hd] at h
    cases h
  · next hd =>
    rw [if_neg hd] at h
    simpa [h] using hd

/-- A slot that is not FILLING, or waits for a link, is not done with at an examination. -/
theorem State.foldl_examine_of_quiet {is : List SlotId} {s : State}
    (h : ∀ i ∈ is, (s.slot i).state = .filling → (s.slot i).hasPending = true) : is.foldl (fun s i => s.examine i) s = s := by
  induction is with
  | nil => rfl
  | cons i is ih =>
    have e : s.examine i = s := by
      obtain ⟨hf, hp, -⟩ | ⟨-, e⟩ := s.examine_cases i
      · rw [h i List.mem_cons_self hf] at hp
        cases hp
      · exact e
    rw [List.foldl_cons, e]
    exact ih fun i' hi' => h i' (List.mem_cons_of_mem _ hi')

/-- Where one slot alone can be done with, the examination of all slots is that of this one. -/
theorem State.examineAll_eq_examine {s : State} {i : SlotId}
    (h : ∀ i', i' ≠ i → (s.slot i').state = .filling → (s.slot i').hasPending = true) : s.examineAll = s.examine i := by
  obtain ⟨as, bs, hab⟩ := List.append_of_mem (List.mem_finRange i)
  have hnodup := List.nodup_finRange 8
  rw [hab, List.nodup_append] at hnodup
  obtain ⟨-, -, hne⟩ := hnodup
  rw [State.examineAll, hab, List.foldl_append, List.foldl_cons,
    State.foldl_examine_of_quiet fun a ha => h a (hne a ha i List.mem_cons_self)]
  refine State.foldl_examine_of_quiet fun b _ => ?_
  rw [State.slot_examine_ite]
  split
  · exact Slot.examined_waits _
  · next hbi => exact h b hbi

/-- What the giving up of a FILLING slot comes to, when the other FILLING slots wait (R36, R37, R42, R43, R114). -/
structure GivesUp (i : SlotId) (f : SlotFlags → SlotFlags) (s t : State) : Prop where
  state : (t.slot i).state = .complete ∨ (t.slot i).state = .emitting ∧ i = s.ring.cursorSlot
  settles : SlotsSettle s t
  deadline : (t.slot i).deadline = none
  flags : (t.slot i).flags = f (s.slot i).flags
  rows : (t.slot i).rows = (s.slot i).rows
  totals : (t.slot i).totals = (s.slot i).totals
  records : ∀ l, t.record i l = (s.record i l).giveUp
  control : t.control =
    { s.control with
      sliceLoss := true
      globals := { s.control.globals with slicesIncomplete := satAdd cap32 s.control.globals.slicesIncomplete 1 } }
  others : ∀ i', i' ≠ i → (s.slot i').state ≠ .complete → t.slot i' = s.slot i'
  taken : i = s.ring.cursorSlot → s.ring.cursor ≠ none → s.emitter.state = .idle → s.emitter.stopping = none →
    (t.slot i).state = .emitting ∧ t.emitter = s.emitterAt (s.slot i)
  left : s.ring.cursor = none ∨ s.emitter.state ≠ .idle ∨ s.emitter.stopping ≠ none →
    (t.slot i).state = .complete ∧ t.emitter = s.emitter
  frame : s.ChangesSlots t ∧ t.freeCells = s.freeCells

theorem givesUp_settle {s : State} {i : SlotId} {f : SlotFlags → SlotFlags} (hf : (s.slot i).state = .filling)
    (hinc : (f (s.slot i).flags).incomplete = true)
    (hothers : ∀ i', (s.slot i').state = .filling → (s.slot i').hasPending = true) : GivesUp i f s (s.givenUp i f).settle := by
  have hself : (s.givenUp i f).slot i = { (s.slot i).mapRecords LinkRecord.giveUp with flags := f (s.slot i).flags } :=
    State.slot_mapSlot i (fun t => { t.mapRecords LinkRecord.giveUp with flags := f t.flags }) s
  have hne : ∀ i', i' ≠ i → (s.givenUp i f).slot i' = s.slot i' := fun i' h => State.slot_mapSlot_ne h _ s
  have hch : s.ChangesSlots (s.givenUp i f) := .mapSlot ..
  have hemit : (s.givenUp i f).emitter = s.emitter := rfl
  have hctl : (s.givenUp i f).control = s.control := rfl
  have hfree : (s.givenUp i f).freeCells = s.freeCells := rfl
  generalize s.givenUp i f = v at hself hne hch hemit hctl hfree
  have hslot : ∀ i', (v.slot i').state = (s.slot i').state ∧ (v.slot i').deadline = (s.slot i').deadline ∧
      (v.slot i').epoch = (s.slot i').epoch := by
    intro i'
    by_cases hi : i' = i
    · rw [hi, hself]
      simp
    · rw [hne i' hi]
      exact ⟨rfl, rfl, rfl⟩
  have hlink : ∀ l : LinkId, (v.slot i).links[l] = (s.record i l).giveUp := by
    intro l
    rw [hself]
    exact Slot.mapRecords_links ..
  have hpend : (v.slot i).hasPending = false := by
    rw [Slot.hasPending_eq_false]
    intro l
    rw [hlink]
    exact (s.record i l).giveUp_cases.1
  have hvf : (v.slot i).state = .filling := (hslot i).1.trans hf
  have hexam : (v.slot i).examined = { v.slot i with state := .complete, deadline := none } := Slot.examined_of_done hvf hpend
  have hquiet : ∀ i', i' ≠ i → (v.slot i').state = .filling → (v.slot i').hasPending = true := by
    intro i' hi hfi
    rw [hne i' hi] at hfi ⊢
    exact hothers i' hfi
  have hquiet_slot : ∀ i', i' ≠ i → (v.slot i').examined = s.slot i' := by
    intro i' hi
    by_cases hfi : (v.slot i').state = .filling
    · rw [Slot.examined_of_pending (hquiet i' hi hfi), hne i' hi]
    · rw [Slot.examined_of_ne hfi, hne i' hi]
  have hset : SlotsSettle s v.settle := slotsSettle_settle hslot hch.cursor hch.cursorSlot (by rw [hemit]) (by rw [hch.uplink])
  have hverdict : ∀ l, v.settle.record i l = (s.record i l).giveUp := fun l => by rw [State.record_settle, State.record, hlink]
  have hdone : ∀ l, (v.settle.record i l).verdict ≠ .pending := fun l => by rw [hverdict]; exact (s.record i l).giveUp_cases.1
  have hstate : (v.settle.slot i).state =
      if i = s.ring.cursorSlot ∧ s.ring.cursor ≠ none ∧ s.emitter.state = .idle ∧ s.emitter.stopping = none then .emitting
      else .complete := (hset.states i).trans (if_pos (.inr ⟨hf, hdone⟩))
  have htakes : v.takesNext ↔ s.emitter.state = .idle ∧ s.emitter.stopping = none ∧ s.ring.cursor ≠ none ∧
      (v.slot s.ring.cursorSlot).examined.state = .complete := by
    rw [State.takesNext, hemit, hch.cursor, hch.cursorSlot]
  obtain ⟨st, d, hkeep⟩ := v.slot_settle i
  refine ⟨?_, hset, (hset.deadlines i).trans (if_pos ⟨hf, hdone⟩), by rw [hkeep, hself], by rw [hkeep, hself]; simp,
    by rw [hkeep, hself]; simp, hverdict, ?_, fun i' hi hc => ?_, fun hi h1 h2 h3 => ?_, fun h => ?_, hch.trans (.settle v), ?_⟩
  · rw [hstate]
    split
    · next h => exact .inr ⟨rfl, h.1⟩
    · exact .inl rfl
  · obtain ⟨-, -, -, -, -, -, hc, -⟩ := v.examineAll.emitterTakes_frame
    have hinc' : (v.slot i).flags.incomplete = true := by rw [hself]; exact hinc
    obtain ⟨-, -, e⟩ | ⟨hn, -⟩ := v.examine_cases i
    · rw [State.settle, hc, State.examineAll_eq_examine hquiet, e, State.completeSlot, if_pos hinc', ← hctl]
      rfl
    · exact absurd hn (by simp [hvf, hpend])
  · by_cases ht : v.takesNext
    · rw [(State.settle_of_takes ht).1, hquiet_slot i' hi, if_neg]
      rintro e
      rw [hch.cursorSlot] at e
      subst e
      rw [hquiet_slot _ hi] at htakes
      exact hc (htakes.mp ht).2.2.2
    · rw [(State.settle_of_not_takes ht).1, hquiet_slot i' hi]
  · have ht : v.takesNext := htakes.mpr ⟨h2, h3, h1, by rw [← hi, hexam]⟩
    refine ⟨by rw [hstate, if_pos ⟨hi, h1, h2, h3⟩], ?_⟩
    rw [(State.settle_of_takes ht).2, hch.cursorSlot, ← hi]
    simp only [State.emitterAt, hemit, hch.uplink, hch.settings, hch.cursorSlot, (hslot i).2.2]
  · have hnot : ¬ (s.ring.cursor ≠ none ∧ s.emitter.state = .idle ∧ s.emitter.stopping = none) := by
      rintro ⟨h1, h2, h3⟩
      obtain h | h | h := h
      · exact h1 h
      · exact h h2
      · exact h h3
    refine ⟨by rw [hstate, if_neg fun h => hnot h.2], ?_⟩
    rw [(State.settle_of_not_takes fun ht => ?_).2, hemit]
    obtain ⟨h1, h2, h3, -⟩ := htakes.mp ht
    exact hnot ⟨h3, h1, h2⟩
  · obtain ⟨-, hfr, -⟩ := v.settle_frame
    exact hfr.trans hfree

/-- The records of a slot given up, by verdict and closed-last (R36). -/
theorem GivesUp.records_cases {i : SlotId} {f : SlotFlags → SlotFlags} {s t : State} (h : GivesUp i f s t) :
    (∀ l, (s.record i l).verdict = .pending → (s.record i l).closedLast = true →
      t.record i l =
        { s.record i l with
          verdict := .done
          margin := .absent
          flags := { (s.record i l).flags with marginAbsent := true } }) ∧
    (∀ l, (s.record i l).verdict = .pending → (s.record i l).closedLast = false →
      t.record i l = { s.record i l with verdict := .missing }) ∧
    (∀ l, (s.record i l).verdict ≠ .pending → t.record i l = s.record i l) := by
  refine ⟨fun l hp hc => ?_, fun l hp hc => ?_, fun l hp => ?_⟩ <;> rw [h.records] <;>
    obtain ⟨-, h1, h2, h3⟩ := (s.record i l).giveUp_cases
  · exact h1 hp hc
  · exact h2 hp hc
  · exact h3 hp

/-- Settles O37: the timebase counts every slot on by itself, and an expiry gives up its slot. -/
theorem deadlinesCountDownAndExpire : Obligations.DeadlinesCountDownAndExpire := by
  refine ⟨⟨fun s => ⟨_, rfl, fun i => ?_, rfl⟩, fun s i n => execAll_timebase i n s⟩, fun s i hothers => ⟨fun h => ?_,
    fun hf hd => ?_⟩⟩
  · rw [State.slot_timebase, Slot.countDown_eq]
  · show execDeadlineExpiry i s = .next s
    rw [execDeadlineExpiry, if_neg (not_and_or.mpr h)]
  · have e : exec (.deadlineExpiry i) s = .next (s.giveUp i).settle := if_pos ⟨hf, hd⟩
    have h := givesUp_settle (f := fun f => { f with incomplete := true }) hf rfl hothers
    rw [State.giveUp_eq] at e
    obtain ⟨hrec1, hrec2, hrec3⟩ := h.records_cases
    obtain ⟨hch, hfree⟩ := h.frame
    refine ⟨_, e, h.state, h.settles, h.deadline, h.flags, h.rows, h.totals, hrec1, hrec2, hrec3, h.control, h.others,
      fun hi h1 h2 h3 => ?_, h.left, hch.links, hfree, hch.padTable, hch.settings, hch.uplink, hch.lane⟩
    obtain ⟨hstate, he⟩ := h.taken hi h1 h2 h3
    refine ⟨hstate, ?_⟩
    rw [he, State.emitterAt, ← hi]
    cases (s.settings.settingsOf (s.slot i).epoch).order <;> rfl

/-! ### The execution of a request (R155 to R157) -/

/-- The state with the requests `rest` in the queue, as the head request leaves it at its execution. -/
def State.withRequests (rest : List Request) (s : State) : State := { s with control := { s.control with queue := rest } }

/-- An executed request answers what its act answers, over the state that the act leaves but for the request queue. -/
theorem State.execute_eq_replied {s u : State} {takes : BitVec 8 → Bool} {act : Request → State → State × Answer} {q : Request}
    {rest rest' : List Request} {st : Status} {clamped : Bool} {words : List Word32} (hq : s.control.queue = q :: rest)
    (hh : s.control.holder = none) (ht : takes q.code = true)
    (hact : act q (s.withRequests rest) = (u.withRequests rest', ⟨st, clamped, words⟩)) :
    s.execute takes act = replied q rest' st clamped words u := by
  rw [State.execute_head hq hh ht]
  exact congrArg (fun r : State × Answer => r.1.formReply q r.2) hact

/-- A field that its value fits in holds the value. -/
theorem placed_of_lt {v width : Nat} (h : v < 2 ^ width) (lo : Nat) : placed v lo width = v * 2 ^ lo := by
  rw [placed, Nat.mod_eq_of_lt h]

/-- A word whose lowest field is all that it holds. -/
theorem word_placed_zero {v width : Nat} (h : v < 2 ^ width) : word (placed v 0 width) = BitVec.ofNat 32 v := by
  rw [placed_of_lt h, Nat.pow_zero, Nat.mul_one, word]

theorem withLength_of_eq {n : Nat} {act : Request → State → State × Answer} {q : Request} (h : q.payload.length = n)
    (s : State) : withLength n act q s = act q s := if_pos h

/-! ### FORCE_CLOSE (R37) -/

/-- The oldest FILLING slot is the one at the lowest offset (R37). -/
theorem State.oldestFilling_eq_some {s : State} {j : Fin 8} (hf : (s.slot (s.slotAt j)).state = .filling)
    (hlow : ∀ k, k < j → (s.slot (s.slotAt k)).state ≠ .filling) : s.oldestFilling = some (s.slotAt j) := by
  have h : (List.finRange 8).find? ((fun i => decide ((s.slot i).state = .filling)) ∘ s.slotAt) = some j :=
    find?_finRange_eq_some.mpr ⟨by simpa using hf, fun k hk => by simpa using hlow k hk⟩
  rw [State.oldestFilling, List.find?_map, h, Option.map_some]

theorem State.oldestFilling_eq_none {s : State} (h : ∀ i, (s.slot i).state ≠ .filling) : s.oldestFilling = none := by
  simp [State.oldestFilling, List.find?_eq_none, h]

/-- What the giving up of a slot comes to, without regard to the request queue. -/
theorem GivesUp.of_queue {i : SlotId} {f : SlotFlags → SlotFlags} {s t : State} {rest : List Request}
    (h : GivesUp i f (s.withRequests rest) t) : GivesUp i f s (t.withRequests s.control.queue) where
  state := h.state
  settles := ⟨h.settles.states, h.settles.deadlines, h.settles.takes, h.settles.stays⟩
  deadline := h.deadline
  flags := h.flags
  rows := h.rows
  totals := h.totals
  records := h.records
  control := by
    have hc := h.control
    dsimp only [State.withRequests] at hc ⊢
    rw [hc]
  others := h.others
  taken := h.taken
  left := h.left
  frame := by
    obtain ⟨hch, hfree⟩ := h.frame
    refine ⟨⟨hch.links, hch.padTable, hch.settings, hch.uplink, hch.lane, hch.freeDraws, hch.pending, hch.cursor,
      hch.cursorSlot, hch.newest, hch.intake, hch.arbiter, ?_, hch.stopping, hch.lastEpoch⟩, hfree⟩
    have hc := hch.control
    dsimp only [State.withRequests] at hc ⊢
    rw [hc]

/-- Settles O56: the oldest FILLING slot is given up as at a deadline, with FORCED. -/
theorem forceCloseGivesUpTheOldestSlot : Obligations.ForceCloseGivesUpTheOldestSlot := by
  intro s q rest hq hh hcode hp hothers
  have hlen : q.payload.length = 0 := by rw [hp]; rfl
  have ht : decide (q.code = 0x0F#8) = true := decide_eq_true hcode
  refine ⟨fun hnone => ?_, fun j hf hlow => ?_⟩
  · refine congrArg Host.Outcome.next (State.execute_eq_replied hq hh ht ?_)
    have hold : (s.withRequests rest).oldestFilling = none := State.oldestFilling_eq_none hnone
    rw [withLength_of_eq hlen, forceCloseAct, hold]
    rfl
  · intro i
    have hold : (s.withRequests rest).oldestFilling = some i := State.oldestFilling_eq_some hf hlow
    have h := GivesUp.of_queue (givesUp_settle (s := s.withRequests rest) (i := i)
      (f := fun f => { f with incomplete := true, forced := true }) hf rfl hothers)
    have hact : withLength 0 forceCloseAct q (s.withRequests rest) =
        (((s.withRequests rest).givenUp i fun f => { f with incomplete := true, forced := true }).settle,
          ⟨.ok, false, [BitVec.ofNat 32 (s.slot i).first.toNat]⟩) := by
      rw [withLength_of_eq hlen, forceCloseAct, hold, ← State.forced_eq, ← word_placed_zero (s.slot i).first.isLt]
      rfl
    have hqueue : ((s.withRequests rest).givenUp i fun f => { f with incomplete := true, forced := true }).settle.control.queue =
        rest := by
      rw [(State.ChangesSlots.settle _).control]
      rfl
    generalize State.settle _ = t at h hact hqueue
    obtain ⟨hrec1, hrec2, hrec3⟩ := h.records_cases
    obtain ⟨hch, hfree⟩ := h.frame
    refine ⟨_, congrArg Host.Outcome.next (State.execute_eq_replied hq hh ht ?_), h.state.imp_right fun ⟨he, hi⟩ => ⟨he, ?_⟩,
      h.settles, hch.lastEpoch, h.deadline, h.flags, h.rows, hrec1, hrec2, hrec3, h.control, h.others, hch.links, hfree,
      hch.padTable, hch.settings, hch.uplink, hch.lane⟩
    · rw [hact, ← hqueue]
      rfl
    · have hi : s.ring.cursorSlot + j = s.ring.cursorSlot := hi
      simpa using hi

end Sys2Proof.Machine

end

section
/-! The execution of requests: refusals and the status word (O58), restarts (O59), and QUERY_CAUSE (O57). -/

namespace Sys2Proof.Machine

open Sys2Proof Sys2Proof.Safety

/-! ### The commands that execute requests (R155, R156, R175) -/

theorem code_eq_of_toNat {code : BitVec 8} {k : Nat} (h : code.toNat = k) : code = BitVec.ofNat 8 k := by
  rw [← h, BitVec.ofNat_toNat, BitVec.setWidth_eq]

/-- The command of a request executes the head request when it has the request's code. -/
theorem exec_request {code : BitVec 8} {c : Instr} (h : requestOf code = some c) :
    ∃ act, ∀ s, exec c s = .next (s.execute (fun k => decide (k = code)) act) := by
  unfold requestOf at h
  split at h
  case h_18 => cases h
  all_goals
    next hk =>
    obtain rfl := code_eq_of_toNat hk
    obtain rfl := Option.some.inj h
    exact ⟨_, fun s => rfl⟩

theorem requestOf_bounds {code : BitVec 8} (h : requestOf code ≠ none) : 1 ≤ code.toNat ∧ code.toNat ≤ 17 := by
  unfold requestOf at h
  split at h
  case h_18 => exact absurd rfl h
  all_goals omega

/-- A request of fixed length is checked for BUSY, then for its length (R156). -/
theorem exec_fixedLength {code : BitVec 8} {n : Nat} (h : payloadLength code = some n) :
    ∃ c busy act, requestOf code = some c ∧
      (∀ s, exec c s = .next (s.execute (fun k => decide (k = code)) (unlessBusy busy (withLength n act)))) ∧
      ∀ s : State, (code = 0x02#8 → s.settings.commit = none) →
        (code = 0x05#8 ∨ code = 0x06#8 → s.settings.commit = none ∧ s.padTable.copyNext = none) → busy s = false := by
  unfold payloadLength at h
  split at h
  case h_17 => cases h
  all_goals
    rename_i hk
    obtain rfl := code_eq_of_toNat hk
    obtain rfl := Option.some.inj h
  case h_6 => exact ⟨_, State.commitPending, _, rfl, fun s => rfl, fun s hc _ => by simp [State.commitPending, hc rfl]⟩
  case h_8 | h_9 =>
    refine ⟨_, State.banksBusy, _, rfl, fun s => rfl, fun s _ hb => ?_⟩
    obtain ⟨hc, hn⟩ := hb (by decide)
    simp [State.banksBusy, hc, hn]
  all_goals exact ⟨_, fun _ => false, _, rfl, fun s => rfl, fun s _ _ => rfl⟩

theorem withLength_of_ne {n : Nat} {act : Request → State → State × Answer} {q : Request} (h : q.payload.length ≠ n)
    (s : State) : withLength n act q s = (s, .plain .badArgument) := if_neg h

theorem unlessBusy_of_not {busy : State → Bool} {act : Request → State → State × Answer} {s : State} (h : busy s = false)
    (q : Request) : unlessBusy busy act q s = act q s := if_neg (by simp [h])

theorem unlessBusy_of_busy {busy : State → Bool} {act : Request → State → State × Answer} {s : State} (h : busy s = true)
    (q : Request) : unlessBusy busy act q s = (s, .plain .busy) := if_pos h

/-- No command executes a request while the holder is full or the queue empty (R155). -/
theorem exec_request_skips {s : State} {code : BitVec 8} {c : Instr} (hc : requestOf code = some c)
    (h : s.control.queue = [] ∨ s.control.holder ≠ none ∨
      ∃ q rest, s.control.queue = q :: rest ∧ q.code ≠ code) : exec c s = .next s := by
  obtain ⟨act, e⟩ := exec_request hc
  rw [e, State.execute_skips]
  exact h.imp_right (Or.imp_right fun ⟨q, rest, hq, hne⟩ => ⟨q, rest, hq, decide_eq_false hne⟩)

/-- The status word (R176). -/
theorem statusWord_eq (code : BitVec 8) (overrun clamped : Bool) (st : Status) :
    statusWord code overrun clamped st =
      BitVec.ofNat 32 (code.toNat * 2 ^ 24 + overrun.toNat * 2 ^ 9 + clamped.toNat * 2 ^ 8 + st.code) := by
  have hst : st.code < 2 ^ 4 := by cases st <;> decide
  rw [statusWord, word, placed_of_lt code.isLt, placed_of_lt hst, placedFlag, placedFlag, Nat.pow_zero, Nat.mul_one]

/-- Settles O58: each command executes the head request when it has the request's code, and refuses it before its act. -/
theorem refusedRequests : Obligations.RefusedRequests := by
  refine ⟨fun s => ⟨fun q rest hq hh => ⟨fun hc => ?bad, fun hb => ?busy, fun h2 h56 n hn hlen => ?length,
    fun code c hc hne => exec_request_skips hc (.inr (.inr ⟨q, rest, hq, hne⟩)), fun hc => ?known⟩, fun h code c hc => ?skips⟩,
    fun q rest st clamped words s => ?word, rfl⟩
  case bad =>
    refine congrArg Host.Outcome.next (State.execute_eq_replied hq hh ?_ rfl)
    simpa using hc
  case busy =>
    have hbanks : ∀ {act : Request → State → State × Answer} {k : BitVec 8}, q.code = k →
        s.settings.commit ≠ none ∨ s.padTable.copyNext ≠ none →
        s.execute (fun c => decide (c = k)) (unlessBusy State.banksBusy act) = replied q rest .busy false [] s := by
      intro act k hk hbusy
      refine State.execute_eq_replied hq hh (decide_eq_true hk) (unlessBusy_of_busy ?_ q)
      obtain h | h := hbusy
      · simp [State.banksBusy, State.withRequests, Option.isSome_iff_ne_none.mpr h]
      · simp [State.banksBusy, State.withRequests, Option.isSome_iff_ne_none.mpr h]
    obtain ⟨hc, h | h | h | h⟩ | ⟨hn, h | h | h⟩ := hb
    · refine ⟨.writeSettings, by rw [h]; rfl, congrArg Host.Outcome.next ?_⟩
      refine State.execute_eq_replied hq hh (decide_eq_true h) (unlessBusy_of_busy ?_ q)
      exact Option.isSome_iff_ne_none.mpr hc
    · exact ⟨.writePad, by rw [h]; rfl, congrArg Host.Outcome.next (hbanks h (.inl hc))⟩
    · exact ⟨.copyBank, by rw [h]; rfl, congrArg Host.Outcome.next (hbanks h (.inl hc))⟩
    · exact ⟨.commit, by rw [h]; rfl, congrArg Host.Outcome.next (hbanks h (.inl hc))⟩
    · exact ⟨.writePad, by rw [h]; rfl, congrArg Host.Outcome.next (hbanks h (.inr hn))⟩
    · exact ⟨.copyBank, by rw [h]; rfl, congrArg Host.Outcome.next (hbanks h (.inr hn))⟩
    · exact ⟨.commit, by rw [h]; rfl, congrArg Host.Outcome.next (hbanks h (.inr hn))⟩
  case length =>
    obtain ⟨c, busy, act, hc, e, hfree⟩ := exec_fixedLength hn
    refine ⟨c, hc, ?_⟩
    rw [e]
    refine congrArg Host.Outcome.next (State.execute_eq_replied hq hh (decide_eq_true rfl) ?_)
    rw [unlessBusy_of_not (hfree (s.withRequests rest) h2 h56), withLength_of_ne hlen]
    rfl
  case known =>
    obtain ⟨h1, h17⟩ := requestOf_bounds hc
    refine congrArg Host.Outcome.next (State.execute_skips (.inr (.inr ⟨q, rest, hq, ?_⟩)))
    have h0 : q.code ≠ 0 := fun h => by simp [h] at h1
    simp only [h0, decide_false, Bool.false_or, decide_eq_false_iff_not]
    omega
  case skips =>
    obtain hc | rfl := hc
    · exact exec_request_skips hc (h.symm.imp_right .inl)
    · exact congrArg Host.Outcome.next (State.execute_skips (h.symm.imp_right .inl))
  case word =>
    simp only [replied, statusWord_eq]

/-! ### Restarts (R164 to R166) -/

/-- Settles O59: both requests set the stopping flag alone, and SOFT_RESET empties the request queue. -/
theorem restartRequestsSetStopping : Obligations.RestartRequestsSetStopping := by
  intro s q rest hq hh hp
  have hlen : q.payload.length = 0 := by rw [hp]; rfl
  refine ⟨fun hc => ?_, fun hc => ?_⟩ <;>
    refine congrArg Host.Outcome.next (State.execute_eq_replied hq hh (decide_eq_true hc) ?_) <;>
    rw [withLength_of_eq hlen]
  · rfl
  · simp only [softResetAct, State.setStopping, ite_self]
    rfl

/-! ### QUERY_CAUSE (R167, R168) -/

theorem getLsbD_word {n k : Nat} (hk : k < 32) {b : Bool} (h : n / 2 ^ k % 2 = b.toNat) : (word n).getLsbD k = b := by
  rw [word, BitVec.getLsbD_ofNat, decide_eq_true hk, Bool.true_and, Nat.testBit_eq_decide_div_mod_eq, h]
  cases b <;> rfl

/-- The word of a QUERY_CAUSE reply: the detail above the pending bits above the priority. -/
def State.causeWord (s : State) (detail priority : Nat) : Nat :=
  detail % 65536 * 65536 + s.pendingBits + priority

theorem causeWord_reads (s : State) (detail : Nat) {p : Nat} (hp : p < 8) :
    (word (s.causeWord detail p)).toNat % 8 = p ∧
      (∀ d : Cause, (word (s.causeWord detail p)).getLsbD (7 + d.priority) = s.isPending d) ∧
      (word (s.causeWord detail p)).toNat / 65536 = detail % 65536 := by
  have hle := fun c => Bool.toNat_le (s.isPending c)
  have e : s.causeWord detail p = detail % 65536 * 65536 + ((s.isPending .configReject).toNat * 2 ^ 8 +
      (s.isPending .linkChange).toNat * 2 ^ 9 + (s.isPending .sliceLoss).toNat * 2 ^ 10 +
      (s.isPending .congestion).toNat * 2 ^ 11 + (s.isPending .poolLow).toNat * 2 ^ 12 +
      (s.isPending .controlOverrun).toNat * 2 ^ 13) + p := by
    simp only [State.causeWord, State.pendingBits, Cause.all, List.map, placedFlag, Cause.priority, List.sum_cons,
      List.sum_nil, Nat.reduceAdd, Nat.add_assoc, Nat.add_zero]
  have h1 := hle .configReject
  have h2 := hle .linkChange
  have h3 := hle .sliceLoss
  have h4 := hle .congestion
  have h5 := hle .poolLow
  have h6 := hle .controlOverrun
  have hlt : s.causeWord detail p < 2 ^ 32 := by omega
  have hn : (word (s.causeWord detail p)).toNat = s.causeWord detail p := Nat.mod_eq_of_lt hlt
  refine ⟨by omega, fun d => ?_, by omega⟩
  cases d <;> refine getLsbD_word (by decide) ?_ <;> simp only [Cause.priority, Nat.reduceAdd, Nat.reducePow] at e ⊢ <;>
    omega

theorem mem_causes (c : Cause) : c ∈ Cause.all := by cases c <;> decide

theorem State.topCause_eq_none {s : State} (h : ∀ c : Cause, s.isEnabled c = true → s.isPending c = false) :
    s.topCause = none := by
  refine List.find?_eq_none.mpr fun c _ => ?_
  simp only [Bool.and_eq_true, not_and, Bool.not_eq_true]
  exact h c

theorem State.topCause_eq_some {s : State} {c : Cause} (he : s.isEnabled c = true) (hp : s.isPending c = true)
    (hfirst : ∀ d : Cause, d.priority < c.priority → s.isEnabled d = true → s.isPending d = false) :
    s.topCause = some c := by
  have hskip : ∀ d : Cause, d.priority < c.priority → (s.isEnabled d && s.isPending d) = false := by
    intro d hd
    cases hen : s.isEnabled d
    · rfl
    · rw [hfirst d hd hen]
      rfl
  have hsplit : ∃ before after, Cause.all = before ++ c :: after ∧ ∀ d ∈ before, d.priority < c.priority := by
    cases c
    · exact ⟨[], _, rfl, by decide⟩
    · exact ⟨[_], _, rfl, by decide⟩
    · exact ⟨[_, _], _, rfl, by decide⟩
    · exact ⟨[_, _, _], _, rfl, by decide⟩
    · exact ⟨[_, _, _, _], _, rfl, by decide⟩
    · exact ⟨[_, _, _, _, _], _, rfl, by decide⟩
  obtain ⟨before, after, e, hb⟩ := hsplit
  refine List.find?_eq_some_iff_append.mpr ⟨by rw [he, hp]; rfl, before, after, e, fun d hd => ?_⟩
  rw [hskip d (hb d hd)]
  rfl

theorem Control.clearLatched_eq (c : Cause) (k : Control) :
    k.clearLatched c = { k with
      configReject := if c = .configReject then none else k.configReject
      sliceLoss := if c = .sliceLoss then false else k.sliceLoss
      controlOverrun := if c = .controlOverrun then false else k.controlOverrun } := by
  cases c <;> rfl

theorem State.firstLink_isSome {s : State} {p : Link → Bool} : (s.firstLink p).isSome = true ↔ ∃ l, p (s.link l) = true := by
  rw [State.firstLink, List.find?_isSome]
  exact ⟨fun ⟨l, _, h⟩ => ⟨l, h⟩, fun ⟨l, h⟩ => ⟨l, List.mem_finRange l, h⟩⟩

theorem DeltaBits.any_iff {d : DeltaBits} : d.any = true ↔ d.stateChanged = true ∨ d.lost = true ∨ d.resync = true := by
  rw [DeltaBits.any, Bool.or_eq_true, Bool.or_eq_true, or_assoc]

theorem DeltaBits.any_eq_false {d : DeltaBits} : d.any = false ↔ d = ⟨false, false, false⟩ := by
  obtain ⟨a, b, c⟩ := d
  simp [DeltaBits.any, and_assoc]

/-- Settles O57: the causes stand in order of priority, so the first enabled pending one is the top one; the reply's word
holds detail, pending set and priority in fields of their own. -/
theorem queryCauseReturnsTheTopCause : Obligations.QueryCauseReturnsTheTopCause := by
  refine ⟨fun s q rest hq hh hc hp => ?_, fun s => ⟨?change, ?congestion, ?low, ?reject, rfl, rfl, rfl, fun _ => rfl,
    ?attention, fun f hf => ?detail, fun l hl hfirst => ?linkDetail, fun l hl hfirst => ?congestionDetail, rfl, rfl, rfl, rfl⟩⟩
  case change => exact State.firstLink_isSome.trans (exists_congr fun l => DeltaBits.any_iff)
  case congestion => exact State.firstLink_isSome.trans (exists_congr fun l => decide_eq_true_iff)
  case low => exact decide_eq_true_iff
  case reject => exact Option.isSome_iff_ne_none
  case attention =>
    simp only [State.attention, List.any_eq_true, Bool.and_eq_true]
    exact ⟨fun ⟨c, _, h⟩ => ⟨c, h⟩, fun ⟨c, h⟩ => ⟨c, mem_causes c, h⟩⟩
  case detail => simp only [State.causeDetail, hf]
  case linkDetail =>
    have e : s.firstLink (fun k => k.delta.any) = some l := find?_finRange_eq_some.mpr
      ⟨Bool.not_eq_false _ ▸ fun h => hl (DeltaBits.any_eq_false.mp h), fun l' hl' => DeltaBits.any_eq_false.mpr (hfirst l' hl')⟩
    simp only [State.causeDetail, e]
  case congestionDetail =>
    have e : s.firstLink s.congested = some l := find?_finRange_eq_some.mpr
      ⟨decide_eq_true hl, fun l' hl' => decide_eq_false (Nat.not_le.mpr (hfirst l' hl'))⟩
    simp only [State.causeDetail, e]
  have hlen : q.payload.length = 0 := by rw [hp]; rfl
  refine ⟨fun c he hpend hfirst => ?_, fun hnone => ?_⟩
  · have htop : (s.withRequests rest).topCause = some c := State.topCause_eq_some (s := s) he hpend hfirst
    have hprio : c.priority < 8 := by cases c <;> decide
    refine ⟨_, congrArg Host.Outcome.next (State.execute_eq_replied hq hh (decide_eq_true hc) ?_),
      causeWord_reads s (s.causeDetail c) hprio⟩
    rw [withLength_of_eq hlen, queryCauseAct, htop]
    have hplace : placed c.priority 0 3 = c.priority := by cases c <;> rfl
    simp only [Control.clearLatched_eq, hplace]
    rfl
  · have htop : (s.withRequests rest).topCause = none := State.topCause_eq_none (s := s) hnone
    obtain ⟨h0, hbits, hdetail⟩ := causeWord_reads s (Config.noCauseDetail s.freeDraws).toNat (p := 0) (by decide)
    refine ⟨_, congrArg Host.Outcome.next (State.execute_eq_replied hq hh (decide_eq_true hc) ?_), h0, hbits,
      hdetail.trans (Nat.mod_eq_of_lt (BitVec.isLt _))⟩
    have hword : s.causeWord (Config.noCauseDetail s.freeDraws).toNat 0 =
        placed (Config.noCauseDetail s.freeDraws).toNat 16 16 + s.pendingBits := Nat.add_zero _
    rw [withLength_of_eq hlen, queryCauseAct, htop, hword]
    rfl

end Sys2Proof.Machine

end

section
/-! The layouts of settings records and pad entries, read back field by field (O43). -/

namespace Sys2Proof.Machine

open Sys2Proof Sys2Proof.Safety

/-! ### Flags of payload words -/

theorem flagBit_word {n lo : Nat} (hlo : lo < 32) {b : Bool} (h : n / 2 ^ lo % 2 = b.toNat) : flagBit (word n) lo = b :=
  getLsbD_word hlo h

theorem flagBit_iff (w : Word32) (lo : Nat) : flagBit w lo = true ↔ w.toNat / 2 ^ lo % 2 = 1 := by
  rw [flagBit, ← BitVec.testBit_toNat, Nat.testBit_eq_decide_div_mod_eq, decide_eq_true_iff]

theorem field_eq (w : Word32) (lo width : Nat) : field w lo width = w.toNat / 2 ^ lo % 2 ^ width := rfl

/-- A field that reaches the top of a payload word. -/
theorem field_top (w : Word32) {lo width : Nat} (h : lo + width = 32) : field w lo width = w.toNat / 2 ^ lo := by
  have hw : w.toNat < 2 ^ lo * 2 ^ width := by rw [← Nat.pow_add, h]; exact w.isLt
  exact Nat.mod_eq_of_lt (Nat.div_lt_of_lt_mul hw)

theorem choice_eq_iff {α : Type} {a b : α} (h : b ≠ a) (p : Bool) : (if p = true then a else b) = a ↔ p = true := by
  cases p <;> simp [h]

/-! ### Curves and windows (R177) -/

/-- The number that a curve word holds. -/
def Curve.number (v : Curve) : Nat :=
  v.segments * 2 ^ 30 + v.knee1 * 2 ^ 20 + v.knee2 * 2 ^ 10 + v.shift2 * 2 ^ 3 + v.shift3

theorem curveWord_eq {v : Curve} (h : CurveInRange v) : v.word = word v.number := by
  obtain ⟨-, hs, -, h1, -, h2, -, h3, -, h4⟩ := h
  rw [Curve.word, placed_of_lt (by omega), placed_of_lt (by omega), placed_of_lt (by omega), placed_of_lt (by omega),
    placed_of_lt (by omega), Nat.pow_zero, Nat.mul_one, Curve.number]

theorem readCurve_word {v : Curve} (h : CurveInRange v) : readCurve v.word = v := by
  rw [curveWord_eq h]
  obtain ⟨-, hs, -, h1, -, h2, -, h3, -, h4⟩ := h
  obtain ⟨segments, knee1, knee2, shift2, shift3⟩ := v
  simp only [readCurve, field_word, Curve.number, Nat.reduceAdd, Nat.reduceLeDiff] at *
  congr 1 <;> omega

/-- The number that a window word holds. -/
def Window.number (w : Window) : Nat := w.curve.bit.toNat * 2 ^ 15 + w.count * 2 ^ 8 + w.start

theorem windowWord_eq {w : Window} (hs : w.start ≤ 95) (hc : w.count ≤ 96) : w.word = word w.number := by
  rw [Window.word, placed_of_lt (by omega), placed_of_lt (by omega), placedFlag, Nat.pow_zero, Nat.mul_one, Window.number]

theorem curveOfBit_bit (v : CurveName) : curveOfBit v.bit = v := by cases v <;> rfl

theorem bit_eq_decide (v : CurveName) : v.bit = decide (v = .b) := by cases v <;> rfl

theorem readWindow_word {w : Window} (hs : w.start ≤ 95) (hc : w.count ≤ 96) : readWindow w.word = w := by
  rw [windowWord_eq hs hc]
  have hb := Bool.toNat_le w.curve.bit
  have hflag : flagBit (word w.number) 15 = w.curve.bit := flagBit_word (by decide) (by rw [Window.number]; omega)
  rw [readWindow, hflag, curveOfBit_bit, field_word _ (by decide), field_word _ (by decide), Window.number]
  obtain ⟨start, count, curve⟩ := w
  congr 1 <;> simp only at * <;> omega

/-! ### The words of a settings record (R177) -/

theorem settingsWords_window (c : Settings) (j : Fin 8) : c.words[4 + j.val]? = some c.windows[j].word := by
  have hlen : ([word (placed c.margin 16 16 + placed c.span 0 3),
      word (placed (BitVec.ofInt 16 c.baseline).toNat 16 16 + placedFlag (decide (c.policy = .drop)) 15 +
        placed c.mergeGap 8 4 + placed c.post 4 4 + placed c.pre 0 4),
      c.curveA.word, c.curveB.word] ++ c.windows.toList.map Window.word).length = 12 := by simp
  rw [Settings.words, List.getElem?_append_left (by omega), List.getElem?_append_right (by simp)]
  simp

theorem settingsWords_last (c : Settings) : c.words[12]? =
    some (word (placedFlag (decide (c.order = .descending)) 31 + placed c.rowTotal 24 7 + placed c.expected.toNat 0 24)) := by
  simp [Settings.words]

/-- The numbers that the first, second and last word of a settings record hold. -/
def Settings.number0 (c : Settings) : Nat := c.margin * 2 ^ 16 + c.span
def Settings.number1 (c : Settings) : Nat :=
  (BitVec.ofInt 16 c.baseline).toNat * 2 ^ 16 + (decide (c.policy = .drop)).toNat * 2 ^ 15 + c.mergeGap * 2 ^ 8 +
    c.post * 2 ^ 4 + c.pre
def Settings.number12 (c : Settings) : Nat :=
  (decide (c.order = .descending)).toNat * 2 ^ 31 + c.rowTotal * 2 ^ 24 + c.expected.toNat

theorem settingsWords_0 {c : Settings} (h : InRange c) : c.words[0]? = some (word c.number0) := by
  have h1 := h.margin
  have h2 := h.span
  refine congrArg (fun n => some (word n)) ?_
  rw [placed_of_lt (by omega), placed_of_lt (by omega), Nat.pow_zero, Nat.mul_one, Settings.number0]

theorem settingsWords_1 {c : Settings} (h : InRange c) : c.words[1]? = some (word c.number1) := by
  have h1 := h.mergeGap
  have h2 := h.post
  have h3 := h.pre
  refine congrArg (fun n => some (word n)) ?_
  rw [placed_of_lt (BitVec.isLt _), placed_of_lt (by omega), placed_of_lt (by omega), placed_of_lt (by omega), Nat.pow_zero,
    Nat.mul_one, placedFlag, Settings.number1]

theorem settingsWords_12 {c : Settings} (h : InRange c) : c.words[12]? = some (word c.number12) := by
  have h1 := h.rowTotal
  rw [settingsWords_last, placed_of_lt (by omega), placed_of_lt (BitVec.isLt _), placedFlag, Nat.pow_zero, Nat.mul_one,
    Settings.number12]

theorem toInt_ofInt_baseline {b : Int} (h : -512 ≤ b ∧ b ≤ 511) : (BitVec.ofInt 16 b).toInt = b := by
  rw [BitVec.toInt_ofInt, Int.bmod_def]
  omega

/-- A record in range is read back from its words. -/
theorem readSettings_words {c : Settings} (h : InRange c) : readSettings c.words = c := by
  have hw : ∀ j : Fin 8, readWindow (c.words[4 + j.val]?.getD 0) = c.windows[j] := by
    intro j
    obtain ⟨hs, hc⟩ := h.windows j
    rw [settingsWords_window, Option.getD_some, readWindow_word hs hc]
  have hv : (Vector.ofFn fun j : Fin 8 => readWindow (c.words[4 + j.val]?.getD 0)) = c.windows := by
    refine Vector.ext fun i hi => ?_
    rw [Vector.getElem_ofFn]
    exact hw ⟨i, hi⟩
  have h2 : c.words[2]? = some c.curveA.word := rfl
  have h3 : c.words[3]? = some c.curveB.word := rfl
  have hb := (BitVec.ofInt 16 c.baseline).isLt
  have hp := Bool.toNat_le (decide (c.policy = .drop))
  have ho := Bool.toNat_le (decide (c.order = .descending))
  have he := c.expected.isLt
  have hspan := h.span
  have hmargin := h.margin
  have hpre := h.pre
  have hpost := h.post
  have hgap := h.mergeGap
  have htotal := h.rowTotal
  have hpolicy : flagBit (word c.number1) 15 = decide (c.policy = .drop) :=
    flagBit_word (by decide) (by rw [Settings.number1]; omega)
  have horder : flagBit (word c.number12) 31 = decide (c.order = .descending) :=
    flagBit_word (by decide) (by rw [Settings.number12]; omega)
  have hbase : field (word c.number1) 16 16 = (BitVec.ofInt 16 c.baseline).toNat := by
    rw [field_word _ (by decide), Settings.number1]
    omega
  have hexp : BitVec.ofNat 24 (word c.number12).toNat = c.expected := by
    refine BitVec.eq_of_toNat_eq ?_
    rw [BitVec.toNat_ofNat, word, BitVec.toNat_ofNat, Settings.number12]
    omega
  simp only [readSettings, settingsWords_0 h, settingsWords_1 h, settingsWords_12 h, h2, h3, Option.getD_some, hv, hpolicy,
    horder, hbase, hexp, readCurve_word h.curveA, readCurve_word h.curveB, BitVec.ofNat_toNat, BitVec.setWidth_eq,
    toInt_ofInt_baseline h.baseline]
  have e0 : field (word c.number0) 0 3 = c.span := by rw [field_word _ (by decide), Settings.number0]; omega
  have e1 : field (word c.number0) 16 16 = c.margin := by rw [field_word _ (by decide), Settings.number0]; omega
  have e2 : field (word c.number1) 0 4 = c.pre := by rw [field_word _ (by decide), Settings.number1]; omega
  have e3 : field (word c.number1) 4 4 = c.post := by rw [field_word _ (by decide), Settings.number1]; omega
  have e4 : field (word c.number1) 8 4 = c.mergeGap := by rw [field_word _ (by decide), Settings.number1]; omega
  have e5 : field (word c.number12) 24 7 = c.rowTotal := by rw [field_word _ (by decide), Settings.number12]; omega
  have e6 : (if decide (c.policy = .drop) = true then SuspectPolicy.drop else .keep) = c.policy := by
    cases c.policy <;> rfl
  have e7 : (if decide (c.order = .descending) = true then RowOrder.descending else .ascending) = c.order := by
    cases c.order <;> rfl
  rw [e0, e1, e2, e3, e4, e5, e6, e7]

/-! ### The limits of a settings record (R133, R135) -/

theorem limit_of_range {lo hi v : Nat} (h1 : lo ≤ v) (h2 : v ≤ hi) : limit lo hi v = v := by
  simp only [limit]
  omega

theorem curve_limited_of_inRange {v : Curve} (h : CurveInRange v) : v.limited = v := by
  obtain ⟨h1, h1', h2, h2', h3, h3', h4, h4', h5, h5'⟩ := h
  rw [Curve.limited, limit_of_range h1 h1', limit_of_range h2 h2', limit_of_range h3 h3', limit_of_range h4 h4',
    limit_of_range h5 h5']

theorem limited_windows (c : Settings) (j : Fin 8) : c.limited.windows[j] = c.windows[j].limited :=
  Vector.getElem_ofFn j.isLt

theorem limited_of_inRange {c : Settings} (h : InRange c) : c.limited = c := by
  have hv : c.limited.windows = c.windows := by
    refine Vector.ext fun i hi => ?_
    obtain ⟨hs, hc⟩ := h.windows ⟨i, hi⟩
    refine (limited_windows c ⟨i, hi⟩).trans ?_
    rw [Window.limited, Nat.min_eq_right hs, Nat.min_eq_right hc]
    rfl
  have hb : max (-512) (min 511 c.baseline) = c.baseline := by
    obtain ⟨h1, h2⟩ := h.baseline
    omega
  have e : c.limited = { c with
      span := min 4 c.span, margin := min 511 c.margin, baseline := max (-512) (min 511 c.baseline), pre := min 3 c.pre
      post := min 7 c.post, mergeGap := min 3 c.mergeGap, curveA := c.curveA.limited, curveB := c.curveB.limited
      windows := c.limited.windows, rowTotal := min 96 c.rowTotal } := rfl
  rw [e, hv, hb, curve_limited_of_inRange h.curveA, curve_limited_of_inRange h.curveB, Nat.min_eq_right h.span,
    Nat.min_eq_right h.margin, Nat.min_eq_right h.pre, Nat.min_eq_right h.post, Nat.min_eq_right h.mergeGap,
    Nat.min_eq_right h.rowTotal]

theorem limit_eq_ite {lo hi : Nat} (h : lo ≤ hi) (v : Nat) : limit lo hi v = if v < lo then lo else if hi < v then hi else v := by
  simp only [limit]
  split
  · omega
  · split <;> omega

theorem limit_one_eq_ite {hi : Nat} (h : 1 ≤ hi) (v : Nat) :
    limit 1 hi v = if v = 0 then 1 else if hi < v then hi else v := by
  rw [limit_eq_ite h]
  simp only [Nat.lt_one_iff]

theorem min_eq_ite_lt (hi v : Nat) : min hi v = if hi < v then hi else v := by
  split <;> omega

/-! ### Pad entries (R177) -/

/-- The number that the first word of a pad entry holds. -/
def PadEntry.number (e : PadEntry) : Nat :=
  e.nosuppress.toNat * 2 ^ 28 + e.masked.toNat * 2 ^ 27 + e.row.toNat * 2 ^ 20 + e.threshold.toNat * 2 ^ 12 +
    e.pedestal.toNat

theorem padWords_eq (e : PadEntry) : e.words = [word e.number, BitVec.ofNat 32 e.pad.toNat] := by
  rw [PadEntry.words, word_placed_zero e.pad.isLt, placed_of_lt e.row.isLt, placed_of_lt e.threshold.isLt,
    placed_of_lt e.pedestal.isLt, placedFlag, placedFlag, Nat.pow_zero, Nat.mul_one, PadEntry.number]

theorem readEntry_words (e : PadEntry) : readEntry (word e.number) (BitVec.ofNat 32 e.pad.toNat) = e := by
  obtain ⟨pedestal, threshold, row, pad, masked, nosuppress⟩ := e
  have h1 := pedestal.isLt
  have h2 := threshold.isLt
  have h3 := row.isLt
  have h4 := pad.isLt
  have h5 := Bool.toNat_le masked
  have h6 := Bool.toNat_le nosuppress
  simp only [readEntry, field_word, PadEntry.number, Nat.reduceAdd, Nat.reduceLeDiff]
  rw [flagBit_word (b := masked) (by decide) (by omega), flagBit_word (b := nosuppress) (by decide) (by omega)]
  congr 1 <;> refine BitVec.eq_of_toNat_eq ?_ <;> rw [BitVec.toNat_ofNat]
  · omega
  · omega
  · omega
  · rw [field_eq, BitVec.toNat_ofNat]
    omega

theorem readEntries_words (es : List PadEntry) : readEntries (es.flatMap PadEntry.words) = es := by
  induction es with
  | nil => rfl
  | cons e es ih => rw [List.flatMap_cons, padWords_eq, List.cons_append, List.cons_append, List.nil_append, readEntries,
      readEntry_words, ih]

/-- Settles O43: each word is the sum of its fields at their places, so that each field is read back by itself. -/
theorem recordsReadBack : Obligations.RecordsReadBack := by
  refine ⟨fun c h => ⟨length_settingsWords c, readSettings_words h, limited_of_inRange h⟩, inRange_limited,
    fun es => ⟨readEntries_words es, fun c h => ⟨settingsWords_0 h, settingsWords_1 h, ?curves, fun j => ?windows, settingsWords_12 h⟩,
    fun ws _ => ?read, fun c => ?limits, padWords_eq⟩⟩
  case curves =>
    rintro k v (⟨rfl, rfl⟩ | ⟨rfl, rfl⟩)
    · exact congrArg some (curveWord_eq h.curveA)
    · exact congrArg some (curveWord_eq h.curveB)
  case windows =>
    obtain ⟨hs, hc⟩ := h.windows j
    rw [settingsWords_window, windowWord_eq hs hc, Window.number, bit_eq_decide]
    rfl
  case read =>
    intro w c
    have hfield : ∀ k lo width, field (ws[k]?.getD 0) lo width = w k / 2 ^ lo % 2 ^ width := fun _ _ _ => rfl
    have hzero : ∀ k width, field (ws[k]?.getD 0) 0 width = w k % 2 ^ width := fun k width => by
      rw [hfield, Nat.pow_zero, Nat.div_one]
    have htop : ∀ k lo width, lo + width = 32 → field (ws[k]?.getD 0) lo width = w k / 2 ^ lo := fun k _ _ => field_top _
    have hflag : ∀ k lo, flagBit (ws[k]?.getD 0) lo = true ↔ w k / 2 ^ lo % 2 = 1 := fun k lo => flagBit_iff _ lo
    have hcurve : ∀ k, (readCurve (ws[k]?.getD 0)).segments = w k / 2 ^ 30 ∧
        (readCurve (ws[k]?.getD 0)).knee1 = w k / 2 ^ 20 % 1024 ∧ (readCurve (ws[k]?.getD 0)).knee2 = w k / 2 ^ 10 % 1024 ∧
        (readCurve (ws[k]?.getD 0)).shift2 = w k / 2 ^ 3 % 8 ∧ (readCurve (ws[k]?.getD 0)).shift3 = w k % 8 := fun k =>
      ⟨htop k 30 2 rfl, hfield k 20 10, hfield k 10 10, hfield k 3 3, hzero k 3⟩
    refine ⟨htop 0 16 16 rfl, hzero 0 3, congrArg (fun n => (BitVec.ofNat 16 n).toInt) (htop 1 16 16 rfl), ?_, hfield 1 8 4,
      hfield 1 4 4, hzero 1 4, ?_, fun j => ?_, ?_, hfield 12 24 7, rfl⟩
    · exact (choice_eq_iff (by decide) _).trans (hflag 1 15)
    · rintro k v (⟨rfl, rfl⟩ | ⟨rfl, rfl⟩)
      · exact hcurve 2
      · exact hcurve 3
    · have e : c.windows[j] = readWindow (ws[4 + j.val]?.getD 0) := Vector.getElem_ofFn j.isLt
      rw [e]
      exact ⟨(choice_eq_iff (by decide) _).trans (hflag _ 15), hfield _ 8 7, hzero _ 7⟩
    · have htop12 : w 12 / 2 ^ 31 = 1 ↔ w 12 / 2 ^ 31 % 2 = 1 := by
        have hlt : w 12 < 2 ^ 32 := (ws[12]?.getD 0).isLt
        omega
      exact ((choice_eq_iff (by decide) _).trans (hflag 12 31)).trans htop12.symm
  case limits =>
    intro d knee shift
    refine ⟨min_eq_ite_lt .., min_eq_ite_lt .., ?_, min_eq_ite_lt .., min_eq_ite_lt .., min_eq_ite_lt .., rfl, ?_,
      fun j => ?_, min_eq_ite_lt .., rfl, rfl⟩
    · show max (-512) (min 511 c.baseline) = _
      split
      · omega
      · split <;> omega
    · have hv : ∀ v : Curve, v.limited.segments = (if v.segments = 0 then 1 else if 3 < v.segments then 3 else v.segments) ∧
          v.limited.knee1 = knee v.knee1 ∧ v.limited.knee2 = knee v.knee2 ∧ v.limited.shift2 = shift v.shift2 ∧
          v.limited.shift3 = shift v.shift3 := fun v =>
        ⟨limit_one_eq_ite (by decide) _, limit_one_eq_ite (by decide) _, limit_one_eq_ite (by decide) _,
          limit_one_eq_ite (by decide) _, limit_one_eq_ite (by decide) _⟩
      rintro v v' (⟨rfl, rfl⟩ | ⟨rfl, rfl⟩)
      · exact hv _
      · exact hv _
    · rw [limited_windows]
      exact ⟨min_eq_ite_lt .., min_eq_ite_lt .., rfl⟩

end Sys2Proof.Machine

end

section
/-! The lane words and the payload words of uplink frames, field by field (O48). -/

namespace Sys2Proof.Machine

open Sys2Proof Sys2Proof.Safety

/-! ### Lane words (R116, R172) -/

theorem halves_getElem? (ws : List Word32) (k : Nat) :
    (halves ws)[2 * k]? = ws[k]?.map highHalf ∧ (halves ws)[2 * k + 1]? = ws[k]?.map lowHalf := by
  induction ws generalizing k with
  | nil => exact ⟨rfl, rfl⟩
  | cons w ws ih =>
    cases k with
    | zero => exact ⟨rfl, rfl⟩
    | succ k => exact ih k

theorem length_halves (ws : List Word32) : (halves ws).length = 2 * ws.length := by
  induction ws with
  | nil => rfl
  | cons w ws ih =>
    simp only [halves, List.length_cons, ih]
    omega

theorem frameCode_lt (kind : FrameKind) : kind.code < 2 ^ 4 := by cases kind <;> decide

theorem uplinkHeader_eq (kind : FrameKind) (attention : Bool) {length : Nat} (h : length ≤ 255) (kindField : Word16) :
    uplinkHeader kind attention length kindField = BitVec.ofNat 32
      (kind.code * 2 ^ 28 + attention.toNat * 2 ^ 27 + length * 2 ^ 16 + kindField.toNat) := by
  rw [uplinkHeader, placed_of_lt (frameCode_lt kind), placed_of_lt (by omega), placed_of_lt kindField.isLt, placedFlag,
    Nat.pow_zero, Nat.mul_one, word]

/-! ### HEAD payloads (R118, R173) -/

theorem slotFlags_bits (f : SlotFlags) :
    f.bits = f.partialStart.toNat * 2 ^ 20 + f.poolExhausted.toNat * 2 ^ 19 + f.forced.toNat * 2 ^ 18 +
      f.marginCut.toNat * 2 ^ 17 + f.incomplete.toNat * 2 ^ 16 := by
  simp only [SlotFlags.bits, placedFlag]
  omega

theorem linkFlags_bits (f : LinkFlags) :
    f.bits = f.marginAbsent.toNat * 2 ^ 25 + f.checkError.toNat * 2 ^ 24 + f.countMismatch.toNat * 2 ^ 23 +
      f.feTruncated.toNat * 2 ^ 22 + f.partialShare.toNat * 2 ^ 21 + f.held.toNat * 2 ^ 20 + f.notReady.toNat * 2 ^ 19 +
      f.ingressLoss.toNat * 2 ^ 18 + f.lost.toNat * 2 ^ 17 + f.gap.toNat * 2 ^ 16 := by
  simp only [LinkFlags.bits, placedFlag]
  omega

theorem pulseFlags_bits (f : PulseFlags) :
    f.bits = f.trimmed.toNat * 16 + f.saturated.toNat * 8 + f.suspect.toNat * 4 + f.piece.toNat * 2 + f.margin.toNat := by
  simp only [PulseFlags.bits, placedFlag]
  omega

theorem verdictCode_lt (v : Verdict) : v.code < 2 ^ 2 := by cases v <;> decide

/-- Pairs laid out one after another: the `i`-th pair stands at `2 i`. -/
theorem flatMap_pairs_getElem? {α β : Type} {f : α → List β} (a b : α → β) (hf : ∀ x, f x = [a x, b x]) (xs : List α)
    (i : Nat) : (xs.flatMap f)[2 * i]? = xs[i]?.map a ∧ (xs.flatMap f)[2 * i + 1]? = xs[i]?.map b := by
  induction xs generalizing i with
  | nil => exact ⟨rfl, rfl⟩
  | cons x xs ih =>
    rw [List.flatMap_cons, hf]
    cases i with
    | zero => exact ⟨rfl, rfl⟩
    | succ i => exact ih i

theorem headPayload_link (t : Slot) (order : RowOrder) (l : LinkId) :
    (headPayload t order)[3 + 2 * l.val]? =
        some (word (t.links[l].flags.bits + placed l.val 8 5 + placed t.links[l].verdict.code 0 2)) ∧
      (headPayload t order)[4 + 2 * l.val]? =
        some (word (placed t.links[l].pulseCount 16 16 + placed t.links[l].droppedCount 0 16)) := by
  obtain ⟨h1, h2⟩ := flatMap_pairs_getElem? (f := fun k : LinkId => linkEntry k t.links[k]) _ _ (fun _ => rfl)
    (List.finRange 24) l.val
  have hl : (List.finRange 24)[l.val]? = some l := by simp
  rw [hl, Option.map_some] at h1 h2
  have e : ∀ n, (headPayload t order)[n + 3]? =
      ((List.finRange 24).flatMap fun k => linkEntry k t.links[k])[n]? := fun n => by
    simp only [headPayload, List.cons_append, List.nil_append, List.getElem?_cons_succ]
  rw [Nat.add_comm 3, show 4 + 2 * l.val = 2 * l.val + 1 + 3 by omega, e, e]
  exact ⟨h1, h2⟩

/-! ### Codes of pulses (R174) -/

/-- The bytes of a word, highest first. -/
theorem word_byte {n a b c d : Nat} (ha : a ≤ 255) (hb : b ≤ 255) (hc : c ≤ 255) (hd : d ≤ 255)
    (hn : n = a * 2 ^ 24 + b * 2 ^ 16 + c * 2 ^ 8 + d) {j : Nat} (hj : j < 4) :
    (word n).toNat / 2 ^ (24 - 8 * j) % 256 = [a, b, c, d][j]?.getD 0 := by
  have hlt : (word n).toNat = n := Nat.mod_eq_of_lt (by omega)
  rw [hlt, hn]
  match j, hj with
  | 0, _ | 1, _ | 2, _ | 3, _ => simp; omega

theorem placed_code {a : Nat} (h : a ≤ 255) (lo : Nat) : placed a lo 8 = a * 2 ^ lo := placed_of_lt (by omega) lo

/-- Four codes a word, the first in the highest byte, padded with 0. -/
theorem codeWords_byte (cs : List Nat) (hcs : ∀ c ∈ cs, c ≤ 255) (k : Nat) (hk : k < 4 * ((cs.length + 3) / 4)) :
    ∃ w, (codeWords cs)[k / 4]? = some w ∧ w.toNat / 2 ^ (24 - 8 * (k % 4)) % 256 = cs[k]?.getD 0 := by
  have hj : k % 4 < 4 := Nat.mod_lt _ (by decide)
  induction cs using codeWords.induct generalizing k with
  | case1 => simp at hk
  | case2 a =>
    have ha := hcs a (by simp)
    have hk4 : k < 4 := by simpa using hk
    refine ⟨_, by rw [Nat.div_eq_of_lt hk4]; rfl, ?_⟩
    rw [placed_code ha, word_byte (b := 0) (c := 0) (d := 0) ha (by decide) (by decide) (by decide) (by omega) hj,
      Nat.mod_eq_of_lt hk4]
    match k, hk4 with
    | 0, _ | 1, _ | 2, _ | 3, _ => rfl
  | case3 a b =>
    have ha := hcs a (by simp)
    have hb := hcs b (by simp)
    have hk4 : k < 4 := by simpa using hk
    refine ⟨_, by rw [Nat.div_eq_of_lt hk4]; rfl, ?_⟩
    rw [placed_code ha, placed_code hb, word_byte (c := 0) (d := 0) ha hb (by decide) (by decide) (by omega) hj,
      Nat.mod_eq_of_lt hk4]
    match k, hk4 with
    | 0, _ | 1, _ | 2, _ | 3, _ => rfl
  | case4 a b c =>
    have ha := hcs a (by simp)
    have hb := hcs b (by simp)
    have hc := hcs c (by simp)
    have hk4 : k < 4 := by simpa using hk
    refine ⟨_, by rw [Nat.div_eq_of_lt hk4]; rfl, ?_⟩
    rw [placed_code ha, placed_code hb, placed_code hc, word_byte (d := 0) ha hb hc (by decide) (by omega) hj,
      Nat.mod_eq_of_lt hk4]
    match k, hk4 with
    | 0, _ | 1, _ | 2, _ | 3, _ => rfl
  | case5 a b c d rest ih =>
    have ha := hcs a (by simp)
    have hb := hcs b (by simp)
    have hc := hcs c (by simp)
    have hd := hcs d (by simp)
    by_cases hk4 : k < 4
    · refine ⟨_, by rw [Nat.div_eq_of_lt hk4]; rfl, ?_⟩
      rw [placed_code ha, placed_code hb, placed_code hc, placed_code hd, word_byte ha hb hc hd (by omega) hj,
        Nat.mod_eq_of_lt hk4]
      match k, hk4 with
      | 0, _ | 1, _ | 2, _ | 3, _ => rfl
    · obtain ⟨j, rfl⟩ := Nat.exists_eq_add_of_le' (Nat.not_lt.mp hk4)
      have hj4 : j < 4 * ((rest.length + 3) / 4) := by
        simp only [List.length_cons] at hk
        omega
      have hrest : ∀ c ∈ rest, c ≤ 255 := fun c hc => hcs c (by simp [hc])
      rw [Nat.add_div_right _ (by decide), Nat.add_mod_right]
      exact ih hrest j hj4 (Nat.mod_lt _ (by decide))

/-- Settles O48: every header and payload word is the sum of its fields at their places. -/
theorem uplinkFrameWords : Obligations.UplinkFrameWords := by
  refine ⟨fun kind attention kindField payload n hlen => ?frame, fun t runStart cfg => ?mark, fun t order hspan hmargin hp => ?head,
    fun e t he => ?tail, fun n continued row ps hn => ?row, fun p hs hlen hcodes => ?pulse⟩
  case frame =>
    intro code f
    have hcode : code = kind.code := by cases kind <;> rfl
    refine ⟨rfl, rfl, rfl, ?_, (BitVec.ofNat_toNat 32 (crc (halves (f.header :: payload)))).symm, ?_, ?_, fun k w hw => ?_, rfl, rfl⟩
    · rw [hcode]
      exact uplinkHeader_eq kind attention hlen kindField
    · rw [UplinkFrame.laneWords, List.length_cons, List.length_map, length_halves]
      simp only [List.length_cons, List.length_append, List.length_nil, f, uplinkFrame]
      omega
    · rw [hcode]
      rfl
    · obtain ⟨h1, h2⟩ := halves_getElem? (f.header :: payload ++ [f.check]) k
      rw [hw, Option.map_some] at h1 h2
      have e : ∀ i, f.laneWords[i + 1]? = (halves (f.header :: payload ++ [f.check]))[i]?.map .data := fun i =>
        List.getElem?_map
      rw [show 2 * k + 2 = 2 * k + 1 + 1 from rfl, e, e, h1, h2]
      exact ⟨rfl, rfl⟩
  case mark =>
    rw [epochMarkPayload, placed_of_lt t.first.isLt, placed_of_lt t.epoch.isLt, placedFlag, Nat.pow_zero, Nat.mul_one, word]
  case head =>
    intro ws
    refine ⟨length_headPayload .., congrArg some ?_, congrArg some ?_, congrArg some (word_placed_zero hp),
      fun l hpc hdc => ?_⟩
    · rw [placed_of_lt t.first.isLt, placed_of_lt t.epoch.isLt, placed_of_lt (by omega), placedFlag, Nat.pow_zero,
        Nat.mul_one, word]
    · rw [placed_of_lt (by omega), slotFlags_bits, Nat.pow_zero, Nat.mul_one, word]
    · intro r verdict
      have hv : verdict = r.verdict.code := by
        simp only [verdict]
        cases r.verdict <;> rfl
      obtain ⟨h1, h2⟩ := headPayload_link t order l
      rw [hv]
      refine ⟨h1.trans ?_, h2.trans ?_⟩
      · rw [placed_of_lt (by omega), placed_of_lt (verdictCode_lt _), linkFlags_bits, Nat.pow_zero, Nat.mul_one, word]
      · rw [placed_of_lt (by omega), placed_of_lt (by omega), Nat.pow_zero, Nat.mul_one, word]
  case tail =>
    rw [tailPayload, word_placed_zero (by omega)]
    rfl
  case row =>
    rw [rowPayload, placed_of_lt (by omega), placed_of_lt (by omega), placedFlag, Nat.pow_zero, Nat.mul_one, word]
  case pulse =>
    intro ws
    refine ⟨length_pulseWords ⟨p, 0, []⟩, congrArg some ?_, congrArg some ?_, fun k hk => ?_⟩
    · rw [placed_of_lt p.pad.isLt, placed_of_lt p.channel.isLt, placed_of_lt (by omega), pulseFlags_bits, word]
      simp only [Nat.add_assoc]
    · rw [placed_of_lt hs, placed_of_lt (by omega), Nat.pow_zero, Nat.mul_one, word]
    · rw [Nat.add_comm 2]
      exact codeWords_byte p.codes hcodes k hk

end Sys2Proof.Machine

end

section
/-! The execution of a request of known length, and the pad table that requests read and write. -/

namespace Sys2Proof.Machine

open Sys2Proof Sys2Proof.Safety

/-! ### The execution of a request of fixed length (R155, R156) -/

theorem next_execute {s u : State} {code : BitVec 8} {act : Request → State → State × Answer} {q : Request}
    {rest rest' : List Request} {st : Status} {clamped : Bool} {words : List Word32} (hq : s.control.queue = q :: rest)
    (hh : s.control.holder = none) (hc : q.code = code)
    (hact : act q (s.withRequests rest) = (u.withRequests rest', ⟨st, clamped, words⟩)) :
    (Host.Outcome.next (s.execute (fun k => decide (k = code)) act) : Host.Outcome State Fault Refusal) =
      .next (replied q rest' st clamped words u) :=
  congrArg Host.Outcome.next (State.execute_eq_replied hq hh (decide_eq_true hc) hact)

theorem next_execute_length {s u : State} {code : BitVec 8} {n : Nat} {act : Request → State → State × Answer} {q : Request}
    {rest rest' : List Request} {st : Status} {clamped : Bool} {words : List Word32} (hq : s.control.queue = q :: rest)
    (hh : s.control.holder = none) (hc : q.code = code) (hlen : q.payload.length = n)
    (hact : act q (s.withRequests rest) = (u.withRequests rest', ⟨st, clamped, words⟩)) :
    (Host.Outcome.next (s.execute (fun k => decide (k = code)) (withLength n act)) : Host.Outcome State Fault Refusal) =
      .next (replied q rest' st clamped words u) :=
  next_execute hq hh hc ((withLength_of_eq hlen _).trans hact)

theorem length_of_payload {q : Request} {ws : List Word32} (h : q.payload = ws) : q.payload.length = ws.length := by rw [h]

theorem arg_of_payload {q : Request} {w : Word32} {ws : List Word32} (h : q.payload = w :: ws) : q.arg = w := by
  rw [Request.arg, h]
  rfl

theorem banksBusy_of_none {s : State} (hc : s.settings.commit = none) (hn : s.padTable.copyNext = none) : s.banksBusy = false := by
  rw [State.banksBusy, hc, hn]
  rfl

theorem field_low (w : Word32) (width : Nat) : field w 0 width = w.toNat % 2 ^ width := by
  rw [field, Nat.pow_zero, Nat.div_one]

/-! ### Ranges and entries of the pad table (R106, R107) -/

theorem padFirst_eq (w : Word32) : padFirst w = w.toNat % 4096 := field_low w 12

theorem padRangeValid_iff (w : Word32) : padRangeValid w = true ↔ 1 ≤ w.toNat / 65536 % 64 ∧ w.toNat / 65536 % 64 ≤ 32 ∧
    w.toNat % 4096 + w.toNat / 65536 % 64 ≤ 3840 := by
  have hc : padCount w = w.toNat / 65536 % 64 := rfl
  simp only [padRangeValid, padFirst_eq, hc, Bool.and_eq_true, decide_eq_true_eq]
  refine ⟨fun ⟨⟨⟨h1, h2⟩, _⟩, h4⟩ => ⟨h1, h2, h4⟩, fun ⟨h1, h2, h4⟩ => ⟨⟨⟨h1, h2⟩, by omega⟩, h4⟩⟩

/-- Entries laid out two words each: the `k`-th entry's words stand at `2 k`. -/
theorem entryWords_drop (es : List PadEntry) (k : Nat) :
    (es.flatMap PadEntry.words).drop (2 * k) = (es.drop k).flatMap PadEntry.words := by
  induction es generalizing k with
  | nil => simp
  | cons e es ih =>
    cases k with
    | zero => rfl
    | succ k => exact ih k

theorem entryWords_take {es : List PadEntry} {k : Nat} {e : PadEntry} (h : es[k]? = some e) :
    ((es.flatMap PadEntry.words).drop (2 * k)).take 2 = e.words := by
  obtain ⟨hk, rfl⟩ := List.getElem?_eq_some_iff.mp h
  rw [entryWords_drop, List.drop_eq_getElem_cons hk]
  rfl

theorem length_entryWords (es : List PadEntry) : (es.flatMap PadEntry.words).length = 2 * es.length := by
  induction es with
  | nil => rfl
  | cons e es ih =>
    rw [List.flatMap_cons, List.length_append, ih, List.length_cons, padWords_eq]
    simp only [List.length_cons, List.length_nil]
    omega

theorem length_readEntries (ws : List Word32) : (readEntries ws).length = ws.length / 2 := by
  induction ws using readEntries.induct with
  | case1 a b ws ih =>
    simp only [readEntries, List.length_cons, ih]
    omega
  | case2 ws h =>
    match ws, h with
    | [], _ => rfl
    | [_], _ => simp [readEntries]
    | a :: b :: ws, h => exact absurd rfl (h a b ws)

theorem readEntries_getElem? {ws : List Word32} {k : Nat} {a b : Word32} (ha : ws[2 * k]? = some a)
    (hb : ws[2 * k + 1]? = some b) : (readEntries ws)[k]? = some (readEntry a b) := by
  induction ws using readEntries.induct generalizing k with
  | case1 x y ws ih =>
    cases k with
    | zero =>
      obtain rfl := Option.some.inj ha
      obtain rfl := Option.some.inj hb
      rfl
    | succ k => exact ih ha hb
  | case2 ws h =>
    match ws, h with
    | [], _ => cases ha
    | [_], _ => cases hb
    | a :: b :: ws, h => exact absurd rfl (h a b ws)

theorem readEntry_eq (a b : Word32) : readEntry a b =
    { pedestal := BitVec.ofNat 12 a.toNat
      threshold := BitVec.ofNat 8 (a.toNat / 2 ^ 12)
      row := BitVec.ofNat 7 (a.toNat / 2 ^ 20)
      pad := BitVec.ofNat 8 b.toNat
      masked := a.getLsbD 27
      nosuppress := a.getLsbD 28 } := by
  have hfield : ∀ (w : Word32) (lo width : Nat), BitVec.ofNat width (field w lo width) = BitVec.ofNat width (w.toNat / 2 ^ lo) :=
    fun w lo width => BitVec.eq_of_toNat_eq (by rw [BitVec.toNat_ofNat, BitVec.toNat_ofNat, field, Nat.mod_mod])
  simp only [readEntry, hfield, Nat.pow_zero, Nat.div_one]
  rfl

theorem other_ne (bank : Bank) : bank.other ≠ bank := by cases bank <;> decide

theorem PadTable.entries_write (bank : Bank) (j : Fin 3840) (e : PadEntry) (t : PadTable) (i : Fin 3840) :
    ((t.write bank j e).entries bank)[i] = if i = j then e else (t.entries bank)[i] := by
  have h : ∀ v : Vector PadEntry 3840, (v.set j.val e j.isLt)[i] = if i = j then e else v[i] := by
    intro v
    refine (Vector.getElem_set ..).trans ?_
    simp only [Fin.ext_iff, eq_comm]
    rfl
  cases bank <;> exact h _

theorem PadTable.entries_write_ne {bank bank' : Bank} (h : bank' ≠ bank) (i : Fin 3840) (e : PadEntry) (t : PadTable) :
    (t.write bank i e).entries bank' = t.entries bank' := by
  cases bank <;> cases bank' <;> first | rfl | exact absurd rfl h

theorem PadTable.write_frame (bank : Bank) (i : Fin 3840) (e : PadEntry) (t : PadTable) :
    (t.write bank i e).active = t.active ∧ (t.write bank i e).stale = t.stale ∧ (t.write bank i e).copyNext = t.copyNext := by
  cases bank <;> exact ⟨rfl, rfl, rfl⟩

/-- What writing a list of entries leaves unchanged. -/
theorem PadTable.writeFrom_frame (bank : Bank) (first : Nat) (es : List PadEntry) (t : PadTable) :
    (∀ bank', bank' ≠ bank → (t.writeFrom bank first es).entries bank' = t.entries bank') ∧
      (t.writeFrom bank first es).active = t.active ∧ (t.writeFrom bank first es).stale = t.stale := by
  induction es generalizing first t with
  | nil => exact ⟨fun _ _ => rfl, rfl, rfl⟩
  | cons e es ih =>
    obtain ⟨h1, h2, h3⟩ := ih (first + 1) (if h : first < 3840 then t.write bank ⟨first, h⟩ e else t)
    rw [PadTable.writeFrom]
    split at h1
    · next h =>
      rw [dif_pos h] at h2 h3 ⊢
      obtain ⟨ha, hs, -⟩ := t.write_frame bank ⟨first, h⟩ e
      exact ⟨fun bank' hb => (h1 bank' hb).trans (t.entries_write_ne hb ..), h2.trans ha, h3.trans hs⟩
    · next h =>
      rw [dif_neg h] at h2 h3 ⊢
      exact ⟨h1, h2, h3⟩

/-- A list of entries written: each stands at its index from the first on. -/
theorem PadTable.writeFrom_entries (bank : Bank) (first : Nat) (es : List PadEntry) (t : PadTable) (i : Fin 3840) :
    ((t.writeFrom bank first es).entries bank)[i] =
      if first ≤ i.val then (es[i.val - first]?).getD (t.entries bank)[i] else (t.entries bank)[i] := by
  induction es generalizing first t with
  | nil =>
    rw [List.getElem?_nil, Option.getD_none, ite_self]
    rfl
  | cons e es ih =>
    rw [PadTable.writeFrom, ih]
    have hi := i.isLt
    have hset : ∀ h : first < 3840, ((t.write bank ⟨first, h⟩ e).entries bank)[i] =
        if i.val = first then e else (t.entries bank)[i] := fun h =>
      (PadTable.entries_write ..).trans (by simp only [Fin.ext_iff])
    obtain h | rfl | h := Nat.lt_trichotomy i.val first
    · rw [if_neg (by omega), if_neg (by omega)]
      split
      · next hf => rw [hset hf, if_neg (by omega)]
      · rfl
    · simp only [dif_pos hi, hset hi, Nat.sub_self, if_true, Nat.le_refl]
      rw [if_neg (by omega)]
      rfl
    · obtain ⟨d, hd⟩ := Nat.exists_eq_add_of_lt h
      have hf : first < 3840 := by omega
      simp only [dif_pos hf, hset hf]
      rw [if_pos (show first + 1 ≤ i.val from h), if_neg (show ¬ i.val = first by omega), if_pos h.le, show i.val - first = d + 1 by omega,
        show i.val - (first + 1) = d by omega, List.getElem?_cons_succ]

end Sys2Proof.Machine

end

section
/-! The obligations about requests that read and write (O51, O52). -/

namespace Sys2Proof.Machine

open Sys2Proof Sys2Proof.Safety

/-! ### Reading requests (R106, R136, R158 to R160) -/

theorem slotStateCode_lt (st : SlotState) : st.code < 2 ^ 2 := by cases st <;> decide

theorem rxStateCode_lt (st : RxState) : st.code < 2 ^ 3 := by cases st <;> decide

theorem statusWords_slot (s : State) (j : Fin 8) : s.statusWords[4 + j.val]? =
    some (word (placed (s.slot j).first.toNat 16 16 + placed (s.slot j).epoch.toNat 8 8 +
      placed (s.slot j).state.code 0 2)) := by
  rw [State.statusWords, List.getElem?_append_right (by simp)]
  simp

theorem linkWord_eq {k : Link} (h : k.queue.fill ≤ 2048) : linkWord k =
    BitVec.ofNat 32 (k.queue.fill * 2 ^ 16 + k.queue.dropMode.toNat * 2 ^ 7 + k.delta.resync.toNat * 2 ^ 6 +
      k.delta.lost.toNat * 2 ^ 5 + k.delta.stateChanged.toNat * 2 ^ 4 + k.rx.state.code) := by
  rw [linkWord, placed_of_lt (by omega), placed_of_lt (rxStateCode_lt _), Nat.pow_zero, Nat.mul_one, word]
  rfl

/-- Settles O51: each reading request answers from the state it is executed in. -/
theorem readingRequests : Obligations.ReadingRequests := by
  refine fun s q rest hq hh => ⟨fun hc w hp => ?settings, fun hc w hp => ?pad, fun hc hp => ?status, fun hc hp => ?links,
    fun hc w hp => ?counters⟩
  case settings =>
    have hlen := length_of_payload hp
    have harg := arg_of_payload hp
    refine ⟨fun h => next_execute_length hq hh hc hlen ?_, fun h => next_execute_length hq hh hc hlen ?_,
      fun h0 h1 => next_execute_length hq hh hc hlen ?_⟩
    · rw [readSettingsAct, if_pos (harg.trans h)]
      rfl
    · rw [readSettingsAct, if_neg (by rw [harg, h]; decide), if_pos (harg.trans h)]
      rfl
    · rw [readSettingsAct, harg, if_neg h0, if_neg h1]
      rfl
  case pad =>
    intro first count bank
    have hlen := length_of_payload hp
    have harg := arg_of_payload hp
    refine ⟨fun h => next_execute_length hq hh hc hlen ?_, fun h1 h32 hend => ?_⟩
    · have hinvalid : ¬ padRangeValid w = true := fun hv => by
        obtain ⟨_, _, _⟩ := (padRangeValid_iff w).mp hv
        omega
      rw [readPadAct, harg, if_neg hinvalid]
      rfl
    · have hvalid := (padRangeValid_iff w).mpr ⟨h1, h32, hend⟩
      have hbank : padBank w = bank := rfl
      have hcount : padCount w = count := rfl
      have hslen : (((s.padTable.entries bank).toList.drop first).take count).length = count := by
        rw [List.length_take, List.length_drop, Vector.length_toList]
        omega
      refine ⟨(((s.padTable.entries bank).toList.drop first).take count).flatMap PadEntry.words,
        next_execute_length hq hh hc hlen ?_, ?_, fun k hk hlt => entryWords_take ?_⟩
      · rw [readPadAct, harg, if_pos hvalid, hbank, hcount, padFirst_eq]
        rfl
      · rw [length_entryWords, hslen]
      · rw [List.getElem?_take_of_lt hlt, List.getElem?_drop, List.getElem?_eq_getElem (by simpa using hk)]
        rfl
  case status =>
    refine ⟨s.statusWords, next_execute_length hq hh hc (length_of_payload hp) rfl, by simp [State.statusWords],
      congrArg some ?_, congrArg some ?_, congrArg some ?_, fun hcells => congrArg some ?_, fun j => ?_⟩
    · rw [placed_of_lt (by omega), placed_of_lt (BitVec.isLt _), placedFlag, Nat.pow_zero, Nat.mul_one, word]
    · rw [placed_of_lt (BitVec.isLt _), placedFlag, Nat.pow_zero, Nat.mul_one, word]
    · cases s.settings.commit with
      | none => rfl
      | some c =>
        simp only [placed_of_lt c.switchHeartbeat.isLt, placedFlag, Nat.pow_zero, Nat.mul_one, word, Option.isSome_some,
          Bool.toNat_true, Nat.one_mul]
    · rw [placed_of_lt (by omega), placed_of_lt (BitVec.isLt _), Nat.pow_zero, Nat.mul_one, word]
      rfl
    · intro state
      have hstate : state = (s.slot j).state.code := by
        simp only [state]
        cases (s.slot j).state <;> rfl
      rw [statusWords_slot, placed_of_lt (BitVec.isLt _), placed_of_lt (BitVec.isLt _), placed_of_lt (slotStateCode_lt _),
        hstate, Nat.pow_zero, Nat.mul_one, word]
  case links =>
    refine ⟨s.mapLinks fun _ k => { k with delta := .clear }, s.links.toList.map linkWord,
      next_execute_length hq hh hc (length_of_payload hp) rfl, by simp, fun l hfill => ?_, fun l => by
        rw [State.link_mapLinks]; rfl, rfl⟩
    intro k state
    have hstate : state = (s.link l).rx.state.code := by
      simp only [state, k]
      cases (s.link l).rx.state <;> rfl
    have hl : (s.links.toList.map linkWord)[l.val]? = some (linkWord (s.link l)) := by
      simp [State.link]
    rw [hl, linkWord_eq hfill, hstate]
  case counters =>
    have hlen := length_of_payload hp
    have hfield : field q.arg 0 8 = w.toNat % 256 := by
      rw [arg_of_payload hp]
      exact field_low w 8
    refine ⟨fun l hl => ?_, fun hg => ?_, fun hg => next_execute_length hq hh hc hlen ?_⟩
    · intro c
      refine next_execute_length hq hh hc hlen ?_
      have hlt : w.toNat % 256 < 24 := by omega
      have hlink : (⟨w.toNat % 256, hlt⟩ : LinkId) = l := Fin.ext hl
      simp only [readCountersAct, hfield, dif_pos hlt, hlink]
      rfl
    · intro g
      refine next_execute_length hq hh hc hlen ?_
      simp only [readCountersAct, hfield, dif_neg (show ¬ w.toNat % 256 < 24 by omega), if_pos hg]
      rfl
    · simp only [readCountersAct, hfield, dif_neg (show ¬ w.toNat % 256 < 24 by omega), if_neg (Nat.ne_of_gt hg)]
      rfl

/-! ### The bank copy (R147, R148) -/

/-- Entry `i` of a running bank copy moved. -/
def State.entryMoved (s : State) (i : Fin 3840) : State :=
  { s with padTable :=
    { s.padTable.write s.padTable.staging i (s.padTable.entries s.padTable.active)[i] with copyNext := some (i.val + 1) } }

theorem exec_copyEntryMoved {s : State} {i : Fin 3840} (h : s.padTable.copyNext = some i.val) :
    exec .copyEntryMoved s = .next (s.entryMoved i) := by
  show execCopyEntryMoved s = _
  unfold execCopyEntryMoved
  rw [h]
  exact dif_pos i.isLt

theorem entryMoved_spec (s : State) (i : Fin 3840) :
    (∀ j : Fin 3840, ((s.entryMoved i).padTable.entries s.padTable.active.other)[j] =
      if j = i then (s.padTable.entries s.padTable.active)[i] else (s.padTable.entries s.padTable.active.other)[j]) ∧
    (s.entryMoved i).padTable.entries s.padTable.active = s.padTable.entries s.padTable.active ∧
    (s.entryMoved i).padTable.stale = s.padTable.stale ∧ (s.entryMoved i).padTable.active = s.padTable.active := by
  have he : ∀ bank, (s.entryMoved i).padTable.entries bank =
      (s.padTable.write s.padTable.active.other i (s.padTable.entries s.padTable.active)[i]).entries bank := by
    intro bank
    cases bank <;> rfl
  obtain ⟨ha, hs, -⟩ := s.padTable.write_frame s.padTable.active.other i (s.padTable.entries s.padTable.active)[i]
  refine ⟨fun j => ?_, ?_, hs, ha⟩
  · simp only [he]
    exact PadTable.entries_write ..
  · rw [he]
    exact PadTable.entries_write_ne (other_ne _).symm ..

/-- `n` entries of a bank copy moved, from index `m` on: those between stand as in the active bank. -/
theorem execAll_copyEntries (n : Nat) : ∀ (s : State) (m : Nat), s.padTable.copyNext = some m → m + n ≤ 3840 →
    ∃ t, execAll (List.replicate n .copyEntryMoved) s = .next t ∧ t.padTable.copyNext = some (m + n) ∧
      t.padTable.active = s.padTable.active ∧
      t.padTable.entries s.padTable.active = s.padTable.entries s.padTable.active ∧
      ∀ j : Fin 3840, (t.padTable.entries s.padTable.active.other)[j] =
        if m ≤ j.val ∧ j.val < m + n then (s.padTable.entries s.padTable.active)[j]
        else (s.padTable.entries s.padTable.active.other)[j] := by
  induction n with
  | zero => exact fun s m h _ => ⟨s, rfl, h, rfl, rfl, fun j => (if_neg (by omega)).symm⟩
  | succ n ih =>
    intro s m h hle
    obtain ⟨hcopied, hkept, -, hactive⟩ := entryMoved_spec s ⟨m, by omega⟩
    obtain ⟨t, e, hnext, hact, hent, hall⟩ := ih (s.entryMoved ⟨m, by omega⟩) (m + 1) rfl (by omega)
    simp only [hactive] at hact hent hall
    refine ⟨t, ?_, by rw [hnext]; congr 1; omega, hact, hent.trans hkept, fun j => ?_⟩
    · rw [List.replicate_succ, execAll, exec_copyEntryMoved (i := ⟨m, by omega⟩) h]
      exact e
    · rw [hall j, hcopied j]
      simp only [hkept, Fin.ext_iff]
      obtain hj | hj | hj := Nat.lt_trichotomy j.val m
      · rw [if_neg (by omega), if_neg (by omega), if_neg (by omega)]
      · rw [if_neg (by omega), if_pos hj, if_pos (by omega)]
        congr 1
        exact Fin.ext hj.symm
      · simp only [show m + 1 ≤ j.val ↔ m ≤ j.val by omega, show j.val < m + 1 + n ↔ j.val < m + (n + 1) by omega,
          if_neg (Nat.ne_of_gt hj)]

theorem execAll_append_one {cs : List Instr} {c : Instr} : ∀ {s t : State}, execAll cs s = .next t →
    execAll (cs ++ [c]) s = execAll [c] t := by
  induction cs with
  | nil =>
    intro s t h
    obtain rfl := Host.Outcome.next.inj h
    rfl
  | cons d cs ih =>
    intro s t h
    simp only [List.cons_append, execAll] at h ⊢
    cases hd : exec d s with
    | next u =>
      rw [hd] at h
      exact ih h
    | fault f =>
      rw [hd] at h
      cases h
    | refused r =>
      rw [hd] at h
      cases h

/-- A bank copy run to its end: both banks hold the active one. -/
theorem execAll_bankCopy {s : State} (h : s.padTable.copyNext = some 0) :
    ∃ t, execAll (List.replicate 3840 .copyEntryMoved ++ [.copyBankDone]) s = .next t ∧
      t.padTable.bankA = s.padTable.entries s.padTable.active ∧ t.padTable.bankB = s.padTable.entries s.padTable.active ∧
      t.padTable.active = s.padTable.active ∧ t.padTable.copyNext = none ∧ t.padTable.stale = false := by
  obtain ⟨t, e, hnext, hactive, hkept, hall⟩ := execAll_copyEntries 3840 s 0 h (by omega)
  have hother : t.padTable.entries s.padTable.active.other = s.padTable.entries s.padTable.active := by
    refine Vector.ext fun i hi => (hall ⟨i, hi⟩).trans ?_
    exact if_pos ⟨Nat.zero_le _, by simpa using hi⟩
  refine ⟨{ t with padTable := { t.padTable with copyNext := none, stale := false } }, ?_, ?_, ?_, hactive, rfl, rfl⟩
  · rw [execAll_append_one e, execAll]
    have hdone : exec .copyBankDone t = .next { t with padTable := { t.padTable with copyNext := none, stale := false } } :=
      if_pos (by rw [hnext])
    rw [hdone]
    rfl
  · generalize s.padTable.active = bank at *
    cases bank
    · exact hkept
    · exact hother
  · generalize s.padTable.active = bank at *
    cases bank
    · exact hother
    · exact hkept

/-! ### Writing requests (R107, R135, R161) -/

/-- WRITE_PAD outside a commit and a copy (R107). -/
theorem exec_writePad {s : State} {q : Request} {rest : List Request} (hq : s.control.queue = q :: rest)
    (hh : s.control.holder = none) (hc : q.code = 0x04#8) (hcommit : s.settings.commit = none)
    (hcopy : s.padTable.copyNext = none) {w : Word32} {ws : List Word32} (hp : q.payload = w :: ws) :
    (¬ (ws.length = 2 * (w.toNat / 65536 % 64) ∧ padRangeValid w = true) →
      exec .writePad s = .next (replied q rest .badArgument false [] s)) ∧
    (ws.length = 2 * (w.toNat / 65536 % 64) → padRangeValid w = true →
      exec .writePad s = .next (replied q rest .ok false []
        { s with padTable := s.padTable.writeFrom s.padTable.active.other (w.toNat % 4096) (readEntries ws) })) := by
  have hbusy : (s.withRequests rest).banksBusy = false := banksBusy_of_none hcommit hcopy
  have harg := arg_of_payload hp
  have hlen := length_of_payload hp
  have hcount : padCount w = w.toNat / 65536 % 64 := rfl
  have hfit : q.payload.length = 1 + 2 * padCount w ↔ ws.length = 2 * (w.toNat / 65536 % 64) := by
    rw [hlen, hcount, List.length_cons]
    omega
  refine ⟨fun h => next_execute hq hh hc ?_, fun h1 h2 => next_execute hq hh hc ?_⟩
  · rw [unlessBusy_of_not hbusy, writePadAct, harg, if_neg (by rwa [hfit])]
    rfl
  · rw [unlessBusy_of_not hbusy, writePadAct, harg, if_pos ⟨hfit.mpr h1, h2⟩, padFirst_eq, hp, List.tail_cons]
    rfl

/-- Settles O52: what each writing request changes, entry by entry of the pad table for WRITE_PAD and the bank copy. -/
theorem writingRequests : Obligations.WritingRequests := by
  refine ⟨fun s q rest hq hh => ⟨fun hc hcommit hlen => ?settings, fun hc hcommit hcopy w es hp hcount h1 h32 hend => ?entries,
    fun hc hcommit hcopy => ⟨fun hp => ?empty, fun w ws hp => ?words⟩, fun hc hcommit hcopy hp => ?copy, fun hc hp => ?clear⟩,
    fun s i h => ?moved, fun s h => execAll_bankCopy h, fun s => ⟨fun h => if_pos h, fun h => if_neg h⟩⟩
  case settings =>
    refine next_execute hq hh hc ?_
    have hbusy : (s.withRequests rest).commitPending = false := by
      simp only [State.commitPending, State.withRequests, hcommit, Option.isSome_none]
    rw [unlessBusy_of_not hbusy, withLength_of_eq hlen]
    rfl
  case entries =>
    obtain ⟨hkept, hactive, hstale⟩ :=
      s.padTable.writeFrom_frame s.padTable.active.other (w.toNat % 4096) es
    have hvalid : padRangeValid w = true := (padRangeValid_iff w).mpr (by omega)
    have hlen : (es.flatMap PadEntry.words).length = 2 * (w.toNat / 65536 % 64) := by rw [length_entryWords, hcount]
    have e := (exec_writePad hq hh hc hcommit hcopy hp).2 hlen hvalid
    rw [readEntries_words] at e
    exact ⟨_, e, PadTable.writeFrom_entries _ _ _ _, hkept _ (other_ne _).symm, hactive, hstale,
      (PadTable.writeFrom_copyNext ..).trans hcopy, rfl⟩
  case empty =>
    have hbusy : (s.withRequests rest).banksBusy = false := banksBusy_of_none hcommit hcopy
    refine next_execute hq hh hc ?_
    rw [unlessBusy_of_not hbusy, writePadAct, if_neg (by rw [hp, List.length_nil]; omega)]
    rfl
  case words =>
    intro first count
    obtain ⟨hbad, hok⟩ := exec_writePad hq hh hc hcommit hcopy hp
    refine ⟨fun h => hbad fun ⟨hl, hv⟩ => ?_, fun h1 h32 hend hl => ⟨_, hok hl ((padRangeValid_iff w).mpr ⟨h1, h32, hend⟩),
      fun k hk a b ha hb => ?_, fun i hi => ?_, rfl⟩⟩
    · obtain ⟨_, _, _⟩ := (padRangeValid_iff w).mp hv
      omega
    · refine (PadTable.writeFrom_entries _ _ _ _ ⟨first + k, hk⟩).trans ?_
      rw [if_pos (Nat.le_add_right first k), show first + k - w.toNat % 4096 = k from Nat.add_sub_cancel_left ..,
        readEntries_getElem? ha hb, Option.getD_some, readEntry_eq]
    · refine (PadTable.writeFrom_entries _ _ _ _ i).trans ?_
      obtain h | h := hi
      · exact if_neg (by omega)
      · have hnone : (readEntries ws)[i.val - w.toNat % 4096]? = none := by
          rw [List.getElem?_eq_none_iff, length_readEntries]
          omega
        rw [hnone, Option.getD_none, ite_self]
  case copy =>
    have hbusy : (s.withRequests rest).banksBusy = false := banksBusy_of_none hcommit hcopy
    refine next_execute hq hh hc ?_
    rw [unlessBusy_of_not hbusy, withLength_of_eq (n := 0) (length_of_payload hp)]
    rfl
  case clear =>
    have e : clearCountersAct q (s.withRequests rest) = (s.clearCounters.withRequests rest, .plain .ok) := rfl
    refine ⟨s.clearCounters, next_execute_length hq hh hc (length_of_payload hp) e, ?_, ?_⟩
    · intro l
      rw [State.clearCounters, State.link_mapGlobals, State.link_mapLinks]
    · rw [State.clearCounters, State.mapGlobals, State.mapLinks]
  case moved =>
    obtain ⟨hcopied, hkept, hstale, hactive⟩ := entryMoved_spec s i
    exact ⟨_, exec_copyEntryMoved h, hcopied, hkept, rfl, hstale, hactive, rfl⟩

end Sys2Proof.Machine

end

section
/-! The requests that disable, enable, hold and release links (O53, O55). -/

namespace Sys2Proof.Machine

open Sys2Proof Sys2Proof.Safety

/-- A link sent down by a request: its receiver is cleared and its queue flushed, with a LINK_DOWN of the request's reason
(R63, R64). -/
theorem sentDown {k k' : Link} {st : RxState} {reason : DownReason} (h : k' = (k.goDown st).flushDown reason) :
    k'.rx.state = st ∧ k'.rx.alignment = none ∧ k'.rx.frame = none ∧ k'.rx.trainingCount = 0 ∧
      k'.rx.lastHeartbeat = none ∧ k'.rx.heartbeatOpen = false ∧ k'.rx.burstsSinceOpen = 0 ∧
      k'.delta = { k.delta with stateChanged := true } ∧ k'.queue = ⟨[.linkDown reason], false⟩ ∧
      k'.counters =
        { k.counters with ingressDrops := satAdd cap32 k.counters.ingressDrops k.queue.items.length } := by
  subst h
  exact ⟨rfl, rfl, rfl, rfl, rfl, rfl, rfl, rfl, rfl, rfl⟩

/-! ### SET_LIVE (R63, R162) -/

theorem enableChange_same (b : Bool) (k : Link) : k.enableChange b b = k := by cases b <;> rfl

theorem enableChange_disable (k : Link) :
    (k.rx.state = .held ∨ k.rx.state = .disabled → k.enableChange true false = k) ∧
      (k.rx.state ≠ .held → k.rx.state ≠ .disabled →
        k.enableChange true false = (k.goDown .disabled).flushDown .disabled) := by
  unfold Link.enableChange
  cases k.rx.state <;> simp

theorem enableChange_enable (k : Link) :
    k.enableChange false true = if k.rx.state = .disabled then k.changeState .search else k := rfl

/-- The live settings that the three words of a SET_LIVE carry. -/
def liveOf (a b c : Word32) : Live where
  enable := BitVec.ofNat 24 a.toNat
  congestion := BitVec.ofNat 2 (a.toNat / 2 ^ 28)
  lowWater := min 16383 (b.toNat % 65536)
  timeout := b.toNat / 65536
  causeMask := BitVec.ofNat 6 c.toNat

/-- The live settings written, and the links whose membership changes disabled or enabled. -/
def State.setLive (live : Live) (s : State) : State :=
  { s.mapLinks (fun l k => k.enableChange (s.control.live.enable.getLsbD l.val) (live.enable.getLsbD l.val)) with
    control := { s.control with live := live } }

theorem link_setLive (live : Live) (s : State) (l : LinkId) :
    (s.setLive live).link l =
      (s.link l).enableChange (s.control.live.enable.getLsbD l.val) (live.enable.getLsbD l.val) := by
  simp [State.link, State.setLive, State.mapLinks]

theorem setLiveAct_eq {q : Request} {a b c : Word32} (hp : q.payload = [a, b, c]) (s : State) :
    setLiveAct q s = (s.setLive (liveOf a b c), ⟨.ok, decide (16383 < b.toNat % 65536), []⟩) := by
  have hcong : BitVec.ofNat 2 (field a 28 2) = BitVec.ofNat 2 (a.toNat / 2 ^ 28) :=
    BitVec.eq_of_toNat_eq (by rw [BitVec.toNat_ofNat, BitVec.toNat_ofNat, field, Nat.mod_mod])
  have htime : field b 16 16 = b.toNat / 65536 := field_top b rfl
  have hlow : field b 0 16 = b.toNat % 65536 := field_low b 16
  have h0 : q.payload[0]?.getD 0 = a := by rw [hp]; rfl
  have h1 : q.payload[1]?.getD 0 = b := by rw [hp]; rfl
  have h2 : q.payload[2]?.getD 0 = c := by rw [hp]; rfl
  simp only [setLiveAct, h0, h1, h2, hcong, htime, hlow]
  rfl

/-- Settles O53: the live settings are the fields of the three words; a link changes only with its membership. -/
theorem setLiveWritesTheLiveSettings : Obligations.SetLiveWritesTheLiveSettings := by
  intro s q rest a b c hq hh hc hp live
  refine ⟨s.setLive live, next_execute_length hq hh hc (length_of_payload hp) (setLiveAct_eq hp (s.withRequests rest)), ?_,
    fun l => ?_⟩
  · rw [State.setLive, State.mapLinks]
  intro was is
  rw [link_setLive]
  refine ⟨fun h => (congrArg (fun b => (s.link l).enableChange b _) h).trans (enableChange_same _ _), fun hw hi => ?_, fun hw hi => ?_⟩
  · obtain ⟨hstays, hdown⟩ := enableChange_disable (s.link l)
    simp only [was, is] at hw hi
    rw [hw, hi]
    exact ⟨hstays, fun h1 h2 => sentDown (hdown h1 h2)⟩
  · simp only [was, is] at hw hi
    rw [hw, hi, enableChange_enable]
    exact ⟨fun h => if_pos h, fun h => if_neg h⟩

/-! ### HOLD_LINK and RELEASE_LINK (R64, R163) -/

theorem linkArg_eq {q : Request} {w : Word32} (hp : q.payload = [w]) : linkArg q = w.toNat % 256 := by
  rw [linkArg, arg_of_payload hp]
  exact field_low w 8

/-- Settles O55: a link number past the last is refused; the link named changes alone, by its receiver's state. -/
theorem holdAndRelease : Obligations.HoldAndRelease := by
  intro s q rest w hq hh hp
  have hlen := length_of_payload hp
  have harg := linkArg_eq hp
  have hset : ∀ (l : LinkId) (f : Link → Link), s.mapLink l f = { s with links := s.links.set l ((s.mapLink l f).link l) } := by
    intro l f
    rw [State.link_mapLink]
    rfl
  refine ⟨fun hc => ⟨fun h => next_execute_length hq hh hc hlen ?_, fun l hl => ?_⟩,
    fun hc => ⟨fun h => next_execute_length hq hh hc hlen ?_, fun l hl => ?_⟩⟩
  · rw [holdLinkAct, dif_neg (by omega)]
    rfl
  · have hlt : linkArg q < 24 := by omega
    have hlink : (⟨linkArg q, hlt⟩ : LinkId) = l := Fin.ext (harg.trans hl)
    refine ⟨s.mapLink l Link.hold, next_execute_length hq hh hc hlen ?_, hset l _, fun h => ?_, fun h => ?_⟩
    · rw [holdLinkAct, dif_pos hlt, hlink]
      rfl
    · rw [State.link_mapLink, Link.hold, if_pos h]
    · exact sentDown ((State.link_mapLink ..).trans (if_neg h))
  · rw [releaseLinkAct, dif_neg (by omega)]
    rfl
  · have hlt : linkArg q < 24 := by omega
    have hlink : (⟨linkArg q, hlt⟩ : LinkId) = l := Fin.ext (harg.trans hl)
    refine ⟨s.mapLink l (Link.release (s.control.live.enable.getLsbD l.val)), next_execute_length hq hh hc hlen ?_, hset l _,
      fun h => ?_, fun h => ?_⟩
    · rw [releaseLinkAct, dif_pos hlt, hlink, harg, hl]
      rfl
    · rw [State.link_mapLink, Link.release, if_neg h]
    · rw [State.link_mapLink, Link.release, if_pos h]
      rfl

end Sys2Proof.Machine

end

section
/-! The taking of an HB_OPEN: slots as they open (O28), the link's records after it, in the ring and behind (O29). -/

namespace Sys2Proof.Machine

open Sys2Proof Sys2Proof.Safety

/-! ### Slots as they open (R10, R11) -/

theorem endsAtSwitch_iff (u : SettingsUnit) (first : Heartbeat) (span : Nat) :
    u.endsAtSwitch first span = true ↔ ∃ c, u.commit = some c ∧ first + BitVec.ofNat 16 (2 ^ span) = c.switchHeartbeat := by
  unfold SettingsUnit.endsAtSwitch
  cases u.commit with
  | none => simp
  | some c => simp

/-- Settles O28: the fields stand as the slot is formed; each link's record follows its receiver state. -/
theorem slotsOpenAsTheTablesSay : Obligations.SlotsOpenAsTheTablesSay := by
  intro s j starts t cfg cut
  have hcut : s.settings.endsAtSwitch (s.sliceFirst j) cfg.span = true ↔ cut := endsAtSwitch_iff ..
  refine ⟨rfl, rfl, rfl, rfl, fun h => ?_, fun h => ?_, fun h => if_pos h, fun h => if_neg h, fun r => ?_, rfl, fun l => ?_⟩
  · have e := hcut.mpr h
    simp only [t, State.openedSlot]
    rw [e]
    exact ⟨rfl, rfl⟩
  · have e := Bool.eq_false_iff.mpr fun e => h (hcut.mp e)
    simp only [t, State.openedSlot]
    rw [e]
    exact ⟨rfl, rfl⟩
  · simp [t, State.openedSlot]
  · intro r
    have hr : r = openingRecord (cfg.expected.getLsbD l.val) (s.link l).rx.state := by
      simp only [r, t, State.openedSlot]
      exact Vector.getElem_ofFn l.isLt
    rw [hr]
    unfold openingRecord
    cases cfg.expected.getLsbD l.val with
    | false => exact ⟨rfl, rfl, rfl, rfl, fun _ => ⟨rfl, rfl⟩, fun h => Bool.noConfusion h⟩
    | true => cases (s.link l).rx.state <;> exact ⟨rfl, rfl, rfl, rfl, fun h => Bool.noConfusion h, fun _ => ⟨rfl, rfl⟩⟩

theorem Begins.openedSlot {s s' : State} (h : s.Begins s') (j : Nat) (starts : Bool) :
    s'.openedSlot j starts = s.openedSlot j starts := by
  simp only [State.openedSlot, h.mapping.sliceFirst, h.mapping.epochAt, h.settings, h.control, h.rx]

theorem openedSlot_frame (s : State) (j : Nat) (starts : Bool) :
    (s.openedSlot j starts).state = .filling ∧ (s.openedSlot j starts).flags.incomplete = false := ⟨rfl, rfl⟩

theorem State.mapSlot_congr {i : SlotId} {f g : Slot → Slot} {s : State} (h : f (s.slot i) = g (s.slot i)) :
    s.mapSlot i f = s.mapSlot i g := by
  have h' : f s.ring.slots[i.val] = g s.ring.slots[i.val] := h
  simp only [State.mapSlot, Fin.getElem_fin, h']

theorem State.mapSlot_self {i : SlotId} {f : Slot → Slot} {s : State} (h : f (s.slot i) = s.slot i) : s.mapSlot i f = s := by
  have h' : f s.ring.slots[i.val] = s.ring.slots[i.val] := h
  simp [State.mapSlot, h']

/-- A slot without INCOMPLETE is examined without a count (R28, R42). -/
theorem State.examine_of_not_incomplete {s : State} {i : SlotId} (h : (s.slot i).flags.incomplete = false) :
    s.examine i = s.mapSlot i Slot.examined := by
  unfold State.examine
  split
  · next hd =>
    have e : s.completeSlot i = s.mapSlot i fun t => { t with state := .complete, deadline := none } := by
      rw [State.completeSlot, h]
      rfl
    rw [e]
    exact State.mapSlot_congr (Slot.examined_of_done hd.1 hd.2).symm
  · next hd => exact (State.mapSlot_self (if_neg hd)).symm

theorem State.openAt_ring (starts : Bool) (s : State) (j : Fin 8) :
    s.openAt starts j = { s with ring := { s.ring with slots := (s.openAt starts j).ring.slots } } := by
  unfold State.openAt
  split
  · rw [State.examine_of_not_incomplete (by rw [State.slot_mapSlot]; rfl)]
    rfl
  · rfl

/-- Fill-opening changes the slots of the ring alone. -/
theorem State.fillOpen_ring (t : Fin 8) (starts : Bool) (s : State) :
    s.fillOpen t starts = { s with ring := { s.ring with slots := (s.fillOpen t starts).ring.slots } } := by
  refine State.fillOpen_induction (P := fun u => u = { s with ring := { s.ring with slots := u.ring.slots } })
    (fun u j hu => ?_) t rfl
  rw [State.openAt_ring]
  generalize (u.openAt starts j).ring.slots = v
  rw [hu]

/-! ### The continuity check (R16 to R18) -/

theorem record_startsLater (l : LinkId) (s : State) (j : Fin 8) (i : SlotId) (l' : LinkId) :
    (s.startsLater l j).record i l' =
      if i = s.slotAt j ∧ l' = l ∧ s.waitsFor l i = true then (s.record i l).miss fun f => { f with notReady := true }
      else s.record i l' := by
  unfold State.startsLater
  split
  · next h =>
    by_cases hi : i = s.slotAt j ∧ l' = l
    · obtain ⟨rfl, rfl⟩ := hi
      rw [if_pos ⟨rfl, rfl, h⟩, State.record_mapRecord]
    · rw [if_neg (fun h' => hi ⟨h'.1, h'.2.1⟩), State.record_mapRecord_ne (not_and_or.mp hi)]
  · next h => rw [if_neg fun ⟨h1, _, h3⟩ => h (h1 ▸ h3)]

/-- What the end of a link's wait at each offset of a list does to its record at offset `k`. -/
theorem record_foldl_startsLater (l : LinkId) (js : List (Fin 8)) (hjs : js.Nodup) (s : State) (k : Fin 8) (l' : LinkId) :
    (js.foldl (State.startsLater l) s).record (s.slotAt k) l' =
      if k ∈ js ∧ l' = l ∧ s.waitsFor l (s.slotAt k) = true then
        (s.record (s.slotAt k) l).miss fun f => { f with notReady := true }
      else s.record (s.slotAt k) l' := by
  induction js generalizing s with
  | nil => simp
  | cons j js ih =>
    have hc := State.ChangesSlots.startsLater l s j
    have hstate := (State.Judges.startsLater l s j).state
    obtain ⟨hj, hjs⟩ := List.nodup_cons.mp hjs
    have h := ih hjs (s.startsLater l j)
    rw [hc.slotAt] at h
    rw [List.foldl_cons, h, record_startsLater, record_startsLater]
    have hmem : k ∈ j :: js ↔ k = j ∨ k ∈ js := List.mem_cons
    by_cases hk : k = j
    · subst hk
      simp [hj]
    · have hne : s.slotAt k ≠ s.slotAt j := fun e => hk (s.slotAt_injective e)
      have hw : (s.startsLater l j).waitsFor l (s.slotAt k) = s.waitsFor l (s.slotAt k) := by
        rw [State.waitsFor, State.waitsFor, hstate, record_startsLater, if_neg fun h' => hne h'.1]
      simp only [hw, hmem, hk, hne, false_and, false_or, if_false]

/-- A link's first heartbeat: its share of the slot there is partial, and its wait in the slots below ends (R18). -/
theorem record_firstHeartbeat (l : LinkId) (x : Heartbeat) (t : Fin 8) (s : State) (k : Fin 8) :
    (∀ l', l' ≠ l → (s.firstHeartbeat l x t).record (s.slotAt k) l' = s.record (s.slotAt k) l') ∧
    (s.firstHeartbeat l x t).record (s.slotAt k) l =
      if s.waitsFor l (s.slotAt k) = true ∧ k = t ∧ x ≠ (s.slot (s.slotAt k)).first then
        { s.record (s.slotAt k) l with
          flags := { (s.record (s.slotAt k) l).flags with partialShare := true } }
      else if s.waitsFor l (s.slotAt k) = true ∧ k < t then
        (s.record (s.slotAt k) l).miss fun f => { f with notReady := true }
      else s.record (s.slotAt k) l := by
  have hfold : ∀ (u : State), u.slotAt k = s.slotAt k → ∀ l',
      (((List.finRange 8).filter (· < t)).foldl (State.startsLater l) u).record (s.slotAt k) l' =
        if k < t ∧ l' = l ∧ u.waitsFor l (s.slotAt k) = true then
          (u.record (s.slotAt k) l).miss fun f => { f with notReady := true }
        else u.record (s.slotAt k) l' := by
    intro u hu l'
    have h := record_foldl_startsLater l ((List.finRange 8).filter (· < t)) ((List.nodup_finRange 8).filter _) u k l'
    rw [hu] at h
    rw [h]
    simp
  unfold State.firstHeartbeat
  dsimp only
  split
  · next hp =>
    have hat : ∀ f, (s.mapRecord (s.slotAt t) l f).slotAt k = s.slotAt k := fun _ => rfl
    refine ⟨fun l' hl => ?_, ?_⟩
    · rw [hfold _ (hat _), if_neg fun h => hl h.2.1, State.record_mapRecord_ne (.inr hl)]
    · rw [hfold _ (hat _)]
      by_cases hk : k = t
      · subst hk
        rw [if_neg (by simp), State.record_mapRecord, if_pos ⟨hp.1, rfl, hp.2⟩]
      · have hne : s.slotAt k ≠ s.slotAt t := fun e => hk (s.slotAt_injective e)
        have hw : ∀ f, (s.mapRecord (s.slotAt t) l f).waitsFor l (s.slotAt k) = s.waitsFor l (s.slotAt k) := by
          intro f
          rw [State.waitsFor, State.waitsFor, (State.Judges.mapRecord ..).state, State.record_mapRecord_ne (.inl hne)]
        rw [hw, State.record_mapRecord_ne (.inl hne)]
        simp only [hk, false_and, if_false, true_and, and_comm]
  · next hp =>
    refine ⟨fun l' hl => ?_, ?_⟩
    · rw [hfold _ rfl, if_neg fun h => hl h.2.1]
    · rw [hfold _ rfl]
      have hpart : ¬ (s.waitsFor l (s.slotAt k) = true ∧ k = t ∧ x ≠ (s.slot (s.slotAt k)).first) := by
        rintro ⟨h1, rfl, h3⟩
        exact hp ⟨h1, h3⟩
      rw [if_neg hpart]
      simp only [true_and, and_comm]

/-- The heartbeats skipped change no record of another link. -/
theorem record_skipped_ne (l : LinkId) (ys : List Heartbeat) (s : State) {l' : LinkId} (hl : l' ≠ l) (i : SlotId) :
    (ys.foldl (State.skipHeartbeat l) s).record i l' = s.record i l' := by
  induction ys generalizing s with
  | nil => rfl
  | cons y ys ih =>
    rw [List.foldl_cons, ih, State.skipHeartbeat_eq, State.record_mapPart, if_neg fun h => hl h.2, State.record_mapPart,
      if_neg fun h => hl h.2]

/-- What the taking of an HB_OPEN leaves in the state before it settles, next to the continuity check. -/
theorem State.openedFor_reads (l : LinkId) (x : Heartbeat) (t : Fin 8) (s : State) :
    (∀ i l', (s.openedFor l x t).record i l' = (s.continuity l x t).record i l') ∧
    (∀ l', (s.openedFor l x t).intake l' = if l' = l then ⟨some x, some x⟩ else s.intake l') ∧
    ((s.openedFor l x t).link l).counters =
      { (s.link l).counters with
        lateItems := if (s.openedFor l x t).waitsFor l (s.slotAt t) = true then (s.link l).counters.lateItems
          else satAdd cap32 (s.link l).counters.lateItems 1 } := by
  have hc := State.ChangesSlots.continuity l x t s
  have hu : ∀ u : State, (u.updateNewest x).ring.slots = u.ring.slots ∧ (u.updateNewest x).ring.intake = u.ring.intake ∧
      (u.updateNewest x).links = u.links ∧ (u.updateNewest x).ring.cursorSlot = u.ring.cursorSlot := by
    intro u
    unfold State.updateNewest
    split <;> exact ⟨rfl, rfl, rfl, rfl⟩
  obtain ⟨h1, h2, h3, h4⟩ := hu ((s.continuity l x t).intakeAt l x)
  have hat : (((s.continuity l x t).intakeAt l x).updateNewest x).slotAt t = s.slotAt t := by
    simp only [State.slotAt, h4]
    exact congrArg (· + t) hc.cursorSlot
  have hrec : ∀ i l', (((s.continuity l x t).intakeAt l x).updateNewest x).record i l' = (s.continuity l x t).record i l' := by
    intro i l'
    simp only [State.record, State.slot, h1]
    rfl
  have hint : ∀ l', (((s.continuity l x t).intakeAt l x).updateNewest x).intake l' =
      if l' = l then ⟨some x, some x⟩ else s.intake l' := by
    intro l'
    have e : ((s.continuity l x t).intakeAt l x).intake l' = if l' = l then ⟨some x, some x⟩ else s.intake l' := by
      rw [State.intakeAt]
      by_cases hl : l' = l
      · subst hl
        rw [State.intake_setIntake, if_pos rfl]
      · rw [State.intake_setIntake_ne hl, hc.intake_eq, if_neg hl]
    rw [← e, State.intake, h2]
    rfl
  have hlink : (((s.continuity l x t).intakeAt l x).updateNewest x).link l = s.link l := by
    rw [← hc.link l, State.link, h3]
    rfl
  have e : s.openedFor l x t =
      if (((s.continuity l x t).intakeAt l x).updateNewest x).waitsFor l (s.slotAt t) = true then
        ((s.continuity l x t).intakeAt l x).updateNewest x
      else (((s.continuity l x t).intakeAt l x).updateNewest x).countLate l := by
    rw [← hat]
    rfl
  generalize ((s.continuity l x t).intakeAt l x).updateNewest x = u at *
  by_cases hw : u.waitsFor l (s.slotAt t) = true
  · rw [if_pos hw] at e
    rw [e]
    exact ⟨hrec, hint, by rw [if_pos hw, hlink]⟩
  · rw [if_neg hw] at e
    rw [e]
    have hw' : ¬ (u.countLate l).waitsFor l (s.slotAt t) = true := hw
    refine ⟨hrec, hint, ?_⟩
    rw [if_neg hw', State.countLate, State.link_mapLink, hlink]
    rfl

end Sys2Proof.Machine

end

section
/-! The taking of an HB_OPEN with its obligations: in the ring and behind (O29), and the first that sets the cursor (O27). -/

namespace Sys2Proof.Machine

open Sys2Proof Sys2Proof.Safety

/-! ### A slot that settles -/

theorem slotsSettle_state {s t : State} (h : SlotsSettle s t) (i : SlotId) :
    (t.slot i).state =
      if (s.slot i).state = .complete ∨ (s.slot i).state = .filling ∧ ∀ l, (t.record i l).verdict ≠ .pending then
        if i = s.ring.cursorSlot ∧ s.ring.cursor ≠ none ∧ s.emitter.state = .idle ∧ s.emitter.stopping = none then .emitting
        else .complete
      else (s.slot i).state := h.states i

theorem slotsSettle_filling_iff {s t : State} (h : SlotsSettle s t) (i : SlotId) :
    (t.slot i).state = .filling ↔ (s.slot i).state = .filling ∧ ∃ l, (t.record i l).verdict = .pending := by
  have hs := slotsSettle_state h i
  by_cases hd : (s.slot i).state = .complete ∨ (s.slot i).state = .filling ∧ ∀ l, (t.record i l).verdict ≠ .pending
  · rw [if_pos hd] at hs
    have hne : (t.slot i).state ≠ .filling := by
      rw [hs]
      split <;> decide
    refine ⟨fun e => absurd e hne, fun ⟨hf, l, hl⟩ => ?_⟩
    obtain hc | ⟨-, hall⟩ := hd
    · exact absurd (hc.symm.trans hf) (by decide)
    · exact absurd hl (hall l)
  · rw [if_neg hd] at hs
    rw [hs]
    refine ⟨fun hf => ⟨hf, ?_⟩, And.left⟩
    by_contra hno
    exact hd (.inr ⟨hf, fun l hl => hno ⟨l, hl⟩⟩)

theorem slotsSettle_deadline {s t : State} (h : SlotsSettle s t) (i : SlotId) :
    (t.slot i).deadline =
      if (s.slot i).state = .filling ∧ (t.slot i).state ≠ .filling then none else (s.slot i).deadline := by
  rw [h.deadlines i]
  refine if_congr ?_ rfl rfl
  rw [Ne, slotsSettle_filling_iff h]
  by_cases hf : (s.slot i).state = .filling <;> simp [hf]

/-- A state that settles, with its slots that wait for no link taken as COMPLETE already. -/
theorem slotsSettle_of_examined {s v t : State} (h : SlotsSettle v t)
    (hslot : ∀ i, (v.slot i).epoch = (s.slot i).epoch ∧
      ((v.slot i).state = (s.slot i).state ∧ (v.slot i).deadline = (s.slot i).deadline ∨
        (s.slot i).state = .filling ∧ (v.slot i).state = .complete ∧ (v.slot i).deadline = none ∧
          ∀ l, (t.record i l).verdict ≠ .pending))
    (hcursor : v.ring.cursor = s.ring.cursor) (hcs : v.ring.cursorSlot = s.ring.cursorSlot) (hemit : v.emitter = s.emitter)
    (hpaused : v.uplink.paused = s.uplink.paused) : SlotsSettle s t := by
  have hdone : ∀ i, ((v.slot i).state = .complete ∨ (v.slot i).state = .filling ∧ ∀ l, (t.record i l).verdict ≠ .pending) ↔
      ((s.slot i).state = .complete ∨ (s.slot i).state = .filling ∧ ∀ l, (t.record i l).verdict ≠ .pending) := by
    intro i
    obtain ⟨-, ⟨hst, -⟩ | ⟨h1, h2, -, h4⟩⟩ := hslot i
    · rw [hst]
    · exact iff_of_true (.inl h2) (.inr ⟨h1, h4⟩)
  have hemitting : ∀ i, (v.slot i).state = .emitting ↔ (s.slot i).state = .emitting := by
    intro i
    obtain ⟨-, ⟨hst, -⟩ | ⟨h1, h2, -⟩⟩ := hslot i
    · rw [hst]
    · rw [h1, h2]
      exact iff_of_false (by decide) (by decide)
  refine ⟨fun i => ?_, fun i => ?_, fun hs ht => ?_, fun hs => ?_⟩
  · have hs := slotsSettle_state h i
    simp only [hdone, hcursor, hcs, hemit] at hs
    rw [hs]
    by_cases hd : (s.slot i).state = .complete ∨ (s.slot i).state = .filling ∧ ∀ l, (t.record i l).verdict ≠ .pending
    · simp only [if_pos hd]
    · simp only [if_neg hd]
      obtain ⟨-, ⟨hst, -⟩ | ⟨h1, -, -, h4⟩⟩ := hslot i
      · exact hst
      · exact absurd (.inr ⟨h1, h4⟩) hd
  · rw [h.deadlines i]
    obtain ⟨-, ⟨hst, hdl⟩ | ⟨h1, h2, h3, h4⟩⟩ := hslot i
    · rw [hst, hdl]
    · rw [h3, ite_self, if_pos ⟨h1, h4⟩]
  · have he := h.takes
    rw [hcs] at he
    rw [he (fun e => hs ((hemitting _).mp e)) ht, hemit, hpaused, (hslot _).1]
  · have he := h.stays
    rw [hcs] at he
    rw [he (hs.imp (hemitting _).mpr id), hemit]

/-! ### The taking once its slots are opened -/

/-- What the taking of HB_OPEN `x` from link `l`, in the slot at offset `j`, does to the state `o` in which its slots stand open. -/
structure Opens (l : LinkId) (x : Heartbeat) (j : Fin 8) (fc : Heartbeat) (o t : State) : Prop where
  record : ∀ i l', t.record i l' = (o.continuity l x j).record i l'
  others : ∀ i l', l' ≠ l → t.record i l' = o.record i l'
  slot : ∀ i, (t.slot i).first = (o.slot i).first ∧ (t.slot i).span = (o.slot i).span ∧
    (t.slot i).margin = (o.slot i).margin ∧ (t.slot i).epoch = (o.slot i).epoch ∧ (t.slot i).flags = (o.slot i).flags ∧
    (t.slot i).rows = (o.slot i).rows ∧ (t.slot i).totals = (o.slot i).totals
  settles : SlotsSettle o t
  lastEpoch : t.emitter.lastEpoch = o.emitter.lastEpoch
  control : (∀ i, (o.slot i).state = .filling → (o.slot i).flags.incomplete = false) → t.control = o.control
  cursor : t.ring.cursor = o.ring.cursor
  cursorSlot : t.ring.cursorSlot = o.ring.cursorSlot
  intake : ∀ l', t.intake l' = if l' = l then ⟨some x, some x⟩ else o.intake l'
  newest : t.ring.newest = newer fc x o.ring.newest
  held : ∀ i, (t.slot i).state = .free ↔ (o.slot i).state = .free
  free : ∀ i, (o.slot i).state = .free → t.slot i = o.slot i
  counters : (t.link l).counters =
    { (o.link l).counters with
      lateItems :=
        if (t.slot (o.slotAt j)).state = .filling ∧ (t.record (o.slotAt j) l).verdict = .pending then
          (o.link l).counters.lateItems
        else satAdd cap32 (o.link l).counters.lateItems 1 }
  freeCells : t.freeCells = o.freeCells

theorem record_continuity_ne (l : LinkId) (x : Heartbeat) (j : Fin 8) (s : State) {l' : LinkId} (hl : l' ≠ l) (i : SlotId) :
    (s.continuity l x j).record i l' = s.record i l' := by
  obtain ⟨k, rfl⟩ := s.slotAt_surjective i
  unfold State.continuity
  split
  · exact (record_firstHeartbeat l x j s k).1 l' hl
  · exact record_skipped_ne l _ s hl _

theorem opens_settle (l : LinkId) (x : Heartbeat) (j : Fin 8) {o : State} {fc : Heartbeat} (hfc : o.ring.cursor = some fc) :
    Opens l x j fc o (o.openedFor l x j).settle := by
  have hj := o.openedFor_judges l x j
  obtain ⟨-, hup, hcur, hcs, -⟩ := o.openedFor_frame l x j
  obtain ⟨hrec, hint, hcounters⟩ := o.openedFor_reads l x j
  have hnew := o.openedFor_newest l x j hfc
  obtain ⟨-, hfree, -, -, -, -, -, -, hcur', hcs', hnew', -⟩ := (o.openedFor l x j).settle_frame
  have hreads := (o.openedFor l x j).settle_reads
  have hsettles : SlotsSettle o (o.openedFor l x j).settle :=
    slotsSettle_settle (fun i => ⟨hj.state i, hj.deadline i, (hj.slice i).2.2⟩) hcur hcs (by rw [hj.emitter]) (by rw [hup])
  have hrecord : ∀ i l', (o.openedFor l x j).settle.record i l' = (o.continuity l x j).record i l' :=
    fun i l' => ((hreads l').2.2 i).trans (hrec i l')
  have hothers : ∀ i l', l' ≠ l → (o.openedFor l x j).settle.record i l' = o.record i l' :=
    fun i l' hl => (hrecord i l').trans (record_continuity_ne l x j o hl i)
  have hslot : ∀ i, ((o.openedFor l x j).settle.slot i).first = (o.slot i).first ∧
      ((o.openedFor l x j).settle.slot i).span = (o.slot i).span ∧
      ((o.openedFor l x j).settle.slot i).margin = (o.slot i).margin ∧
      ((o.openedFor l x j).settle.slot i).epoch = (o.slot i).epoch ∧
      ((o.openedFor l x j).settle.slot i).flags = (o.slot i).flags ∧
      ((o.openedFor l x j).settle.slot i).rows = (o.slot i).rows ∧
      ((o.openedFor l x j).settle.slot i).totals = (o.slot i).totals := by
    intro i
    obtain ⟨st, d, e⟩ := (o.openedFor l x j).slot_settle i
    rw [e, hj.slots i]
    exact ⟨rfl, rfl, rfl, rfl, rfl, rfl, rfl⟩
  refine ⟨hrecord, hothers, hslot, hsettles, ?_, fun hinc => ?_, hcur'.trans hcur, hcs'.trans hcs,
    fun l' => ((hreads l').2.1).trans (hint l'), hnew'.trans hnew, fun i => ?_, fun i hi => ?_, ?_,
    hfree.trans hj.freeCells⟩
  · rw [(State.ChangesSlots.settle _).lastEpoch, hj.emitter]
  · rw [State.settle_control fun i hi => ?_, hj.control]
    rw [hj.flags]
    exact hinc i (by rw [← hj.state, hi])
  · rw [settle_free, hj.state]
  · have hv : (o.openedFor l x j).slot i = o.slot i := by
      have hw := (State.Writes.continuity l x j o).free i hi
      have hlinks : ((o.openedFor l x j).slot i).links = (o.slot i).links := by
        refine Vector.ext fun n hn => (hrec i ⟨n, hn⟩).trans ?_
        rw [State.record, hw]
        rfl
      rw [hj.slots i, hlinks]
    obtain ⟨st, d, e⟩ := (o.openedFor l x j).slot_settle i
    have hstate := slotsSettle_state hsettles i
    have hdl := hsettles.deadlines i
    rw [hi] at hstate hdl
    simp only [reduceCtorEq, false_and, or_self, if_false] at hstate hdl
    rw [e] at hstate hdl
    rw [e, hv]
    obtain rfl : st = .free := hstate
    obtain rfl : d = (o.slot i).deadline := hdl
    rw [← hi]
  · rw [(hreads l).1, hcounters]
    have hwaits : ((o.openedFor l x j).waitsFor l (o.slotAt j) = true) ↔
        (((o.openedFor l x j).settle.slot (o.slotAt j)).state = .filling ∧
          ((o.openedFor l x j).settle.record (o.slotAt j) l).verdict = .pending) := by
      rw [State.waitsFor_iff, slotsSettle_filling_iff hsettles, hj.state, (hreads l).2.2]
      exact ⟨fun ⟨h1, h2⟩ => ⟨⟨h1, l, by rw [(hreads l).2.2, h2]⟩, h2⟩, fun ⟨⟨h1, _⟩, h2⟩ => ⟨h1, h2⟩⟩
    simp only [hwaits]

/-! ### HB_OPEN in the ring and behind (O29) -/

theorem setCursor_of_some {s : State} {fc : Heartbeat} (h : s.ring.cursor = some fc) (x : Heartbeat) :
    s.setCursor x = s ∧ s.startsPartially x = false := by
  refine ⟨by simp only [State.setCursor, h], ?_⟩
  simp [State.startsPartially, h]

theorem newer_eq (fc x : Heartbeat) (n : Option Heartbeat) :
    newer fc x n = match n with
      | none => some x
      | some n => if 32768 ≤ (n - fc).toNat ∨ (n - fc).toNat < (x - fc).toNat then some x else some n := by
  cases n with
  | none => rfl
  | some n =>
    simp only [newer, Config.halfTurn]
    generalize (n - fc).toNat = a
    generalize (x - fc).toNat = b
    by_cases h1 : 32768 ≤ a
    · rw [if_pos h1, if_pos (.inl h1)]
    · rw [if_neg h1]
      exact if_congr (by simp [h1]) rfl rfl

/-- Settles O29: the slots open first, then the continuity check writes the link's records, and the slots settle. -/
theorem hbOpenTaken : Obligations.HbOpenTaken := by
  refine ⟨fun s s' l x fc resync j hb hfc hplace => ?_, fun s s' l x fc resync hb hfc hbehind => ?_⟩
  · have h := State.begins hb
    have hfc' : s'.ring.cursor = some fc := h.mapping.cursor.trans hfc
    have hat : ∀ k, s'.slotAt k = s.slotAt k := h.mapping.slotAt
    have e : exec .takeHbOpen s = .next ((s'.fillOpen j false).openedFor l x j).settle := by
      have e' : exec .takeHbOpen s = .next (s'.takeOpen l x) := exec_takeOf hb
      obtain ⟨h1, h2⟩ := setCursor_of_some hfc' x
      rw [e', State.takeOpen_eq, h1, h2, h.mapping.place, hplace]
    have ho := s'.fillOpen_ring j false
    have hc := State.ChangesSlots.fillOpen j false s'
    have hslot : ∀ k : Fin 8, (s'.fillOpen j false).slot (s.slotAt k) =
        if k ≤ j ∧ (s.slot (s.slotAt j)).state = .free ∧ (s.slot (s.slotAt k)).state = .free then
          (s.openedSlot k.val false).examined
        else s.slot (s.slotAt k) := by
      intro k
      have hf := State.slot_fillOpen j false s' k
      simp only [hat, h.slot, Bool.false_and, Begins.openedSlot h] at hf
      rw [hf]
      exact if_congr (by tauto) rfl rfl
    have hopens := opens_settle l x j (o := s'.fillOpen j false) (hc.cursor.trans hfc')
    have hoat : ∀ k, (s'.fillOpen j false).slotAt k = s.slotAt k := fun k => (hc.slotAt k).trans (hat k)
    generalize s'.fillOpen j false = o at *
    generalize (o.openedFor l x j).settle = t at *
    have hintake : ∀ l', o.intake l' = s.intake l' := fun l' => (hc.intake_eq l').trans (h.intake l')
    have hcounters : (o.link l).counters = (s.link l).counters := by rw [hc.link, h.counters]
    refine ⟨o, t, e, ho, fun k => ?_, fun p hp i => ?_, fun hnone k => ?_, hopens.others, fun i => ?_, hopens.settles, ?_,
      fun hinc => ?_, hopens.cursor.trans (hc.cursor.trans hfc'), ?_, ?_, fun l' hl => ?_, ?_, fun k hk hfj hfk => ?_,
      fun k hk hfk => ?_, fun k hk => ?_, ?_, ?_⟩
    · rw [hslot k]
      refine if_congr Iff.rfl ?_ rfl
      cases hp : (s.openedSlot k.val false).hasPending with
      | true => rw [Slot.examined_of_pending hp, if_pos rfl]
      | false => rw [Slot.examined_of_done rfl hp, if_neg (by decide)]
    · rw [hopens.record, State.continuity, hintake, hp]
    · intro i r waits
      have hwaits : o.waitsFor l i = true ↔ waits := State.waitsFor_iff ..
      have hcont : o.continuity l x j = o.firstHeartbeat l x j := by
        unfold State.continuity
        rw [hintake, hnone]
      have hrec := (record_firstHeartbeat l x j o k).2
      rw [hoat] at hrec
      rw [hopens.record, hcont, hrec, LinkRecord.miss_eq (fun f => { f with notReady := true }) (fun _ => rfl)]
      exact if_congr (and_congr_left' hwaits) rfl (if_congr (and_congr_left' hwaits) rfl rfl)
    · obtain ⟨h1, h2, h3, h4, h5, h6, h7⟩ := hopens.slot i
      exact ⟨h1, h2, h3, h4, h5, h6, h7, slotsSettle_filling_iff hopens.settles i, slotsSettle_deadline hopens.settles i⟩
    · rw [hopens.lastEpoch, hc.lastEpoch, h.emitter]
    · have hctl : o.control = s'.control := by rw [ho]
      rw [hopens.control fun i hi => ?_, hctl, h.control]
      obtain ⟨k, rfl⟩ := s.slotAt_surjective i
      rw [hslot k] at hi ⊢
      split at hi
      · next hk =>
        rw [if_pos hk, (Slot.examined_frame _).2.2.2.2.1]
        rfl
      · next hk =>
        rw [if_neg hk]
        exact hinc _ hi
    · rw [hopens.cursorSlot, hc.cursorSlot, h.mapping.cursorSlot]
    · rw [hopens.intake, if_pos rfl]
    · rw [hopens.intake, if_neg hl, hintake]
    · rw [hopens.newest, hc.newest, h.newest]
      exact newer_eq ..
    · obtain ⟨h1, h2, h3, h4, h5, h6, h7⟩ := hopens.slot (s.slotAt k)
      obtain ⟨f1, f2, f3, f4, f5, -⟩ := (s.openedSlot k.val false).examined_frame
      rw [hslot k, if_pos ⟨hk, hfj, hfk⟩] at h1 h2 h3 h4 h5
      refine ⟨fun hf => ?_, h1.trans f1, h4.trans f4, h2.trans f2, h3.trans f3, h5.trans f5⟩
      rw [hopens.held, hslot k, if_pos ⟨hk, hfj, hfk⟩, Slot.examined_state_free] at hf
      cases hf
    · have hkeep : ¬ (k ≤ j ∧ (s.slot (s.slotAt j)).state = .free ∧ (s.slot (s.slotAt k)).state = .free) := by
        rintro ⟨h1, h2, -⟩
        exact hk.elim (fun h3 => absurd h1 (not_le.mpr h3)) fun h3 => h3 h2
      have hs := hslot k
      rw [if_neg hkeep] at hs
      rw [hopens.free _ (by rw [hs, hfk]), hs]
    · have hs := hslot k
      rw [if_neg fun h => hk h.2.2] at hs
      obtain ⟨h1, -, -, -, -, h6, -⟩ := hopens.slot (s.slotAt k)
      refine ⟨h1.trans (by rw [hs]), h6.trans (by rw [hs]), fun l' hl => (hopens.others _ l' hl).trans ?_⟩
      rw [State.record, State.record, hs]
    · rw [hopens.counters, hoat, hcounters]
    · rw [hopens.freeCells, ho, h.freeCells]
  · have h := State.begins hb
    have e : exec .takeHbOpen s = .next (s'.takeOpen l x) := exec_takeOf hb
    have hplace : s.place x = .behind := by
      simp only [State.place, hfc]
      exact if_pos hbehind
    rw [e, State.takeOpen_eq, (setCursor_of_some (h.mapping.cursor.trans hfc) x).1, h.mapping.place, hplace]
    rfl

end Sys2Proof.Machine

end

section
/-! The first HB_OPEN taken, which sets the cursor (O27). -/

namespace Sys2Proof.Machine

open Sys2Proof Sys2Proof.Safety

/-- The skipped heartbeats change no record of a slot that is not FILLING. -/
theorem record_skipped_of_ne_filling (l : LinkId) (ys : List Heartbeat) (s : State) {i : SlotId} (hi : (s.slot i).state ≠ .filling)
    (l' : LinkId) : (ys.foldl (State.skipHeartbeat l) s).record i l' = s.record i l' := by
  induction ys generalizing s with
  | nil => rfl
  | cons y ys ih =>
    have hown : s.ownPart l y ≠ some i := fun h => by
      obtain ⟨-, -, -, hf, -⟩ := State.ownPart_eq_some.mp h
      exact hi hf
    have hmargin : s.marginPart l y ≠ some i := fun h => by
      obtain ⟨-, -, -, -, -, hf, -⟩ := State.marginPart_eq_some.mp h
      exact hi hf
    have hstate := (State.Judges.skipHeartbeat l s y).state i
    rw [List.foldl_cons, ih _ (by rwa [hstate]), State.skipHeartbeat_eq, State.record_mapPart, if_neg fun h => hmargin h.1,
      State.record_mapPart, if_neg fun h => hown h.1]

theorem record_continuity_of_ne_filling (l : LinkId) (x : Heartbeat) (j : Fin 8) {s : State} {i : SlotId}
    (hi : (s.slot i).state ≠ .filling) (l' : LinkId) : (s.continuity l x j).record i l' = s.record i l' := by
  by_cases hl : l' = l
  · subst hl
    unfold State.continuity
    split
    · obtain ⟨k, rfl⟩ := s.slotAt_surjective i
      have hw : ¬ s.waitsFor l' (s.slotAt k) = true := fun h => hi ((State.waitsFor_iff ..).mp h).1
      rw [(record_firstHeartbeat l' x j s k).2, if_neg fun h => hw h.1, if_neg fun h => hw h.1]
    · exact record_skipped_of_ne_filling _ _ _ hi _
  · exact record_continuity_ne l x j s hl i

/-- The slot that opens as the cursor is set, next to the one that would open before (R6, R10). -/
theorem openedSlot_setCursor {s : State} (hc : s.ring.cursor = none) (hcommit : s.settings.commit = none) (x : Heartbeat)
    (starts : Bool) :
    (s.setCursor x).openedSlot 0 starts =
      { s.openedSlot 0 false with
        first := sliceStart s.settings.active.span x, epoch := s.settings.epoch, flags := { partialStart := starts } } := by
  have e : s.setCursor x = { s with ring :=
      { s.ring with cursor := some (sliceStart s.settings.active.span x), newest := some x } } := by
    simp only [State.setCursor, hc]
  have hz : sliceStart s.settings.active.span x + BitVec.ofNat 16 (0 * 2 ^ s.settings.active.span) =
      sliceStart s.settings.active.span x := by rw [Nat.zero_mul]; exact BitVec.add_zero _
  rw [e]
  simp only [State.openedSlot, State.sliceFirst, State.epochAt, SettingsUnit.sliceAt, SettingsUnit.endsAtSwitch,
    SettingsUnit.settingsOf, hcommit, hz]
  rfl

/-- The slot that the first HB_OPEN opens as it sets the cursor (R6, R10). -/
def State.firstSlot (x : Heartbeat) (s : State) : Slot :=
  { s.openedSlot 0 false with
    first := sliceStart s.settings.active.span x, epoch := s.settings.epoch
    flags := { partialStart := decide (x ≠ sliceStart s.settings.active.span x) } }

/-- The state of the first taking with its slot open, before the taking writes the link's records. -/
structure FirstOpened (l : LinkId) (x : Heartbeat) (s o : State) : Prop where
  opened : o.slot s.ring.cursorSlot = (s.firstSlot x).examined
  others : ∀ i, i ≠ s.ring.cursorSlot → o.slot i = s.slot i
  cursor : o.ring.cursor = some (sliceStart s.settings.active.span x)
  cursorSlot : o.ring.cursorSlot = s.ring.cursorSlot
  newest : o.ring.newest = some x
  intake : ∀ l', o.intake l' = s.intake l'
  counters : (o.link l).counters = (s.link l).counters
  control : o.control = s.control
  emitter : o.emitter = s.emitter
  uplink : o.uplink = s.uplink
  freeCells : o.freeCells = s.freeCells

theorem firstOpened {s s' : State} {l : LinkId} {x : Heartbeat} {resync : Bool}
    (hb : s.beginTaking = some (l, .hbOpen x resync, s')) (hcur : s.ring.cursor = none) (hcommit : s.settings.commit = none)
    (hspan : s.settings.active.span ≤ 4) (hfree : (s.slot s.ring.cursorSlot).state = .free) :
    ∃ o, FirstOpened l x s o ∧ exec .takeHbOpen s = .next (o.openedFor l x 0).settle := by
  have h := State.begins hb
  have hset := h.settings
  have hcur' : s'.ring.cursor = none := h.mapping.cursor.trans hcur
  have hcommit' : s'.settings.commit = none := h.mapping.commit.trans hcommit
  obtain ⟨hfc, hnew, -, hplace⟩ := State.place_setCursor hcur' hcommit' (by rw [hset]; exact hspan) x
  rw [hset] at hfc
  have hopened := openedSlot_setCursor hcur' hcommit' x (s'.startsPartially x)
  have hstarts : s'.startsPartially x = decide (x ≠ sliceStart s.settings.active.span x) := by
    simp only [State.startsPartially, hcur', hset, true_and]
  rw [Begins.openedSlot h, hset, hstarts] at hopened
  have hu : s'.setCursor x =
      { s' with ring := { s'.ring with cursor := some (sliceStart s.settings.active.span x), newest := some x } } := by
    simp only [State.setCursor, hcur', hset]
  have hslot : ∀ i, (s'.setCursor x).slot i = s.slot i := fun i => by rw [hu]; exact h.slot i
  have hcs : (s'.setCursor x).ring.cursorSlot = s.ring.cursorSlot := by rw [hu]; exact h.mapping.cursorSlot
  have hat0 : (s'.setCursor x).slotAt 0 = s.ring.cursorSlot := by rw [State.slotAt, hcs]; exact add_zero _
  have hfill := State.slot_fillOpen 0 (s'.startsPartially x) (s'.setCursor x)
  have hc := State.ChangesSlots.fillOpen 0 (s'.startsPartially x) (s'.setCursor x)
  have hring := (s'.setCursor x).fillOpen_ring 0 (s'.startsPartially x)
  have hframe : ((s'.setCursor x).fillOpen 0 (s'.startsPartially x)).control = (s'.setCursor x).control ∧
      ((s'.setCursor x).fillOpen 0 (s'.startsPartially x)).emitter = (s'.setCursor x).emitter ∧
      ((s'.setCursor x).fillOpen 0 (s'.startsPartially x)).freeCells = (s'.setCursor x).freeCells := by
    rw [hring]
    exact ⟨rfl, rfl, rfl⟩
  obtain ⟨hctl, hemit, hcells⟩ := hframe
  refine ⟨(s'.setCursor x).fillOpen 0 (s'.startsPartially x), ⟨?_, fun i hi => ?_, hc.cursor.trans hfc, hc.cursorSlot.trans hcs,
    hc.newest.trans hnew, fun l' => ?_, ?_, ?_, ?_, ?_, ?_⟩, ?_⟩
  · have h0 := hfill 0
    rw [hat0, hslot] at h0
    rw [h0, if_pos ⟨hfree, le_rfl, hfree⟩, hstarts]
    exact congrArg Slot.examined ((congrArg (State.openedSlot _ 0) (Bool.and_true _)).trans hopened)
  · obtain ⟨k, rfl⟩ := (s'.setCursor x).slotAt_surjective i
    rw [hfill k, if_neg, hslot]
    rintro ⟨-, hk, -⟩
    rw [Fin.le_zero_iff] at hk
    exact hi (hk ▸ hat0)
  · rw [hc.intake_eq, hu]
    exact h.intake l'
  · rw [hc.link, hu]
    exact h.counters l
  · rw [hctl, hu]
    exact h.control
  · rw [hemit, hu]
    exact h.emitter
  · rw [hc.uplink, hu]
    exact h.uplink
  · rw [hcells, hu]
    exact h.freeCells
  · have e : exec .takeHbOpen s = .next (s'.takeOpen l x) := exec_takeOf hb
    rw [e, State.takeOpen_eq, hplace]

theorem Slot.examined_cases {t : Slot} (h : t.state = .filling) :
    t.hasPending = true ∧ t.examined = t ∨
      (∀ l : LinkId, t.links[l].verdict ≠ .pending) ∧ t.examined.state = .complete ∧ t.examined.deadline = none := by
  cases hp : t.hasPending with
  | true => exact .inl ⟨rfl, Slot.examined_of_pending hp⟩
  | false =>
    rw [Slot.examined_of_done h hp]
    exact .inr ⟨t.hasPending_eq_false.mp hp, rfl, rfl⟩

namespace FirstOpened

variable {l : LinkId} {x : Heartbeat} {s o : State}

theorem slotAt_zero (h : FirstOpened l x s o) : o.slotAt 0 = s.ring.cursorSlot := by
  rw [State.slotAt, h.cursorSlot]
  exact add_zero _

theorem record (h : FirstOpened l x s o) (l' : LinkId) :
    o.record s.ring.cursorSlot l' = (s.openedSlot 0 false).links[l'] := by
  obtain ⟨-, -, -, -, -, hlinks, -⟩ := (s.firstSlot x).examined_frame
  rw [State.record, h.opened, hlinks]
  rfl

/-- The link waits in the slot exactly when it is PENDING in it. -/
theorem waitsFor_iff (h : FirstOpened l x s o) (l' : LinkId) :
    o.waitsFor l' s.ring.cursorSlot = true ↔ (s.openedSlot 0 false).links[l'].verdict = .pending := by
  rw [State.waitsFor_iff, h.record, h.opened]
  refine ⟨And.right, fun hp => ⟨?_, hp⟩⟩
  rw [Slot.examined_of_pending (((s.firstSlot x).hasPending_iff).mpr ⟨l', hp⟩)]
  rfl

end FirstOpened

/-- Settles O27: the cursor is set, the slot there opens, and the taking goes on as in the ring. -/
theorem cursorSetByFirstHeartbeat : Obligations.CursorSetByFirstHeartbeat := by
  intro s s' l x resync hb hcur hcommit hspan hfree fc
  have h := State.begins hb
  obtain ⟨o, ho, e⟩ := firstOpened hb hcur hcommit hspan (hfree _)
  have hopens := opens_settle l x 0 (o := o) ho.cursor
  generalize (o.openedFor l x 0).settle = t at *
  obtain ⟨o1, o2, o3, o4, o5, o6, o7, o8⟩ := (s.firstSlot x).examined_frame
  obtain ⟨h1, h2, h3, h4, h5, h6, h7⟩ := hopens.slot s.ring.cursorSlot
  rw [ho.opened] at h1 h2 h3 h4 h5 h6 h7
  have hspanEq : (s.firstSlot x).span = s.settings.active.span := by
    simp only [State.firstSlot, State.openedSlot, SettingsUnit.settingsOf, hcommit]
  have hmarginEq : (s.firstSlot x).margin = s.settings.active.margin := by
    simp only [State.firstSlot, State.openedSlot, SettingsUnit.settingsOf, SettingsUnit.endsAtSwitch, hcommit]
    rfl
  refine ⟨t, e, hopens.cursor.trans ho.cursor, hopens.cursorSlot.trans ho.cursorSlot, ?newest, ?intake, fun l' hl => ?intakes,
    fun hf => ?held, h1.trans o1, h2.trans (o2.trans hspanEq), h3.trans (o3.trans hmarginEq), h4.trans o4, h5.trans o5,
    h6.trans o7, h7.trans o8, fun hf => ?deadline, ?settles, ?lastEpoch,
    fun l' hl => (hopens.others _ l' hl).trans (ho.record l'), fun hnone => ?record, fun i hi => ?others, ?control, ?counters,
    hopens.freeCells.trans ho.freeCells⟩
  case newest =>
    rw [hopens.newest, ho.newest, newer_eq]
    exact ite_self _
  case intake => rw [hopens.intake, if_pos rfl]
  case intakes => rw [hopens.intake, if_neg hl, ho.intake]
  case held =>
    rw [hopens.held, ho.opened, Slot.examined_state_free] at hf
    cases hf
  case deadline =>
    have hof := ((slotsSettle_filling_iff hopens.settles _).mp hf).1
    rw [slotsSettle_deadline hopens.settles, if_neg fun h => h.2 hf]
    rw [ho.opened] at hof ⊢
    obtain ⟨-, he⟩ | ⟨-, he, -⟩ := Slot.examined_cases (t := s.firstSlot x) rfl
    · rw [he]
      rfl
    · rw [he] at hof
      cases hof
  case settles =>
    intro w
    have hw : ∀ i, w.slot i = if i = s.ring.cursorSlot then { s.openedSlot 0 false with epoch := s.settings.epoch } else s.slot i := by
      intro i
      have hws : w.slot i =
          (s'.mapSlot s.ring.cursorSlot fun _ => { s.openedSlot 0 false with epoch := s.settings.epoch }).slot i := rfl
      rw [hws, State.slot_mapSlot_ite, h.slot]
    refine slotsSettle_of_examined hopens.settles (fun i => ?_) ho.cursor (ho.cursorSlot.trans h.mapping.cursorSlot.symm)
      (ho.emitter.trans h.emitter.symm) (by rw [ho.uplink, ← h.uplink])
    rw [hw]
    by_cases hi : i = s.ring.cursorSlot
    · subst hi
      rw [if_pos rfl, ho.opened]
      refine ⟨o4, ?_⟩
      obtain ⟨-, he⟩ | ⟨hall, he, hd⟩ := Slot.examined_cases (t := s.firstSlot x) rfl
      · rw [he]
        exact .inl ⟨rfl, rfl⟩
      · refine .inr ⟨rfl, he, hd, fun l' => ?_⟩
        rw [hopens.record, record_continuity_of_ne_filling l x 0 (by rw [ho.opened, he]; decide), ho.record]
        exact hall l'
    · rw [if_neg hi, ho.others i hi]
      exact ⟨rfl, .inl ⟨rfl, rfl⟩⟩
  case lastEpoch => rw [hopens.lastEpoch, ho.emitter]
  case record =>
    have hcont : o.continuity l x 0 = o.firstHeartbeat l x 0 := by
      unfold State.continuity
      rw [ho.intake, hnone]
    have hrec := (record_firstHeartbeat l x 0 o 0).2
    have hwaits := ho.waitsFor_iff l
    rw [ho.slotAt_zero, ho.record, ho.opened, o1] at hrec
    rw [hopens.record, hcont, hrec]
    generalize (s.openedSlot 0 false).links[l] = r at *
    refine if_congr ?_ rfl (if_neg fun hlt => absurd hlt.2 (lt_irrefl _))
    rw [hwaits]
    exact ⟨fun ⟨hp, _, hx⟩ => ⟨hp, hx⟩, fun ⟨hp, hx⟩ => ⟨hp, rfl, hx⟩⟩
  case others =>
    have hi' := ho.others i hi
    rw [hopens.free i (by rw [hi', hfree]), hi']
  case control =>
    rw [hopens.control fun i hi => ?_, ho.control]
    by_cases hics : i = s.ring.cursorSlot
    · subst hics
      rw [ho.opened, o5]
      rfl
    · rw [ho.others i hics, hfree] at hi
      cases hi
  case counters => rw [hopens.counters, ho.slotAt_zero, ho.counters]

end Sys2Proof.Machine

end

section
/-! COMMIT: the commit checks, and what a commit that is pending or released changes (O54). -/

namespace Sys2Proof.Machine

open Sys2Proof Sys2Proof.Safety

/-! ### The commit checks (R138) -/

theorem windows_toList (c : Settings) : c.windows.toList = (List.finRange 8).map fun j : Fin 8 => c.windows[j] := by
  refine List.ext_getElem (by simp) fun n h1 h2 => ?_
  simp

theorem mem_activeWindows {c : Settings} {w : Window} :
    w ∈ c.activeWindows ↔ ∃ j : Fin 8, c.windows[j] = w ∧ 1 ≤ w.count := by
  rw [Settings.activeWindows, windows_toList]
  simp only [List.mem_filter, List.mem_map, decide_eq_true_iff]
  exact ⟨fun ⟨⟨j, _, hj⟩, h⟩ => ⟨j, hj, h⟩, fun ⟨j, hj, h⟩ => ⟨⟨j, List.mem_finRange j, hj⟩, h⟩⟩

theorem noWindow_iff (c : Settings) : c.activeWindows.isEmpty = true ↔ ∀ j : Fin 8, c.windows[j].count = 0 := by
  rw [List.isEmpty_iff, List.eq_nil_iff_forall_not_mem]
  refine ⟨fun h j => ?_, fun h w hw => ?_⟩
  · by_contra hj
    exact h _ (mem_activeWindows.mpr ⟨j, rfl, by omega⟩)
  · obtain ⟨j, rfl, hw⟩ := mem_activeWindows.mp hw
    have := h j
    omega

theorem windowRange_iff (c : Settings) : (c.activeWindows.any fun w => 96 < w.start + w.count) = true ↔
    ∃ j : Fin 8, 1 ≤ c.windows[j].count ∧ 96 < c.windows[j].start + c.windows[j].count := by
  simp only [List.any_eq_true, decide_eq_true_iff]
  refine ⟨fun ⟨w, hw, h⟩ => ?_, fun ⟨j, h1, h⟩ => ⟨_, mem_activeWindows.mpr ⟨j, rfl, h1⟩, h⟩⟩
  obtain ⟨j, rfl, h1⟩ := mem_activeWindows.mp hw
  exact ⟨j, h1, h⟩

theorem overlaps_iff (v w : Window) :
    1 ≤ v.count ∧ 1 ≤ w.count ∧ v.overlaps w = true ↔
      ∃ row, (v.start ≤ row ∧ row < v.start + v.count) ∧ w.start ≤ row ∧ row < w.start + w.count := by
  simp only [Window.overlaps, Bool.and_eq_true, decide_eq_true_iff]
  refine ⟨fun ⟨h1, h2, h3, h4⟩ => ⟨max v.start w.start, by omega⟩, fun ⟨row, ⟨h1, h2⟩, h3, h4⟩ => ?_⟩
  omega

theorem overlaps_comm (v w : Window) : v.overlaps w = w.overlaps v := by
  simp only [Window.overlaps, Bool.and_comm]

theorem someOverlap_eq_false_iff (ws : List Window) :
    someOverlap ws = false ↔ ws.Pairwise fun v w => v.overlaps w = false := by
  induction ws with
  | nil => simp [someOverlap]
  | cons w ws ih =>
    simp only [someOverlap, Bool.or_eq_false_iff, List.any_eq_false, List.pairwise_cons, ih, Bool.not_eq_true]

theorem someOverlap_iff (c : Settings) : someOverlap c.activeWindows = true ↔
    ∃ j k : Fin 8, j ≠ k ∧ ∃ row, (c.windows[j].start ≤ row ∧ row < c.windows[j].start + c.windows[j].count) ∧
      c.windows[k].start ≤ row ∧ row < c.windows[k].start + c.windows[k].count := by
  simp only [← overlaps_iff]
  rw [← Bool.not_eq_false, someOverlap_eq_false_iff, Settings.activeWindows, List.pairwise_filter, windows_toList,
    List.pairwise_map]
  simp only [decide_eq_true_iff]
  constructor
  · intro h
    by_contra hno
    refine h ((List.nodup_finRange 8).imp fun {j k} hjk hj hk => ?_)
    by_contra ho
    exact hno ⟨j, k, hjk, hj, hk, Bool.not_eq_false _ ▸ ho⟩
  · rintro ⟨j, k, hjk, hj, hk, ho⟩ h
    have hall := List.pairwise_iff_getElem.mp h
    obtain hlt | hlt := lt_or_gt_of_ne hjk
    · have := hall j.val k.val (by simp) (by simp) hlt
      simp only [List.getElem_finRange, Fin.cast_mk, Fin.eta] at this
      rw [this hj hk] at ho
      cases ho
    · have := hall k.val j.val (by simp) (by simp) hlt
      simp only [List.getElem_finRange, Fin.cast_mk, Fin.eta] at this
      rw [overlaps_comm, this hk hj] at ho
      cases ho

theorem sum_activeWindows (c : Settings) :
    (c.activeWindows.map Window.count).sum = ((List.finRange 8).map fun j : Fin 8 => c.windows[j].count).sum := by
  have h : ∀ ws : List Window, ((ws.filter fun w => 1 ≤ w.count).map Window.count).sum = (ws.map Window.count).sum := by
    intro ws
    induction ws with
    | nil => rfl
    | cons w ws ih =>
      by_cases hw : 1 ≤ w.count
      · rw [List.filter_cons_of_pos (by simpa using hw), List.map_cons, List.map_cons, List.sum_cons, List.sum_cons, ih]
      · rw [List.filter_cons_of_neg (by simpa using hw), ih, List.map_cons, List.sum_cons]
        omega
  rw [Settings.activeWindows, h, windows_toList, List.map_map]
  rfl

theorem refused_iff (v : Curve) : v.refused = true ↔ v.segments = 3 ∧ (v.knee2 ≤ v.knee1 ∨ v.shift3 < v.shift2) := by
  simp only [Curve.refused, Bool.and_eq_true, Bool.or_eq_true, decide_eq_true_iff]

/-- Of five faults the first whose condition holds. -/
theorem firstOf_iff (p1 p2 p3 p4 p5 : Prop) [Decidable p1] [Decidable p2] [Decidable p3] [Decidable p4] [Decidable p5]
    {f : Option CommitFault} (hf : f = if p1 then some .noWindow else if p2 then some .windowRange
      else if p3 then some .windowOverlap else if p4 then some .windowTotal else if p5 then some .curve else none) :
    (f = some .noWindow ↔ p1) ∧ (f = some .windowRange ↔ ¬ p1 ∧ p2) ∧ (f = some .windowOverlap ↔ ¬ p1 ∧ ¬ p2 ∧ p3) ∧
    (f = some .windowTotal ↔ ¬ p1 ∧ ¬ p2 ∧ ¬ p3 ∧ p4) ∧ (f = some .curve ↔ ¬ p1 ∧ ¬ p2 ∧ ¬ p3 ∧ ¬ p4 ∧ p5) := by
  by_cases h1 : p1
  · simp [hf, h1]
  by_cases h2 : p2
  · simp [hf, h1, h2]
  by_cases h3 : p3
  · simp [hf, h1, h2, h3]
  by_cases h4 : p4
  · simp [hf, h1, h2, h3, h4]
  by_cases h5 : p5
  · simp [hf, h1, h2, h3, h4, h5]
  · simp [hf, h1, h2, h3, h4, h5]

/-- Which fault a COMMIT names, over the conditions that the checks stand for: the first of the five that fails. -/
theorem firstFault_iff {c : Settings} {noWindow range overlap total curve : Prop}
    (h1 : c.activeWindows.isEmpty = true ↔ noWindow)
    (h2 : (c.activeWindows.any fun w => 96 < w.start + w.count) = true ↔ range)
    (h3 : someOverlap c.activeWindows = true ↔ overlap)
    (h4 : (c.activeWindows.map Window.count).sum ≠ c.rowTotal ↔ total)
    (h5 : (c.curveA.refused || c.curveB.refused) = true ↔ curve) :
    (c.firstFault = some .noWindow ↔ noWindow) ∧
    (c.firstFault = some .windowRange ↔ ¬ noWindow ∧ range) ∧
    (c.firstFault = some .windowOverlap ↔ ¬ noWindow ∧ ¬ range ∧ overlap) ∧
    (c.firstFault = some .windowTotal ↔ ¬ noWindow ∧ ¬ range ∧ ¬ overlap ∧ total) ∧
    (c.firstFault = some .curve ↔ ¬ noWindow ∧ ¬ range ∧ ¬ overlap ∧ ¬ total ∧ curve) := by
  rw [← h1, ← h2, ← h3, ← h4, ← h5]
  exact firstOf_iff _ _ _ _ _ rfl

/-! ### MARGIN_CUT at a COMMIT (R33, R143) -/

/-- What MARGIN_CUT leaves of a slot, and what it does to its records. -/
theorem slotCut_spec (t : Slot) :
    t.cut.state = t.state ∧ t.cut.deadline = t.deadline ∧ t.cut.epoch = t.epoch ∧ t.cut.first = t.first ∧
      t.cut.rows = t.rows ∧ t.cut.margin = 0 ∧ t.cut.flags = { t.flags with marginCut := true } ∧
      ∀ l : LinkId, t.cut.links[l] =
        if t.state = .filling ∧ t.links[l].margin = .awaited then { t.links[l] with verdict := .done, margin := .notNeeded }
        else t.links[l] := by
  by_cases hf : t.state = .filling
  · have e : t.cut = ({ t with margin := 0, flags := { t.flags with marginCut := true } } : Slot).mapRecords
        LinkRecord.cutMargin := if_pos hf
    obtain ⟨h1, h2, -, h4, h5, h6, h7, h8, -⟩ := ({ t with
      margin := 0, flags := { t.flags with marginCut := true } } : Slot).mapRecords_frame LinkRecord.cutMargin
    rw [e]
    refine ⟨h1, h6, h5, h2, h8, h4, h7, fun l => ?_⟩
    rw [Slot.mapRecords_links, LinkRecord.cutMargin]
    exact if_congr (by simp [hf]) rfl rfl
  · have e : t.cut = { t with margin := 0, flags := { t.flags with marginCut := true } } := if_neg hf
    rw [e]
    exact ⟨rfl, rfl, rfl, rfl, rfl, rfl, rfl, fun l => (if_neg fun h => hf h.1).symm⟩

/-- MARGIN_CUT reaches the slot that the last old slice stands in, when it is not FREE. -/
theorem slot_cutLastOld (c : PendingCommit) (fc : Heartbeat) (s : State) (j : Fin 8) :
    (s.cutLastOld c fc).slot (s.slotAt j) =
      if c.oldSlices fc = j.val + 1 ∧ (s.slot (s.slotAt j)).state ≠ .free then (s.slot (s.slotAt j)).cut
      else s.slot (s.slotAt j) := by
  unfold State.cutLastOld
  split
  · next h =>
    dsimp only
    have hiff : c.oldSlices fc = j.val + 1 ↔ j = ⟨c.oldSlices fc - 1, by omega⟩ := by
      rw [Fin.ext_iff]
      simp only
      omega
    by_cases hj : j = ⟨c.oldSlices fc - 1, by omega⟩
    · rw [← hj]
      by_cases hf : (s.slot (s.slotAt j)).state = .free
      · rw [if_pos hf, if_neg fun h => h.2 hf]
      · rw [if_neg hf, State.slot_mapSlot, if_pos ⟨hiff.mpr hj, hf⟩]
    · rw [if_neg (fun h => hj (hiff.mp h.1) : ¬ (c.oldSlices fc = j.val + 1 ∧ (s.slot (s.slotAt j)).state ≠ .free))]
      split
      · rfl
      · exact State.slot_mapSlot_ne (fun e => hj (s.slotAt_injective e)) _ _
  · next h => rw [if_neg fun hj => h (by omega)]

/-! ### A commit that becomes pending (R141, R143, R145) -/

/-- A COMMIT with the cursor set, before its slots settle. -/
def State.committed (fc : Heartbeat) (s : State) : State :=
  ((s.withCommit fc).cutLastOld (s.newCommit fc) fc).releaseCommit

/-- What a COMMIT changes next to the slots. -/
theorem committed_frame {s : State} {fc : Heartbeat} (hfc : s.ring.cursor = some fc) :
    (s.committed fc).settings.epoch = s.settings.epoch + 1 ∧ (s.committed fc).settings.active = s.settings.staging ∧
    (s.committed fc).settings.staging = s.settings.staging ∧
    (s.committed fc).padTable.active = s.padTable.active.other ∧ (s.committed fc).padTable.bankA = s.padTable.bankA ∧
    (s.committed fc).padTable.bankB = s.padTable.bankB ∧
    ((s.newCommit fc).switchHeartbeat = fc →
      (s.committed fc).settings.commit = none ∧ (s.committed fc).padTable.stale = true ∧
      (s.committed fc).emitter.lastEpoch =
        if s.emitter.lastEpoch = some (s.settings.epoch + 1) then some s.settings.epoch else s.emitter.lastEpoch) ∧
    ((s.newCommit fc).switchHeartbeat ≠ fc →
      (s.committed fc).settings.commit = some (s.newCommit fc) ∧ (s.committed fc).padTable.stale = s.padTable.stale ∧
      (s.committed fc).emitter.lastEpoch = s.emitter.lastEpoch) ∧
    (s.committed fc).emitter = { s.emitter with lastEpoch := (s.committed fc).emitter.lastEpoch } ∧
    (s.committed fc).control = s.control := by
  have hc := State.ChangesSlots.cutLastOld (s.newCommit fc) fc (s.withCommit fc)
  have hw := State.Writes.cutLastOld (s.newCommit fc) fc (s.withCommit fc)
  have hcontrol : ((s.withCommit fc).cutLastOld (s.newCommit fc) fc).control = s.control := by
    unfold State.cutLastOld
    split
    · dsimp only
      split <;> rfl
    · rfl
  have hcommit : ((s.withCommit fc).cutLastOld (s.newCommit fc) fc).settings.commit = some (s.newCommit fc) := by
    rw [hc.settings]
    rfl
  have hcursor : ((s.withCommit fc).cutLastOld (s.newCommit fc) fc).ring.cursor = some fc := hc.cursor.trans hfc
  have hset := hc.settings
  have hpad := hc.padTable
  have hemit := hw.emitter
  unfold State.committed
  generalize (s.withCommit fc).cutLastOld (s.newCommit fc) fc = u at *
  obtain ⟨c, hcm, hcur, e⟩ | ⟨hno, e⟩ := u.releaseCommit_cases
  · obtain rfl := Option.some.inj (hcommit.symm.trans hcm)
    have hsw : fc = (s.newCommit fc).switchHeartbeat := Option.some.inj (hcursor.symm.trans hcur)
    rw [e]
    dsimp only [State.endCommit]
    rw [hset, hpad, hemit, hcontrol]
    exact ⟨rfl, rfl, rfl, rfl, rfl, rfl, fun _ => ⟨rfl, rfl, rfl⟩, fun h => absurd hsw.symm h, rfl, rfl⟩
  · have hsw : (s.newCommit fc).switchHeartbeat ≠ fc := fun h => hno _ hcommit (by rw [hcursor, h])
    rw [e, hset, hpad, hemit, hcontrol]
    exact ⟨rfl, rfl, rfl, rfl, rfl, rfl, fun h => absurd h hsw, fun _ => ⟨rfl, rfl, rfl⟩, rfl, rfl⟩

/-- What a COMMIT does to the slot at offset `j`. -/
theorem slot_committed (s : State) (fc : Heartbeat) (j : Fin 8) :
    (s.committed fc).slot (s.slotAt j) =
      if (s.newCommit fc).oldSlices fc = j.val + 1 ∧ (s.slot (s.slotAt j)).state ≠ .free then (s.slot (s.slotAt j)).cut
      else s.slot (s.slotAt j) := by
  obtain ⟨-, hring, -⟩ := ((s.withCommit fc).cutLastOld (s.newCommit fc) fc).releaseCommit_frame
  rw [State.committed, State.slot, hring]
  exact slot_cutLastOld (s.newCommit fc) fc (s.withCommit fc) j

/-- A COMMIT leaves links, pool, uplink, return lane and the ring next to its slots. -/
theorem committed_ring (s : State) (fc : Heartbeat) :
    (s.committed fc).ring.cursor = s.ring.cursor ∧ (s.committed fc).ring.newest = s.ring.newest ∧
    (s.committed fc).ring.cursorSlot = s.ring.cursorSlot ∧ (s.committed fc).ring.intake = s.ring.intake ∧
    (s.committed fc).links = s.links ∧ (s.committed fc).freeCells = s.freeCells ∧ (s.committed fc).uplink = s.uplink ∧
    (s.committed fc).lane = s.lane := by
  have hc := State.ChangesSlots.cutLastOld (s.newCommit fc) fc (s.withCommit fc)
  have hcells : ((s.withCommit fc).cutLastOld (s.newCommit fc) fc).freeCells = s.freeCells := by
    unfold State.cutLastOld
    split
    · dsimp only
      split <;> rfl
    · rfl
  obtain ⟨hl, hr, hf, hu, hlane, -⟩ := ((s.withCommit fc).cutLastOld (s.newCommit fc) fc).releaseCommit_frame
  rw [State.committed, hl, hr, hf, hu, hlane, hc.cursor, hc.newest, hc.cursorSlot, hc.intake, hc.links, hc.uplink, hc.lane, hcells]
  exact ⟨rfl, rfl, rfl, rfl, rfl, rfl, rfl, rfl⟩

theorem commitAct_pending {q : Request} {s : State} {fc n : Heartbeat} (hf : s.settings.staging.firstFault = none)
    (hfc : s.ring.cursor = some fc) (hn : s.ring.newest = some n) :
    commitAct q s = ((s.committed fc).settle, ⟨.ok, false,
      [BitVec.ofNat 32 ((switchAfter n s.settings.active.span s.settings.staging.span).toNat * 65536 + 256 +
        (s.settings.epoch + 1).toNat)]⟩) := by
  have e : commitAct q s = s.commitPendingFrom fc := by simp only [commitAct, hf, hfc]
  have e1 := s.commitPendingFrom_fst fc
  have e2 : (s.commitPendingFrom fc).2 = ⟨.ok, false,
      [BitVec.ofNat 32 ((switchAfter n s.settings.active.span s.settings.staging.span).toNat * 65536 + 256 +
        (s.settings.epoch + 1).toNat)]⟩ := by
    simp only [State.commitPendingFrom, hn, Option.getD_some, placed_of_lt (BitVec.isLt _), placedFlag, Bool.toNat_true,
      Nat.one_mul, Nat.pow_zero, Nat.mul_one, word, State.bringIntoForce, Nat.reducePow]
  rw [e, ← e2, State.committed, ← e1]

/-- What a COMMIT does to a slot that is not FREE, at offset `j`. -/
theorem slot_committed_settle {s : State} {fc : Heartbeat} {j : Fin 8} (hheld : (s.slot (s.slotAt j)).state ≠ .free) :
    (((s.committed fc).settle.slot (s.slotAt j)).first = (s.slot (s.slotAt j)).first ∧
      ((s.committed fc).settle.slot (s.slotAt j)).epoch = (s.slot (s.slotAt j)).epoch ∧
      ((s.committed fc).settle.slot (s.slotAt j)).rows = (s.slot (s.slotAt j)).rows) ∧
    ((s.newCommit fc).oldSlices fc = j.val + 1 → ((s.committed fc).settle.slot (s.slotAt j)).margin = 0 ∧
      ((s.committed fc).settle.slot (s.slotAt j)).flags = { (s.slot (s.slotAt j)).flags with marginCut := true }) ∧
    (¬ (s.newCommit fc).oldSlices fc = j.val + 1 →
      ((s.committed fc).settle.slot (s.slotAt j)).margin = (s.slot (s.slotAt j)).margin ∧
      ((s.committed fc).settle.slot (s.slotAt j)).flags = (s.slot (s.slotAt j)).flags) ∧
    ∀ l, (s.committed fc).settle.record (s.slotAt j) l =
      if (s.newCommit fc).oldSlices fc = j.val + 1 ∧ (s.slot (s.slotAt j)).state = .filling ∧
          (s.record (s.slotAt j) l).margin = .awaited then
        { s.record (s.slotAt j) l with verdict := .done, margin := .notNeeded }
      else s.record (s.slotAt j) l := by
  obtain ⟨st, d, e⟩ := (s.committed fc).slot_settle (s.slotAt j)
  have hs := slot_committed s fc j
  obtain ⟨-, -, hepoch, hfirst, hrows, hmargin, hflags, hlinks⟩ := slotCut_spec (s.slot (s.slotAt j))
  by_cases hcut : (s.newCommit fc).oldSlices fc = j.val + 1
  · rw [if_pos ⟨hcut, hheld⟩] at hs
    rw [e, hs]
    refine ⟨⟨hfirst, hepoch, hrows⟩, fun _ => ⟨hmargin, hflags⟩, fun h => absurd hcut h, fun l => ?_⟩
    rw [State.record_settle, State.record, hs, hlinks]
    exact if_congr (by simp [hcut, State.record]) rfl rfl
  · rw [if_neg fun h => hcut h.1] at hs
    rw [e, hs]
    refine ⟨⟨rfl, rfl, rfl⟩, fun h => absurd h hcut, fun _ => ⟨rfl, rfl⟩, fun l => ?_⟩
    rw [State.record_settle, State.record, hs, if_neg fun h => hcut h.1]
    rfl

theorem slotsSettle_committed {s : State} {fc : Heartbeat} (hfc : s.ring.cursor = some fc) :
    SlotsSettle s (s.committed fc).settle := by
  obtain ⟨hcur, -, hcs, -, -, -, hup, -⟩ := committed_ring s fc
  obtain ⟨-, -, -, -, -, -, -, -, hemit, -⟩ := committed_frame hfc
  refine slotsSettle_settle (fun i => ?_) hcur hcs hemit (by rw [hup])
  obtain ⟨j, rfl⟩ := s.slotAt_surjective i
  obtain ⟨hstate, hdl, hepoch, -⟩ := slotCut_spec (s.slot (s.slotAt j))
  rw [slot_committed]
  split
  · exact ⟨hstate, hdl, hepoch⟩
  · exact ⟨rfl, rfl, rfl⟩

/-- Settles O54: a COMMIT refused, applied at once, or pending from its switch heartbeat on; the five checks in order. -/
theorem commitOutcomes : Obligations.CommitOutcomes := by
  refine ⟨fun s q rest hq hh hc hp hcommit hcopy => ?_, fun c => ?checks, rfl⟩
  case checks =>
    intro holds refused noWindow range overlap total curve
    have hcurve : (c.curveA.refused || c.curveB.refused) = true ↔ curve := by
      rw [Bool.or_eq_true, refused_iff, refused_iff]
    have htotal : (c.activeWindows.map Window.count).sum ≠ c.rowTotal ↔ total := by rw [sum_activeWindows]
    exact firstFault_iff (noWindow_iff c) (windowRange_iff c) (someOverlap_iff c) htotal hcurve
  intro epoch
  have hbusy : (s.withRequests rest).banksBusy = false := banksBusy_of_none hcommit hcopy
  have hreply : ∀ {u : State} {rest' : List Request} {st : Status} {clamped : Bool} {words : List Word32},
      commitAct q (s.withRequests rest) = (u.withRequests rest', ⟨st, clamped, words⟩) →
      exec .commit s = .next (replied q rest' st clamped words u) := by
    intro u rest' st clamped words h
    refine next_execute hq hh hc ?_
    rw [unlessBusy_of_not hbusy, withLength_of_eq (n := 0) (length_of_payload hp), h]
  refine ⟨fun f hf => hreply ?_, fun hf hcur => hreply ?_, fun fc n hf hfc hn => ?_⟩
  · have hcode : f.code < 2 ^ 3 := by cases f <;> decide
    have e : commitAct q (s.withRequests rest) =
        ({ s.withRequests rest with control := { (s.withRequests rest).control with configReject := some f } },
          ⟨.rejected, false, [word (placed f.code 0 3)]⟩) := by
      simp only [commitAct, State.withRequests, hf]
    rw [e, word_placed_zero hcode]
    rfl
  · have e : commitAct q (s.withRequests rest) = (s.withRequests rest).commitNow := by
      simp only [commitAct, State.withRequests, hf, hcur]
    rw [e, State.commitNow, word_placed_zero (BitVec.isLt _)]
    rfl
  intro h
  have hact := commitAct_pending (q := q) (s := s.withRequests rest) hf hfc hn
  have hsw : ((s.withRequests rest).newCommit fc).switchHeartbeat = h := by
    rw [State.newCommit]
    exact congrArg (switchAfter · _ _) (congrArg (Option.getD · (fc - 1)) hn)
  have hnew : (s.withRequests rest).newCommit fc =
      { switchHeartbeat := h, oldSpan := s.settings.active.span, oldEpoch := s.settings.epoch
        outgoing := s.settings.active } := by
    rw [← hsw]
    rfl
  obtain ⟨f1, f2, f3, f4, f5, f6, hrel, hpend, -, hctl⟩ := committed_frame (s := s.withRequests rest) hfc
  obtain ⟨r1, r2, r3, r4, r5, r6, r7, r8⟩ := committed_ring (s.withRequests rest) fc
  have hsettles := slotsSettle_committed (s := s.withRequests rest) hfc
  have hslots := fun j => slot_committed_settle (s := s.withRequests rest) (fc := fc) (j := j)
  have hc := State.ChangesSlots.settle ((s.withRequests rest).committed fc)
  obtain ⟨-, hcells, -⟩ := ((s.withRequests rest).committed fc).settle_frame
  rw [hsw] at hrel hpend
  simp only [PendingCommit.oldSlices, hnew] at hslots
  have hcontrol := hc.control
  rw [hctl] at hcontrol
  have hlast := hc.lastEpoch
  have hsettings := hc.settings
  have hpad := hc.padTable
  have hqueue : ((s.withRequests rest).committed fc).settle.control.queue = rest := by
    rw [hcontrol]
    rfl
  have hlinks := hc.links.trans r5
  have hup := hc.uplink.trans r7
  have hlane := hc.lane.trans r8
  have hfree := hcells.trans r6
  have hcur := hc.cursor.trans r1
  have hnewest := hc.newest.trans r2
  have hcs := hc.cursorSlot.trans r3
  have hint := hc.intake.trans r4
  clear hc hcells
  generalize State.settle _ = t at *
  refine ⟨t.withRequests s.control.queue, hreply (hact.trans ?_), ?_, ?_, ?_, ?_, ?_, ?_, fun hs => ⟨?_, ?_⟩, fun hs => ⟨?_, ?_⟩,
    fun i j hi hheld => ?_, hcur.trans hfc, hnewest.trans hn, hcs, hint, hlinks, hfree, hup, hlane,
    ⟨hsettles.states, hsettles.deadlines, hsettles.takes, hsettles.stays⟩, fun hs hle => ?_, fun hs => ?_, ?_⟩
  · rw [← hqueue]
    rfl
  · exact (congrArg SettingsUnit.epoch hsettings).trans f1
  · exact (congrArg SettingsUnit.active hsettings).trans f2
  · exact (congrArg SettingsUnit.staging hsettings).trans f3
  · exact (congrArg PadTable.active hpad).trans f4
  · exact (congrArg PadTable.bankA hpad).trans f5
  · exact (congrArg PadTable.bankB hpad).trans f6
  · exact (congrArg SettingsUnit.commit hsettings).trans (hrel hs).1
  · exact (congrArg PadTable.stale hpad).trans (hrel hs).2.1
  · exact (congrArg SettingsUnit.commit hsettings).trans ((hpend hs).1.trans (congrArg some hnew))
  · exact (congrArg PadTable.stale hpad).trans (hpend hs).2.1
  · subst hi
    obtain ⟨⟨h1, h2, h3⟩, h4, h5, h6⟩ := hslots j hheld
    exact ⟨h1, h2, h3, h4, h5, h6⟩
  · exact hlast.trans ((hrel hs).2.2.trans (if_pos hle))
  · by_cases hsf : h = fc
    · exact hlast.trans ((hrel hsf).2.2.trans (if_neg (hs.resolve_left fun hne => hne hsf)))
    · exact hlast.trans (hpend hsf).2.2
  · exact congrArg (fun k : Control => { k with queue := s.control.queue }) hcontrol

end Sys2Proof.Machine

end

section
/-! The conditioner: widening, runs and merging (O40), and codes (O42). -/

namespace Sys2Proof.Machine

open Sys2Proof Sys2Proof.Safety

/-! ### Widening (R86) -/

theorem extend_iff (pre post : Nat) (kept : List Bool) (i : Nat) :
    (extend pre post kept)[i]? = some true ↔
      i < kept.length ∧ ∃ m : Nat, kept[m]? = some true ∧ m ≤ i + pre ∧ i ≤ m + post := by
  have hany : (kept.zipIdx.any fun m => m.1 && decide (m.2 ≤ i + pre) && decide (i ≤ m.2 + post)) = true ↔
      ∃ m : Nat, kept[m]? = some true ∧ m ≤ i + pre ∧ i ≤ m + post := by
    simp only [List.any_eq_true, Bool.and_eq_true, decide_eq_true_iff]
    constructor
    · rintro ⟨⟨b, m⟩, hm, ⟨hb, h1⟩, h2⟩
      obtain rfl : b = true := hb
      exact ⟨m, List.mem_zipIdx_iff_getElem?.mp hm, h1, h2⟩
    · rintro ⟨m, hm, h1, h2⟩
      exact ⟨(true, m), List.mem_zipIdx_iff_getElem?.mpr hm, ⟨rfl, h1⟩, h2⟩
  rw [← hany, extend, List.getElem?_map]
  by_cases hi : i < kept.length
  · rw [List.getElem?_range hi, Option.map_some, Option.some.injEq]
    exact ⟨fun h => ⟨hi, h⟩, And.right⟩
  · rw [List.getElem?_eq_none (by simpa using hi)]
    exact iff_of_false (by simp) fun h => hi h.1

/-! ### Maximal runs (R87) -/

/-- A maximal run of marked indices of a list. -/
def IsRun (marks : List Bool) (r : Run) : Prop :=
  1 ≤ r.length ∧ (∀ k, k < r.length → marks[r.start + k]? = some true) ∧
    marks[r.start + r.length]? ≠ some true ∧ (r.start = 0 ∨ marks[r.start - 1]? = some false)

/-- The marked indices `a` to `i − 1`, with no mark before and none behind, are the one run that starts among them. -/
theorem isRun_block {marks : List Bool} {a i : Nat} (hai : a < i) (hin : ∀ m, a ≤ m → m < i → marks[m]? = some true)
    (hend : marks[i]? ≠ some true) (hstart : a = 0 ∨ marks[a - 1]? = some false) (r : Run) :
    r = ⟨a, i - a⟩ ↔ IsRun marks r ∧ a ≤ r.start ∧ r.start ≤ i := by
  constructor
  · rintro rfl
    have he : a + (i - a) = i := by omega
    refine ⟨⟨by simp only; omega, fun k hk => ?_, by simpa only [he] using hend, hstart⟩, le_rfl, hai.le⟩
    simp only at hk ⊢
    exact hin _ (by omega) (by omega)
  · obtain ⟨start, length⟩ := r
    rintro ⟨⟨h1, h2, h3, h4⟩, h5, h6⟩
    simp only at h1 h2 h3 h4 h5 h6
    have hfirst := h2 0 h1
    have hne : start ≠ i := fun h => hend (by rw [← h]; exact hfirst)
    obtain rfl : start = a := by
      by_contra hsa
      have ht := hin (start - 1) (by omega) (by omega)
      obtain h4 | h4 := h4
      · omega
      · rw [ht] at h4
        cases h4
    have hle : start + length ≤ i := by
      by_contra hlt
      have ht := h2 (i - start) (by omega)
      rw [show start + (i - start) = i by omega] at ht
      exact hend ht
    have hge : i ≤ start + length := by
      by_contra hlt
      exact h3 (hin _ (by omega) (by omega))
    rw [Run.mk.injEq]
    exact ⟨rfl, by omega⟩

/-- The marks from index `i` on, with a run open from `b` (or none, and `b = i`): the runs found are those that start at `b`
or later. -/
theorem mem_runsFrom {full : List Bool} (marks : List Bool) : ∀ (i : Nat) (opened : Option Nat), full.drop i = marks →
    opened.getD i ≤ i → (∀ a, opened = some a → a < i) →
    (∀ m, opened.getD i ≤ m → m < i → full[m]? = some true) →
    (opened.getD i = 0 ∨ full[opened.getD i - 1]? = some false) → ∀ r,
    r ∈ runsFrom i opened marks ↔ IsRun full r ∧ opened.getD i ≤ r.start := by
  have hhead : ∀ {i : Nat} {b : Bool} {t : List Bool}, full.drop i = b :: t → full[i]? = some b ∧ full.drop (i + 1) = t := by
    intro i b t h
    refine ⟨?_, ?_⟩
    · rw [← List.head?_drop, h]
      rfl
    · rw [← List.tail_drop, h]
      rfl
  have hnil : ∀ {i : Nat}, full.drop i = [] → ∀ m, i ≤ m → full[m]? ≠ some true := by
    intro i h m hm hs
    rw [List.drop_eq_nil_iff] at h
    rw [List.getElem?_eq_none (by omega)] at hs
    cases hs
  induction marks with
  | nil =>
    intro i opened hfull hle hopen hin hstart r
    have hend := hnil hfull
    cases opened with
    | none =>
      refine iff_of_false (by simp [runsFrom]) fun ⟨⟨h1, h2, _⟩, h5⟩ => ?_
      exact hend _ (by simp only [Option.getD_none] at h5; omega) (h2 0 h1)
    | some a =>
      rw [runsFrom, List.mem_singleton, isRun_block (hopen a rfl) hin (hend i le_rfl) hstart]
      refine ⟨fun ⟨h, h1, _⟩ => ⟨h, h1⟩, fun ⟨h, h1⟩ => ⟨h, h1, ?_⟩⟩
      by_contra hlt
      exact hend _ (by omega) (h.2.1 0 h.1)
  | cons b t ih =>
    intro i opened hfull hle hopen hin hstart r
    obtain ⟨hb, ht⟩ := hhead hfull
    cases b with
    | true =>
      have hin' : ∀ c, c ≤ i → (∀ m, c ≤ m → m < i → full[m]? = some true) → ∀ m, c ≤ m → m < i + 1 → full[m]? = some true := by
        intro c hc h m h1 h2
        obtain rfl | h3 := Nat.eq_or_lt_of_le (Nat.lt_succ_iff.mp h2)
        · exact hb
        · exact h m h1 h3
      cases opened with
      | none => exact ih (i + 1) (some i) ht (by simp) (by simp) (hin' i le_rfl hin) hstart r
      | some a =>
        exact ih (i + 1) (some a) ht (hle.trans (by simp)) (fun c hc => (hopen c hc).trans (Nat.lt_succ_self i))
          (hin' a hle hin) hstart r
    | false =>
      have hrest := ih (i + 1) none ht le_rfl (by simp) (fun m h1 h2 => absurd h1 (not_le.mpr h2)) (.inr hb) r
      simp only [Option.getD_none] at hrest
      have hnot : IsRun full r → r.start ≠ i := fun h he => by
        have h0 := h.2.1 0 h.1
        rw [Nat.add_zero, he, hb] at h0
        cases h0
      cases opened with
      | none =>
        rw [runsFrom, hrest]
        refine and_congr_right fun h => ?_
        have := hnot h
        simp only [Option.getD_none]
        omega
      | some a =>
        rw [runsFrom, List.mem_cons, hrest, isRun_block (hopen a rfl) hin (by rw [hb]; decide) hstart]
        have ha := hopen a rfl
        simp only [Option.getD_some]
        constructor
        · rintro (⟨h, h1, _⟩ | ⟨h, h1⟩)
          · exact ⟨h, h1⟩
          · exact ⟨h, by omega⟩
        · rintro ⟨h, h1⟩
          by_cases h2 : r.start ≤ i
          · exact .inl ⟨h, h1, h2⟩
          · exact .inr ⟨h, by omega⟩

theorem start_runsFrom (marks : List Bool) : ∀ (i : Nat) (opened : Option Nat), opened.getD i ≤ i →
    ∀ q ∈ runsFrom i opened marks, opened.getD i ≤ q.start := by
  induction marks with
  | nil =>
    intro i opened hle q hq
    cases opened with
    | none => simp [runsFrom] at hq
    | some a =>
      rw [runsFrom, List.mem_singleton] at hq
      rw [hq]
      exact le_rfl
  | cons b t ih =>
    intro i opened hle q hq
    cases b with
    | true =>
      cases opened with
      | none => exact ih (i + 1) (some i) (Nat.le_succ i) q hq
      | some a => exact ih (i + 1) (some a) (hle.trans (Nat.le_succ i)) q hq
    | false =>
      cases opened with
      | none => exact (Nat.le_succ i).trans (ih (i + 1) none le_rfl q hq)
      | some a =>
        rw [runsFrom, List.mem_cons] at hq
        obtain rfl | hq := hq
        · exact le_rfl
        · exact hle.trans ((Nat.le_succ i).trans (ih (i + 1) none le_rfl q hq))

/-- The runs found stand in order, with an unmarked index between any two. -/
theorem pairwise_runsFrom (marks : List Bool) : ∀ (i : Nat) (opened : Option Nat), opened.getD i ≤ i →
    (runsFrom i opened marks).Pairwise fun r q => r.start + r.length < q.start := by
  induction marks with
  | nil =>
    intro i opened _
    cases opened with
    | none => exact .nil
    | some a => exact List.pairwise_singleton _ _
  | cons b t ih =>
    intro i opened hle
    cases b with
    | true =>
      cases opened with
      | none => exact ih (i + 1) (some i) (Nat.le_succ i)
      | some a => exact ih (i + 1) (some a) (hle.trans (Nat.le_succ i))
    | false =>
      cases opened with
      | none => exact ih (i + 1) none le_rfl
      | some a =>
        refine List.pairwise_cons.mpr ⟨fun q hq => ?_, ih (i + 1) none le_rfl⟩
        have hq' : i + 1 ≤ q.start := start_runsFrom t (i + 1) none le_rfl q hq
        have ha : a ≤ i := hle
        simp only
        omega

/-! ### Merging (R87) -/

/-- Two runs on: what merging does to a first run. -/
theorem mergeRuns_cons_cons (gap : Nat) (r r' : Run) (rs : List Run) :
    ∃ q qs, mergeRuns gap (r' :: rs) = q :: qs ∧ q.start = r'.start ∧
      mergeRuns gap (r :: r' :: rs) =
        if q.start - (r.start + r.length) ≤ gap then ⟨r.start, q.start + q.length - r.start⟩ :: qs else r :: q :: qs := by
  have hhead : ∃ q qs, mergeRuns gap (r' :: rs) = q :: qs ∧ q.start = r'.start := by
    unfold mergeRuns
    split
    · exact ⟨_, _, rfl, rfl⟩
    · split
      · exact ⟨_, _, rfl, rfl⟩
      · exact ⟨_, _, rfl, rfl⟩
  obtain ⟨q, qs, e, hq⟩ := hhead
  exact ⟨q, qs, e, hq, by rw [mergeRuns, e]⟩

/-- An index lies in one of the runs. -/
def Covered (runs : List Run) (i : Nat) : Prop := ∃ r ∈ runs, r.start ≤ i ∧ i < r.start + r.length

/-- An index lies between two neighbouring runs that are at most `gap` apart. -/
def Bridged (gap : Nat) (runs : List Run) (i : Nat) : Prop :=
  ∃ (k : Nat) (r q : Run), runs[k]? = some r ∧ runs[k + 1]? = some q ∧
    q.start - (r.start + r.length) ≤ gap ∧ r.start + r.length ≤ i ∧ i < q.start

theorem covered_cons (r : Run) (runs : List Run) (i : Nat) :
    Covered (r :: runs) i ↔ (r.start ≤ i ∧ i < r.start + r.length) ∨ Covered runs i := by
  simp [Covered]

theorem bridged_cons_cons (gap : Nat) (r r' : Run) (rs : List Run) (i : Nat) :
    Bridged gap (r :: r' :: rs) i ↔
      (r'.start - (r.start + r.length) ≤ gap ∧ r.start + r.length ≤ i ∧ i < r'.start) ∨ Bridged gap (r' :: rs) i := by
  constructor
  · rintro ⟨k, a, b, ha, hb, h⟩
    cases k with
    | zero =>
      obtain rfl := Option.some.inj ha
      obtain rfl := Option.some.inj hb
      exact .inl h
    | succ k => exact .inr ⟨k, a, b, ha, hb, h⟩
  · rintro (h | ⟨k, a, b, ha, hb, h⟩)
    · exact ⟨0, r, r', rfl, rfl, h⟩
    · exact ⟨k + 1, a, b, ha, hb, h⟩

/-- Runs of at least one index, in order, with an unmarked index between any two. -/
def Separate (runs : List Run) : Prop :=
  (∀ r ∈ runs, 1 ≤ r.length) ∧ runs.Pairwise fun r q => r.start + r.length < q.start

theorem separate_cons_cons {r r' : Run} {rs : List Run} (h : Separate (r :: r' :: rs)) :
    1 ≤ r.length ∧ r.start + r.length < r'.start ∧ Separate (r' :: rs) := by
  obtain ⟨hlen, hpair⟩ := h
  obtain ⟨hr, hpair⟩ := List.pairwise_cons.mp hpair
  exact ⟨hlen r (by simp), hr r' (by simp), fun q hq => hlen q (List.mem_cons_of_mem _ hq), hpair⟩

theorem or_through {a b c d e f : Prop} (h : c ∨ d ↔ e ∨ f) : (a ∨ b ∨ c) ∨ d ↔ (a ∨ e) ∨ b ∨ f := by tauto

theorem mergeRuns_spec (gap : Nat) : ∀ runs : List Run, Separate runs →
    (∀ r ∈ mergeRuns gap runs, 1 ≤ r.length) ∧
    ((mergeRuns gap runs).Pairwise fun r q => r.start + r.length + gap < q.start) ∧
    (∀ i, Covered (mergeRuns gap runs) i ↔ Covered runs i ∨ Bridged gap runs i) ∧
    (gap = 0 → mergeRuns gap runs = runs)
  | [], _ => by
    refine ⟨by simp [mergeRuns], by simp [mergeRuns], fun i => ?_, fun _ => rfl⟩
    simp [mergeRuns, Bridged]
  | [r], h => by
    refine ⟨h.1, by simp [mergeRuns], fun i => ?_, fun _ => rfl⟩
    have hno : ¬ Bridged gap [r] i := by
      rintro ⟨k, a, b, -, hb, -⟩
      simp at hb
    simp [mergeRuns, hno]
  | r :: r' :: rs, h => by
    obtain ⟨h1, h2, h3⟩ := separate_cons_cons h
    obtain ⟨hlen, hpair, hcover, hsame⟩ := mergeRuns_spec gap (r' :: rs) h3
    obtain ⟨q, qs, e, hq, e'⟩ := mergeRuns_cons_cons gap r r' rs
    rw [e] at hlen hpair hcover hsame
    obtain ⟨hqs, hpair'⟩ := List.pairwise_cons.mp hpair
    have hqlen := hlen q (by simp)
    have hqslen : ∀ a ∈ qs, 1 ≤ a.length := fun a ha => hlen a (List.mem_cons_of_mem _ ha)
    rw [e']
    have hc : ∀ i, ((q.start ≤ i ∧ i < q.start + q.length) ∨ Covered qs i) ↔ Covered (r' :: rs) i ∨ Bridged gap (r' :: rs) i :=
      fun i => (covered_cons q qs i).symm.trans (hcover i)
    split
    · next hg =>
      refine ⟨?_, List.pairwise_cons.mpr ⟨fun a ha => ?_, hpair'⟩, fun i => ?_, fun h0 => by omega⟩
      · intro a ha
        obtain rfl | ha := List.mem_cons.mp ha
        · simp only
          omega
        · exact hqslen a ha
      · have := hqs a ha
        simp only
        omega
      · rw [covered_cons, covered_cons r, bridged_cons_cons]
        have hspan : (r.start ≤ i ∧ i < r.start + (q.start + q.length - r.start)) ↔
            (r.start ≤ i ∧ i < r.start + r.length) ∨
              (r'.start - (r.start + r.length) ≤ gap ∧ r.start + r.length ≤ i ∧ i < r'.start) ∨
              (q.start ≤ i ∧ i < q.start + q.length) := by
          rw [hq] at hg ⊢
          omega
        rw [hspan]
        exact or_through (hc i)
    · next hg =>
      refine ⟨?_, List.pairwise_cons.mpr ⟨fun a ha => ?_, hpair⟩, fun i => ?_, fun h0 => by rw [hsame h0]⟩
      · intro a ha
        obtain rfl | ha := List.mem_cons.mp ha
        · exact h1
        · exact hlen a ha
      · obtain rfl | ha := List.mem_cons.mp ha
        · omega
        · have := hqs a ha
          omega
      · rw [hq] at hg
        have hno : ¬ (r'.start - (r.start + r.length) ≤ gap ∧ r.start + r.length ≤ i ∧ i < r'.start) := fun hb => hg hb.1
        rw [covered_cons, covered_cons, covered_cons r, bridged_cons_cons, or_iff_right hno, hc i, or_assoc]

/-- Settles O40: the runs are the maximal blocks of marks, and merging fills the gaps between neighbours that it joins. -/
theorem markedRuns : Obligations.MarkedRuns := by
  refine ⟨fun pre post kept => ⟨length_extend .., extend_iff pre post kept⟩, fun marks => ⟨fun r => ?_, ?_⟩,
    fun gap runs h1 h2 => mergeRuns_spec gap runs ⟨h1, h2⟩⟩
  · rw [mem_runsFrom marks 0 none rfl le_rfl (by simp) (fun m _ h => absurd h (Nat.not_lt_zero m)) (.inl rfl) r]
    exact and_iff_left (Nat.zero_le _)
  · exact pairwise_runsFrom marks 0 none le_rfl

/-! ### Codes (R91, R92) -/

/-- Under a curve that the commit checks accept, a larger value has no smaller code. -/
theorem unlimitedCode_mono {v : Curve} (h : v.refused = false) {c d : Nat} (hcd : c ≤ d) :
    unlimitedCode v c ≤ unlimitedCode v d := by
  have hvalid : v.segments = 3 → v.knee1 < v.knee2 := fun h3 => by
    by_contra hk
    exact absurd ((refused_iff v).mpr ⟨h3, .inl (by omega)⟩) (by rw [h]; decide)
  unfold unlimitedCode
  have hdiv : ∀ {a b : Nat} (n : Nat), a ≤ b → a / 2 ^ n ≤ b / 2 ^ n := fun _ => Nat.div_le_div_right
  by_cases hc : v.segments = 1 ∨ c < v.knee1
  · rw [if_pos hc]
    by_cases hd : v.segments = 1 ∨ d < v.knee1
    · rw [if_pos hd]
      exact hcd
    · rw [if_neg hd]
      have hk : c ≤ v.knee1 := by omega
      split
      · exact hk.trans (Nat.le_add_right ..)
      · exact hk.trans ((Nat.le_add_right ..).trans (Nat.le_add_right ..))
  · rw [if_neg hc, if_neg (show ¬ (v.segments = 1 ∨ d < v.knee1) by omega)]
    by_cases hc2 : v.segments = 2 ∨ c < v.knee2
    · rw [if_pos hc2]
      by_cases hd2 : v.segments = 2 ∨ d < v.knee2
      · rw [if_pos hd2]
        exact Nat.add_le_add_left (hdiv _ (by omega)) _
      · rw [if_neg hd2]
        exact (Nat.add_le_add_left (hdiv _ (by omega)) _).trans (Nat.le_add_right ..)
    · rw [if_neg hc2, if_neg (show ¬ (v.segments = 2 ∨ d < v.knee2) by omega)]
      exact Nat.add_le_add_left (hdiv _ (by omega)) _

/-- Settles O42: the code by segment, its limit at 255, and that it does not decrease. -/
theorem codesFollowTheCurve : Obligations.CodesFollowTheCurve := by
  refine ⟨fun v c => ⟨Nat.min_le_left .., fun h => if_pos h, fun h h1 => ?_, fun h3 h1 h2 => ?_, fun h => ?_, ?_, fun h => ?_⟩,
    fun v _ hv c d hcd => ?_⟩
  · have hfirst : ¬ (v.segments = 1 ∨ c.value < v.knee1) := by omega
    have hsecond : v.segments = 2 ∨ c.value < v.knee2 := h.imp_right And.right
    rw [unlimitedCode, if_neg hfirst, if_pos hsecond]
  · have hfirst : ¬ (v.segments = 1 ∨ c.value < v.knee1) := by omega
    have hsecond : ¬ (v.segments = 2 ∨ c.value < v.knee2) := by omega
    rw [unlimitedCode, if_neg hfirst, if_neg hsecond]
  · exact Nat.min_eq_left h.le
  · rw [compress, Bool.or_eq_true, decide_eq_true_iff]
  · exact Nat.min_eq_right h
  · have := unlimitedCode_mono hv hcd
    simp only [compress]
    omega

end Sys2Proof.Machine

end

section
/-! Storing and filing pulses: O33 and O34. -/

namespace Sys2Proof.Machine

open Sys2Proof Sys2Proof.Safety

/-! ### One pulse stored or dropped (R47, R49, R50) -/

/-- A pulse with enough free cells is stored whole. -/
theorem store_of_cells {s : State} {p : Pulse} (h : cellsFor p.codes.length ≤ s.freeCells.length) (i : SlotId) (row : RowId)
    (n : Nat) : ∃ header codeCells free, s.freeCells = header :: (codeCells ++ free) ∧
      1 + codeCells.length = cellsFor p.codes.length ∧
      s.store i row p n = ({ s with freeCells := free } : State).mapSlot i (Slot.stored row ⟨p, header, codeCells⟩ n) := by
  obtain ⟨header, codeCells, free, h1, h2, e⟩ | ⟨hlt, -⟩ := s.store_cases i row p n
  · exact ⟨header, codeCells, free, h1, h2, e⟩
  · omega

/-- A pulse with too few free cells is dropped. -/
theorem store_of_few {s : State} {p : Pulse} (h : s.freeCells.length < cellsFor p.codes.length) (i : SlotId) (row : RowId)
    (n : Nat) : s.store i row p n = s.dropPulse i p.link := by
  obtain ⟨header, codeCells, free, h1, h2, -⟩ | ⟨-, e⟩ := s.store_cases i row p n
  · have hl := congrArg List.length h1
    simp only [List.length_cons, List.length_append] at hl
    omega
  · exact e

/-- A slot record with a pulse of link `l` dropped. -/
def Slot.dropped (l : LinkId) (t : Slot) : Slot :=
  { t.mapRecord l fun r => { r with droppedCount := satAdd cap16 r.droppedCount 1 } with
    flags := { t.flags with poolExhausted := true }
    totals := { t.totals with poolDrops := satAdd cap32 t.totals.poolDrops 1 } }

theorem slots_dropPulse (i : SlotId) (l : LinkId) (s : State) :
    (s.dropPulse i l).ring.slots = (s.mapSlot i (Slot.dropped l)).ring.slots := rfl

theorem slot_dropPulse (i : SlotId) (l : LinkId) (s : State) : (s.dropPulse i l).slot i = (s.slot i).dropped l := by
  rw [State.slot, slots_dropPulse]
  exact State.slot_mapSlot i _ s

theorem slot_dropPulse_ne {i i' : SlotId} (h : i' ≠ i) (l : LinkId) (s : State) : (s.dropPulse i l).slot i' = s.slot i' := by
  rw [State.slot, slots_dropPulse]
  exact State.slot_mapSlot_ne h _ s

theorem record_dropped (l l' : LinkId) (t : Slot) :
    (t.dropped l).links[l'] =
      if l' = l then { t.links[l'] with droppedCount := satAdd cap16 t.links[l'].droppedCount 1 } else t.links[l'] := by
  have e : (t.dropped l).links[l'] =
      (t.links.set l { t.links[l] with droppedCount := satAdd cap16 t.links[l].droppedCount 1 })[l'] := rfl
  rw [e]
  refine (Vector.getElem_set ..).trans ?_
  by_cases hl : l' = l
  · rw [if_pos hl, hl]
    exact if_pos rfl
  · rw [if_neg hl]
    exact if_neg fun h => hl (Fin.ext h.symm)

theorem slot_store_ne {i i' : SlotId} (h : i' ≠ i) (row : RowId) (p : Pulse) (n : Nat) (s : State) :
    (s.store i row p n).slot i' = s.slot i' := by
  obtain ⟨_, _, free, -, -, e⟩ | ⟨-, e⟩ := s.store_cases i row p n
  · rw [e, State.appendStored_eq, State.slot_mapSlot_ne h]
    rfl
  · rw [e, slot_dropPulse_ne h]

/-- What a stored pulse leaves of its slot. -/
theorem slotStored_frame (row : RowId) (p : StoredPulse) (n : Nat) (t : Slot) :
    (t.stored row p n).rows = t.rows.set row (t.rows[row] ++ [p]) ∧ (t.stored row p n).first = t.first ∧
    (t.stored row p n).span = t.span ∧ (t.stored row p n).margin = t.margin ∧ (t.stored row p n).flags = t.flags ∧
    (t.stored row p n).totals = t.totals.addPulse p.cells.length p.pulse.codes.length n ∧
    ∀ l : LinkId, (t.stored row p n).links[l] =
      if l = p.pulse.link then { t.links[l] with pulseCount := satAdd cap16 t.links[l].pulseCount 1 } else t.links[l] := by
  refine ⟨rfl, rfl, rfl, rfl, rfl, rfl, fun l => ?_⟩
  have e : (t.stored row p n).links[l] =
      (t.links.set p.pulse.link { t.links[p.pulse.link] with
        pulseCount := satAdd cap16 t.links[p.pulse.link].pulseCount 1 })[l] := rfl
  rw [e]
  refine (Vector.getElem_set ..).trans ?_
  by_cases hl : l = p.pulse.link
  · rw [if_pos hl, hl]
    exact if_pos rfl
  · rw [if_neg hl]
    exact if_neg fun h => hl (Fin.ext h.symm)

/-! ### Free count and cells held together (R48) -/

/-- From `s` to `t` the free count and the cells held keep their sum. -/
def KeepsSum (s t : State) : Prop := cellSum t = cellSum s

namespace KeepsSum

variable {s t u : State}

theorem refl (s : State) : KeepsSum s s := rfl

theorem trans (h : KeepsSum s t) (h' : KeepsSum t u) : KeepsSum s u := Eq.trans h' h

/-- The cells held with one slot taken out, before and after a change of this slot. -/
theorem mapSlot_sum (s : State) (i : SlotId) (f : Slot → Slot) :
    ∃ rest, (s.ring.slots.toList.map fun t => t.totals.cellsHeld).sum = (s.slot i).totals.cellsHeld + rest ∧
      ((s.mapSlot i f).ring.slots.toList.map fun t => t.totals.cellsHeld).sum = (f (s.slot i)).totals.cellsHeld + rest := by
  have hlen : ∀ ts : List Slot, (ts.map fun t => t.totals.cellsHeld).sum =
      (ts.flatMap fun t => List.replicate t.totals.cellsHeld ()).length := by
    intro ts
    simp [List.length_flatMap]
  obtain ⟨rest, h, h'⟩ := Vector.flatMap_set_perm s.ring.slots i (f (s.slot i)) fun t => List.replicate t.totals.cellsHeld ()
  refine ⟨rest.length, ?_, ?_⟩
  · rw [hlen, h.length_eq, List.length_append, List.length_replicate]
    rfl
  · rw [hlen]
    refine h'.length_eq.trans ?_
    rw [List.length_append, List.length_replicate]

theorem mapSlot (i : SlotId) {f : Slot → Slot} (hf : ∀ t, (f t).totals.cellsHeld = t.totals.cellsHeld) (s : State) :
    KeepsSum s (s.mapSlot i f) := by
  obtain ⟨rest, h, h'⟩ := mapSlot_sum s i f
  rw [KeepsSum, cellSum, cellSum, h, h', hf]
  rfl

theorem mapGlobals (f : GlobalCounters → GlobalCounters) (s : State) : KeepsSum s (s.mapGlobals f) := rfl

theorem countLate (l : LinkId) (s : State) : KeepsSum s (s.countLate l) := rfl

theorem mapRecord (i : SlotId) (l : LinkId) (f : LinkRecord → LinkRecord) (s : State) : KeepsSum s (s.mapRecord i l f) :=
  mapSlot i (by intro t; rfl) s

theorem foldl {α : Type} {f : State → α → State} (hf : ∀ (s : State) a, KeepsSum s (f s a)) (as : List α) (s : State) :
    KeepsSum s (as.foldl f s) := by
  induction as generalizing s with
  | nil => exact refl s
  | cons a as ih => exact (hf s a).trans (ih (f s a))

/-- A stored pulse moves its cells from the free list into its slot; a dropped one moves none. -/
theorem store (i : SlotId) (row : RowId) (p : Pulse) (n : Nat) (s : State) : KeepsSum s (s.store i row p n) := by
  obtain ⟨header, codeCells, free, hfree, -, e⟩ | ⟨-, e⟩ := s.store_cases i row p n
  · obtain ⟨rest, h, h'⟩ := mapSlot_sum ({ s with freeCells := free } : State) i (Slot.stored row ⟨p, header, codeCells⟩ n)
    rw [e, State.appendStored_eq, KeepsSum, cellSum, cellSum, h', hfree]
    have hheld : (s.ring.slots.toList.map fun t => t.totals.cellsHeld).sum = (s.slot i).totals.cellsHeld + rest := h
    have hstored : (Slot.stored row ⟨p, header, codeCells⟩ n (({ s with freeCells := free } : State).slot i)).totals.cellsHeld =
        (s.slot i).totals.cellsHeld + (1 + codeCells.length) := by
      rw [Nat.add_comm 1]
      rfl
    have hf : (({ s with freeCells := free } : State).mapSlot i (Slot.stored row ⟨p, header, codeCells⟩ n)).freeCells = free := rfl
    rw [hheld, hstored, hf, List.length_cons, List.length_append]
    omega
  · rw [e]
    have hsum : cellSum (s.dropPulse i p.link) = cellSum (s.mapSlot i (Slot.dropped p.link)) := by
      rw [cellSum, slots_dropPulse]
      rfl
    exact hsum.trans (mapSlot i (by intro t; rfl) s)

theorem filePulse (x : BurstContext) (own receiving : Option SlotId) (s : State) (p : FormedPulse) :
    KeepsSum s (s.filePulse x own receiving p) := by
  have hown : KeepsSum s (s.fileOwn x own p) := by
    cases own with
    | none => exact refl s
    | some i => exact store ..
  have hcopy : ∀ v : State, KeepsSum v (v.fileCopy x receiving p) := by
    intro v
    unfold State.fileCopy
    split
    · exact refl _
    · split
      · exact store ..
      · exact refl _
  exact hown.trans (hcopy _)

theorem fileBurst (l : LinkId) (x : Heartbeat) (b : Burst) (e : PadEntry) (row : RowId)
    (own receiving : Option SlotId) (charged : SlotId) (s : State) :
    KeepsSum s (s.fileBurst l x b e row own receiving charged) := by
  have hmark : KeepsSum s (if b.checkError || b.truncated then
      s.mapRecord charged l fun r => { r with flags := { r.flags with checkError := true } } else s) := by
    split
    · exact mapRecord ..
    · exact refl s
  unfold State.fileBurst
  dsimp only
  split
  · exact hmark.trans (mapRecord ..)
  · split
    · exact hmark.trans ((mapSlot _ (by intro t; rfl) _).trans (mapGlobals ..))
    · exact hmark.trans ((mapGlobals ..).trans (foldl (filePulse _ _ _) _ _))

theorem takeBurstItem (l : LinkId) (b : Burst) (s : State) : KeepsSum s (s.takeBurstItem l b) := by
  have hbad : ∀ i, KeepsSum s (s.countBad i) := fun i => mapSlot i (by intro t; rfl) s
  have happly : ∀ x own receiving i, KeepsSum s (s.applyBurst l x b own receiving i) := by
    intro x own receiving i
    unfold State.applyBurst
    dsimp only
    split
    · split
      · split
        · exact (mapSlot _ (by intro t; rfl) _).trans (mapGlobals ..)
        · exact fileBurst ..
      · exact hbad i
    · exact hbad i
  unfold State.takeBurstItem
  split
  · exact countLate ..
  · split
    · exact countLate ..
    · exact happly ..
    · exact happly ..

end KeepsSum

/-- Settles O33: the cells come from the head of the free list, all that the pulse needs or none. -/
theorem storedWholeOrDropped : Obligations.StoredWholeOrDropped := by
  refine ⟨fun s i row p saturated => ⟨fun h => ?_, fun h => ?_, fun i' hi => slot_store_ne hi .., fun l hl => ?_⟩, fun s t h => ?_⟩
  · obtain ⟨header, codeCells, free, hfree, hlen, e⟩ := store_of_cells h i row saturated
    obtain ⟨hrows, -, -, -, hflags, htotals, hlinks⟩ := slotStored_frame row ⟨p, header, codeCells⟩ saturated (s.slot i)
    have hslot : (s.store i row p saturated).slot i = (s.slot i).stored row ⟨p, header, codeCells⟩ saturated := by
      rw [e, State.slot_mapSlot]
      rfl
    have hcells : (StoredPulse.cells ⟨p, header, codeCells⟩).length = 1 + (p.codes.length + 15) / 16 := by
      rw [StoredPulse.cells, List.length_cons, Nat.add_comm, hlen]
      rfl
    refine ⟨header, codeCells, by rw [e]; exact hfree, hlen, by rw [hslot, hrows], ?_, ?_, by rw [hslot, hflags], by rw [e]; rfl⟩
    · rw [hslot, htotals, hcells]
      rfl
    · rw [State.record, hslot, hlinks, if_pos rfl]
      rfl
  · rw [store_of_few h]
    refine ⟨rfl, by rw [slot_dropPulse]; rfl, by rw [slot_dropPulse]; rfl, ?_, by rw [slot_dropPulse]; rfl, rfl⟩
    rw [State.record, slot_dropPulse, record_dropped, if_pos rfl]
    rfl
  · obtain ⟨header, codeCells, free, -, -, e⟩ | ⟨-, e⟩ := s.store_cases i row p saturated
    · have hslot : (s.store i row p saturated).slot i = (s.slot i).stored row ⟨p, header, codeCells⟩ saturated := by
        rw [e, State.appendStored_eq, State.slot_mapSlot]
        rfl
      obtain ⟨-, -, -, -, -, -, hlinks⟩ := slotStored_frame row ⟨p, header, codeCells⟩ saturated (s.slot i)
      rw [State.record, hslot, hlinks, if_neg hl]
      rfl
    · rw [e, State.record, slot_dropPulse, record_dropped, if_neg hl]
      rfl
  · unfold exec execTakeBurst at h
    dsimp only at h
    split at h
    · next l b s' hb =>
      obtain rfl := Host.Outcome.next.inj h
      obtain ⟨hr, hf, -⟩ := State.beginTaking_frame hb
      have hs' : cellSum s' = cellSum s := by rw [cellSum, cellSum, hr, hf]
      exact Eq.trans (KeepsSum.takeBurstItem l b s') hs'
    · obtain rfl := Host.Outcome.next.inj h
      rfl

end Sys2Proof.Machine

end

section
/-! Filing the pulses of a burst, each with its margin copy (O34). -/

namespace Sys2Proof.Machine

open Sys2Proof Sys2Proof.Safety

/-! ### The pulses that filing makes (R21, R30) -/

theorem saturatedCount_pos (cs : List Code) : decide (0 < saturatedCount cs) = true ↔ ∃ c ∈ cs, c.saturated = true := by
  rw [decide_eq_true_iff, saturatedCount, List.countP_pos_iff]

theorem copyCodes_eq (margin : Nat) (p : FormedPulse) :
    copyCodes margin p = p.codes.take (min p.codes.length (margin - p.bin)) := by
  rw [copyCodes, List.take_eq_take_min, Nat.min_comm]

theorem length_copyCodes (margin : Nat) (p : FormedPulse) :
    (copyCodes margin p).length = min p.codes.length (margin - p.bin) := by
  rw [copyCodes, List.length_take, Nat.min_comm]

/-- A margin copy holds the first codes of its original, up to the margin. -/
theorem copyPulse_spec (x : BurstContext) (t : Slot) (p : FormedPulse) (h : p.bin < t.margin) :
    let q := copyPulse x t p
    q.pad = x.pad ∧ q.channel = x.channel ∧ q.link = x.link ∧
    q.start = 2 ^ t.span * 512 + p.bin ∧
    q.codes.length = min p.codes.length (t.margin - p.bin) ∧
    q.codes = (p.codes.map Code.code).take (min p.codes.length (t.margin - p.bin)) ∧
    q.start + q.codes.length ≤ 2 ^ t.span * 512 + t.margin ∧
    q.flags.margin = true ∧ q.flags.piece = p.piece ∧ q.flags.suspect = x.suspect ∧
    (q.flags.trimmed = true ↔ q.codes.length < p.codes.length) ∧
    (q.flags.saturated = true ↔
      ∃ c ∈ p.codes.take (min p.codes.length (t.margin - p.bin)), c.saturated = true) := by
  intro q
  have hlen : q.codes.length = min p.codes.length (t.margin - p.bin) := by
    refine (List.length_map ..).trans (length_copyCodes ..)
  refine ⟨rfl, rfl, rfl, rfl, hlen, ?_, ?_, rfl, rfl, rfl, ?_, ?_⟩
  · rw [← List.map_take, ← copyCodes_eq]
    rfl
  · rw [hlen]
    have hs : q.start = 2 ^ t.span * 512 + p.bin := rfl
    omega
  · rw [hlen, ← length_copyCodes]
    exact decide_eq_true_iff
  · rw [← copyCodes_eq]
    exact saturatedCount_pos _

theorem ownPulse_congr (x : BurstContext) {t t' : Slot} (h : t'.first = t.first) (p : FormedPulse) :
    ownPulse x t' p = ownPulse x t p := by
  rw [ownPulse, ownPulse, h]

theorem copyPulse_congr (x : BurstContext) {t t' : Slot} (hs : t'.span = t.span) (hm : t'.margin = t.margin) (p : FormedPulse) :
    copyPulse x t' p = copyPulse x t p := by
  rw [copyPulse, copyPulse, hs, hm]

/-! ### Filing with enough free cells -/

/-- From `s` to `t` some pulses are appended to the chain of a row in some slots, each with `n` cells in all, and nothing else
that filing reads changes. -/
structure Appends (row : RowId) (new : SlotId → List Pulse) (n : Nat) (s t : State) : Prop where
  freeCells : t.freeCells = s.freeCells.drop n
  chain : ∀ i, ((t.slot i).rows[row]).map StoredPulse.pulse = ((s.slot i).rows[row]).map StoredPulse.pulse ++ new i
  first : ∀ i, (t.slot i).first = (s.slot i).first
  span : ∀ i, (t.slot i).span = (s.slot i).span
  margin : ∀ i, (t.slot i).margin = (s.slot i).margin
  others : ∀ i, new i = [] → t.slot i = s.slot i
  control : t.control = s.control

namespace Appends

variable {row : RowId} {s t u : State}

theorem refl (row : RowId) (s : State) : Appends row (fun _ => []) 0 s s :=
  ⟨rfl, fun _ => (List.append_nil _).symm, fun _ => rfl, fun _ => rfl, fun _ => rfl, fun _ _ => rfl, rfl⟩

theorem trans {new new' : SlotId → List Pulse} {n n' : Nat} (h : Appends row new n s t) (h' : Appends row new' n' t u) :
    Appends row (fun i => new i ++ new' i) (n + n') s u where
  freeCells := by rw [h'.freeCells, h.freeCells, List.drop_drop]
  chain i := by rw [h'.chain, h.chain, List.append_assoc]
  first i := (h'.first i).trans (h.first i)
  span i := (h'.span i).trans (h.span i)
  margin i := (h'.margin i).trans (h.margin i)
  others i hi := by
    obtain ⟨h1, h2⟩ := List.append_eq_nil_iff.mp hi
    rw [h'.others i h2, h.others i h1]
  control := h'.control.trans h.control

theorem congr {new new' : SlotId → List Pulse} {n n' : Nat} (h : Appends row new n s t) (hn : n = n')
    (hnew : ∀ i, new i = new' i) : Appends row new' n' s t := by
  obtain rfl : new = new' := funext hnew
  exact hn ▸ h

/-- One pulse stored with enough free cells. -/
theorem store {p : Pulse} (h : cellsFor p.codes.length ≤ s.freeCells.length) (i : SlotId) (row : RowId) (n : Nat) :
    Appends row (fun i' => if i' = i then [p] else []) (cellsFor p.codes.length) s (s.store i row p n) := by
  obtain ⟨header, codeCells, free, hfree, hlen, e⟩ := store_of_cells h i row n
  have hslot : (s.store i row p n).slot i = (s.slot i).stored row ⟨p, header, codeCells⟩ n := by
    rw [e, State.slot_mapSlot]
    rfl
  obtain ⟨hrows, hfirst, hspan, hmargin, -⟩ := slotStored_frame row ⟨p, header, codeCells⟩ n (s.slot i)
  have hchain : ((s.slot i).rows.set row ((s.slot i).rows[row] ++ [⟨p, header, codeCells⟩]))[row] =
      (s.slot i).rows[row] ++ [⟨p, header, codeCells⟩] := Vector.getElem_set_self row.isLt
  refine ⟨?_, fun i' => ?_, fun i' => ?_, fun i' => ?_, fun i' => ?_, fun i' hi => ?_, by rw [e]; rfl⟩
  · have hdrop : s.freeCells.drop (cellsFor p.codes.length) = free := by
      rw [hfree, ← hlen, Nat.add_comm, List.drop_succ_cons, List.drop_left]
    rw [hdrop, e]
    rfl
  · by_cases hi : i' = i
    · subst hi
      rw [if_pos rfl, hslot, hrows, hchain, List.map_append]
      rfl
    · rw [if_neg hi, slot_store_ne hi, List.append_nil]
  · by_cases hi : i' = i
    · rw [hi, hslot, hfirst]
    · rw [slot_store_ne hi]
  · by_cases hi : i' = i
    · rw [hi, hslot, hspan]
    · rw [slot_store_ne hi]
  · by_cases hi : i' = i
    · rw [hi, hslot, hmargin]
    · rw [slot_store_ne hi]
  · by_cases hii : i' = i
    · rw [if_pos hii] at hi
      cases hi
    · exact slot_store_ne hii ..

end Appends

/-- The cells that a pulse and its margin copy need, in a receiving slot of this margin. -/
def cellsNeeded (margin : Nat) (p : FormedPulse) : Nat :=
  cellsFor p.codes.length + if p.bin < margin then cellsFor (min p.codes.length (margin - p.bin)) else 0

/-- The pulses that one formed pulse adds to the slots: the original in slot `i`, the copy in slot `r`. -/
def pulsesFiled (x : BurstContext) (i r : SlotId) (own receiving : Slot) (p : FormedPulse) (k : SlotId) : List Pulse :=
  if k = i then [ownPulse x own p]
  else if k = r then (if p.bin < receiving.margin then [copyPulse x receiving p] else [])
  else []

theorem length_ownPulse_codes (x : BurstContext) (t : Slot) (p : FormedPulse) : (ownPulse x t p).codes.length = p.codes.length :=
  List.length_map ..

theorem length_copyPulse_codes (x : BurstContext) (t : Slot) (p : FormedPulse) :
    (copyPulse x t p).codes.length = min p.codes.length (t.margin - p.bin) :=
  (List.length_map ..).trans (length_copyCodes ..)

theorem appends_filePulse (x : BurstContext) {i r : SlotId} (hir : i ≠ r) {s : State} {p : FormedPulse}
    (h : cellsNeeded (s.slot r).margin p ≤ s.freeCells.length) :
    Appends x.row (pulsesFiled x i r (s.slot i) (s.slot r) p) (cellsNeeded (s.slot r).margin p) s
      (s.filePulse x (some i) (some r) p) := by
  have hown : Appends x.row (fun k => if k = i then [ownPulse x (s.slot i) p] else []) (cellsFor p.codes.length) s
      (s.store i x.row (ownPulse x (s.slot i) p) (saturatedCount p.codes)) := by
    have h1 : cellsFor (ownPulse x (s.slot i) p).codes.length ≤ s.freeCells.length := by
      rw [length_ownPulse_codes]
      rw [cellsNeeded] at h
      omega
    exact (Appends.store h1 i x.row _).congr (by rw [length_ownPulse_codes]) fun _ => rfl
  have hr : (s.store i x.row (ownPulse x (s.slot i) p) (saturatedCount p.codes)).slot r = s.slot r := slot_store_ne hir.symm ..
  have hfree := congrArg List.length hown.freeCells
  rw [List.length_drop] at hfree
  have e : s.filePulse x (some i) (some r) p =
      if p.bin < ((s.store i x.row (ownPulse x (s.slot i) p) (saturatedCount p.codes)).slot r).margin then
        (s.store i x.row (ownPulse x (s.slot i) p) (saturatedCount p.codes)).store r x.row
          (copyPulse x ((s.store i x.row (ownPulse x (s.slot i) p) (saturatedCount p.codes)).slot r) p)
          (saturatedCount (copyCodes ((s.store i x.row (ownPulse x (s.slot i) p) (saturatedCount p.codes)).slot r).margin p))
      else s.store i x.row (ownPulse x (s.slot i) p) (saturatedCount p.codes) := rfl
  rw [e, hr]
  generalize s.store i x.row (ownPulse x (s.slot i) p) (saturatedCount p.codes) = v at *
  unfold cellsNeeded at h ⊢
  by_cases hb : p.bin < (s.slot r).margin
  · rw [if_pos hb] at h ⊢
    rw [if_pos hb]
    have h2 : cellsFor (copyPulse x (s.slot r) p).codes.length ≤ v.freeCells.length := by
      rw [length_copyPulse_codes]
      omega
    refine (hown.trans (Appends.store h2 r x.row _)).congr (by rw [length_copyPulse_codes]) fun k => ?_
    unfold pulsesFiled
    by_cases hk : k = i
    · rw [if_pos hk, if_pos hk, if_neg fun h => hir (hk.symm.trans h), List.append_nil]
    · rw [if_neg hk, if_neg hk, if_pos hb, List.nil_append]
  · rw [if_neg hb] at h ⊢
    rw [if_neg hb]
    refine hown.congr rfl fun k => ?_
    unfold pulsesFiled
    rw [if_neg hb, ite_self]

/-- All pulses of a burst filed, with enough free cells for them and their copies. -/
theorem appends_filePulses (x : BurstContext) {i r : SlotId} (hir : i ≠ r) (ps : List FormedPulse) : ∀ s : State,
    (ps.map (cellsNeeded (s.slot r).margin)).sum ≤ s.freeCells.length →
    Appends x.row (fun k => ps.flatMap fun p => pulsesFiled x i r (s.slot i) (s.slot r) p k)
      (ps.map (cellsNeeded (s.slot r).margin)).sum s (ps.foldl (State.filePulse x (some i) (some r)) s) := by
  induction ps with
  | nil => exact fun s _ => Appends.refl x.row s
  | cons p ps ih =>
    intro s h
    rw [List.map_cons, List.sum_cons] at h
    have hp := appends_filePulse x hir (s := s) (p := p) (by omega)
    have hlen := congrArg List.length hp.freeCells
    rw [List.length_drop] at hlen
    have hrest := ih (s.filePulse x (some i) (some r) p) (by rw [hp.margin]; omega)
    refine (hp.trans hrest).congr (by rw [hp.margin, List.map_cons, List.sum_cons]) fun k => ?_
    rw [List.flatMap_cons]
    refine congrArg _ (List.flatMap_congr fun q _ => ?_)
    unfold pulsesFiled
    rw [ownPulse_congr x (hp.first i), copyPulse_congr x (hp.span r) (hp.margin r), hp.margin]

theorem sum_cellsNeeded (margin : Nat) (ps : List FormedPulse) :
    (ps.map (cellsNeeded margin)).sum = (ps.map fun p => cellsFor p.codes.length).sum +
      ((ps.filter fun p => p.bin < margin).map fun p => cellsFor (min p.codes.length (margin - p.bin))).sum := by
  induction ps with
  | nil => rfl
  | cons p ps ih =>
    rw [List.map_cons, List.map_cons, List.sum_cons, List.sum_cons, ih, cellsNeeded]
    by_cases hb : p.bin < margin
    · rw [if_pos hb, List.filter_cons_of_pos (by simpa using hb), List.map_cons, List.sum_cons]
      omega
    · rw [if_neg hb, List.filter_cons_of_neg (by simpa using hb)]
      omega

theorem pulsesFiled_own (x : BurstContext) (i r : SlotId) (own receiving : Slot) (ps : List FormedPulse) :
    (ps.flatMap fun p => pulsesFiled x i r own receiving p i) = ps.map (ownPulse x own) := by
  simp only [pulsesFiled, if_true]
  exact List.map_eq_flatMap.symm

theorem pulsesFiled_copy (x : BurstContext) {i r : SlotId} (hir : i ≠ r) (own receiving : Slot) (ps : List FormedPulse) :
    (ps.flatMap fun p => pulsesFiled x i r own receiving p r) =
      (ps.filter fun p => p.bin < receiving.margin).map (copyPulse x receiving) := by
  induction ps with
  | nil => rfl
  | cons p ps ih =>
    rw [List.flatMap_cons, ih, pulsesFiled, if_neg hir.symm, if_pos rfl]
    by_cases hb : p.bin < receiving.margin
    · rw [if_pos hb, List.filter_cons_of_pos (by simpa using hb)]
      rfl
    · rw [if_neg hb, List.filter_cons_of_neg (by simpa using hb)]
      rfl

/-- Settles O34: what an own pulse and a margin copy carry, and the chains and cells that the pulses of a burst come to. -/
theorem marginCopies : Obligations.MarginCopies := by
  refine ⟨copyPulse_spec, fun x t p => ⟨rfl, rfl, rfl, rfl, rfl, rfl, rfl, rfl, rfl, saturatedCount_pos _⟩,
    fun x own receiving s p => ?_, fun x own receiving ps s => rfl, fun x i r ps s hir => ?_, fun n h1 h64 => ?_⟩
  · cases own <;> cases receiving <;> rfl
  · intro low needed hneeded
    have hsum := sum_cellsNeeded (s.slot r).margin ps
    have h := appends_filePulses x hir ps (s.mapGlobals fun g =>
      { g with saturatedSamples := satAdd cap32 g.saturatedSamples (ps.map fun p => saturatedCount p.codes).sum })
      (hsum.le.trans hneeded)
    have hi := h.chain i
    have hr := h.chain r
    rw [pulsesFiled_own] at hi
    rw [pulsesFiled_copy x hir] at hr
    refine ⟨h.freeCells.trans (congrArg (List.drop · s.freeCells) hsum), hi, hr, fun k hki hkr => ?_, h.control⟩
    refine h.others k (List.flatMap_eq_nil_iff.mpr fun p _ => ?_)
    rw [pulsesFiled, if_neg hki, if_neg hkr]
  · simp only [cellsFor]
    omega

end Sys2Proof.Machine

end

section
/-! The taking of a burst (O32). -/

namespace Sys2Proof.Machine

open Sys2Proof Sys2Proof.Safety

/-! ### Row windows (R108) -/

theorem holds_iff (w : Window) (row : Nat) : w.holds row = true ↔ 1 ≤ w.count ∧ w.start ≤ row ∧ row < w.start + w.count := by
  simp only [Window.holds, Bool.and_eq_true, decide_eq_true_iff]
  omega

theorem windowOf_eq_none {cfg : Settings} {row : Nat} :
    cfg.windowOf row = none ↔ ∀ j : Fin 8, ¬ (cfg.windows[j].holds row = true) := by
  rw [Settings.windowOf, windows_toList, List.find?_eq_none]
  simp

theorem windowOf_eq_some {cfg : Settings} {row : Nat} {w : Window} (h : cfg.windowOf row = some w) :
    w.holds row = true ∧ ∃ j : Fin 8, cfg.windows[j] = w := by
  have hmem := List.mem_of_find?_eq_some h
  rw [windows_toList, List.mem_map] at hmem
  obtain ⟨j, -, hj⟩ := hmem
  exact ⟨List.find?_some (p := fun w : Window => w.holds row) h, j, hj⟩

/-- In a record that passes the commit checks no two active windows hold a common row. -/
theorem windowOf_of_holds {cfg : Settings} (hf : cfg.firstFault = none) {row : Nat} {j : Fin 8}
    (hj : cfg.windows[j].holds row = true) : cfg.windowOf row = some cfg.windows[j] := by
  have hno : ¬ someOverlap cfg.activeWindows = true := by
    intro ho
    unfold Settings.firstFault at hf
    dsimp only at hf
    rw [if_pos ho] at hf
    split at hf
    · cases hf
    · split at hf <;> cases hf
  cases hw : cfg.windowOf row with
  | none => exact absurd hj (windowOf_eq_none.mp hw j)
  | some w =>
    obtain ⟨hrow, k, rfl⟩ := windowOf_eq_some hw
    by_cases hjk : j = k
    · rw [hjk]
    · obtain ⟨-, h1, h2⟩ := (holds_iff ..).mp hj
      obtain ⟨-, h3, h4⟩ := (holds_iff ..).mp hrow
      exact absurd ((someOverlap_iff cfg).mpr ⟨j, k, hjk, row, ⟨h1, h2⟩, h3, h4⟩) hno

/-! ### The taking of a burst (R20, R93 to R95, R100, R101, R109) -/

theorem exec_takeBurst {s s' : State} {l : LinkId} {b : Burst} (hb : s.beginTaking = some (l, .burst b, s')) :
    exec .takeBurst s = .next (s'.takeBurstItem l b) := exec_takeOf hb

theorem takeBurstItem_late {s : State} {l : LinkId} {b : Burst} (h : (s.intake l).openHeartbeat = none ∨
      ∃ x, (s.intake l).openHeartbeat = some x ∧ s.ownPart l x = none ∧ s.marginPart l x = none) :
    s.takeBurstItem l b = s.countLate l := by
  unfold State.takeBurstItem
  obtain h | ⟨x, h, h1, h2⟩ := h
  · simp only [h]
  · simp only [h, h1, h2]

/-- A part applies: the burst is charged to its own slot, or to the receiving one when it has no own part. -/
theorem takeBurstItem_part {s : State} {l : LinkId} {b : Burst} {x : Heartbeat} {i : SlotId}
    (hx : (s.intake l).openHeartbeat = some x) (hi : s.ownPart l x = some i ∨ s.ownPart l x = none ∧ s.marginPart l x = some i) :
    s.takeBurstItem l b = s.applyBurst l x b (s.ownPart l x) (s.marginPart l x) i := by
  unfold State.takeBurstItem
  obtain h | ⟨h, h'⟩ := hi
  · simp only [hx, h]
  · simp only [hx, h, h']

theorem applyBurst_intake (l : LinkId) (x : Heartbeat) (b : Burst) (own receiving : Option SlotId) (charged : SlotId) (s : State) :
    (s.applyBurst l x b own receiving charged).ring.intake = s.ring.intake :=
  (State.ChangesSlots.applyBurst l x b own receiving charged s).intake

/-- What the taking of a burst leaves: the slots in which no part applies, the emitter and the intake states. -/
theorem takeBurstItem_frame {s : State} {l : LinkId} {b : Burst} {x : Heartbeat} (hx : (s.intake l).openHeartbeat = some x) :
    (∀ i, s.ownPart l x ≠ some i → s.marginPart l x ≠ some i → (s.takeBurstItem l b).slot i = s.slot i) ∧
    (s.takeBurstItem l b).emitter = s.emitter ∧ (s.takeBurstItem l b).ring.intake = s.ring.intake := by
  have hemit := (State.Writes.takeBurstItem l b s).emitter
  cases ho : s.ownPart l x with
  | some k =>
    have e := takeBurstItem_part (b := b) hx (.inl ho)
    rw [ho] at e
    rw [e] at hemit ⊢
    exact ⟨fun i hi hm => State.slot_applyBurst_ne hi hm (fun h => hi (by rw [h])) l x b s, hemit, applyBurst_intake ..⟩
  | none =>
    cases hm : s.marginPart l x with
    | some k =>
      have e := takeBurstItem_part (b := b) hx (.inr ⟨ho, hm⟩)
      rw [ho, hm] at e
      rw [e] at hemit ⊢
      exact ⟨fun i hi hm => State.slot_applyBurst_ne hi hm (fun h => hm (by rw [h])) l x b s, hemit, applyBurst_intake ..⟩
    | none =>
      have e := takeBurstItem_late (b := b) (.inr ⟨x, hx, ho, hm⟩)
      rw [e]
      exact ⟨fun _ _ _ => rfl, rfl, rfl⟩

/-- Settles O32: the checks of channel, row and mask, the suspect policy and the row filter, in this order. -/
theorem burstTaken : Obligations.BurstTaken := by
  refine ⟨fun s s' l b hb => ?_, fun l channel => rfl, fun cfg => ⟨fun row => ?windows, rfl, rfl⟩⟩
  case windows =>
    intro holds
    refine ⟨windowOf_eq_none.trans (forall_congr' fun j => not_congr (holds_iff ..)), fun w hw => ?_, fun hf j hj => ?_⟩
    · obtain ⟨hrow, hj⟩ := windowOf_eq_some hw
      exact ⟨(holds_iff ..).mp hrow, hj⟩
    · exact windowOf_of_holds hf ((holds_iff ..).mpr hj)
  have h := State.begins hb
  have e := exec_takeBurst hb
  have hlate : s'.countLate l = s'.mapLink l fun k =>
      { k with counters := { k.counters with lateItems := satAdd cap32 k.counters.lateItems 1 } } := rfl
  intro late
  refine ⟨fun hx => ?_, fun x hx => ?_⟩
  · rw [e, takeBurstItem_late (.inl (by rw [h.intake, hx])), hlate]
  have hx' : (s'.intake l).openHeartbeat = some x := by rw [h.intake, hx]
  have hown : s'.ownPart l x = s.ownPart l x := h.ownPart l x
  have hmargin : s'.marginPart l x = s.marginPart l x := h.marginPart l x
  refine ⟨fun ho hm => ?_, ⟨_, e, ?_⟩, fun i hi => ?_⟩
  · rw [e, takeBurstItem_late (.inr ⟨x, hx', hown.trans ho, hmargin.trans hm⟩), hlate]
  · obtain ⟨hslot, hemit, hint⟩ := takeBurstItem_frame (b := b) hx'
    obtain ⟨hring, -⟩ := State.beginTaking_frame hb
    refine ⟨fun i ho hm => ?_, hemit.trans h.emitter, hint.trans (by rw [hring])⟩
    rw [hslot i (by rwa [hown]) (by rwa [hmargin]), h.slot]
  have epart := takeBurstItem_part (b := b) hx' (by rwa [hown, hmargin])
  rw [hown, hmargin] at epart
  rw [epart] at e
  intro bad
  have hbad : s'.countBad i = bad := rfl
  refine ⟨fun hch => ?_, fun hch => ?_⟩
  · rw [e, State.applyBurst, dif_neg (by omega), hbad]
  intro entry cfg suspect marked
  have hentry : (s'.padTable.entries (s'.bankOf (s'.slot i).epoch))[padIndex l ⟨b.channel.toNat, hch⟩] = entry := by
    have hbank : s'.bankOf (s'.slot i).epoch = s.bankOf (s.slot i).epoch := by
      rw [State.bankOf, State.bankOf, h.settings, h.padTable, h.slot]
    simp only [hbank, h.padTable]
    rfl
  have hcfg : s'.settings.settingsOf (s'.slot i).epoch = cfg := by rw [h.settings, h.slot]
  have eapply : s'.applyBurst l x b (s.ownPart l x) (s.marginPart l x) i =
      if hr : entry.row.toNat < 96 then
        if entry.masked then s'.countMasked i
        else s'.fileBurst l x b entry ⟨entry.row.toNat, hr⟩ (s.ownPart l x) (s.marginPart l x) i
      else s'.countBad i := by
    rw [State.applyBurst, dif_pos hch]
    simp only [hentry]
  rw [eapply] at e
  refine ⟨fun hrow => ?_, fun hrow hmask => ?_, fun hrow hmask => ?_⟩
  · rw [e, dif_neg (by omega), hbad]
  · rw [e, dif_pos hrow, if_pos hmask]
    rfl
  rw [dif_pos hrow, if_neg (by rw [hmask]; decide)] at e
  have efile : s'.fileBurst l x b entry ⟨entry.row.toNat, hrow⟩ (s.ownPart l x) (s.marginPart l x) i =
      if suspect = true ∧ cfg.policy = .drop then
        marked.mapRecord i l fun r => { r with droppedCount := satAdd cap16 r.droppedCount 1 }
      else match conditionBurst cfg entry b with
        | .filtered n => marked.countFiltered i n
        | .pulses ps => marked.filePulses ⟨l, x, b.channel, entry.pad, ⟨entry.row.toNat, hrow⟩, suspect⟩
            (s.ownPart l x) (s.marginPart l x) ps := by
    rw [State.fileBurst]
    simp only [hcfg]
    rfl
  rw [efile] at e
  refine ⟨fun hs hd => ?_, fun hkeep => ?_⟩
  · rw [e, if_pos ⟨hs, hd⟩]
  have hno : ¬ (suspect = true ∧ cfg.policy = .drop) := by
    rintro ⟨h1, h2⟩
    obtain h3 | h3 := hkeep
    · rw [h1] at h3
      cases h3
    · rw [h2] at h3
      cases h3
  rw [if_neg hno] at e
  refine ⟨fun hw => ?_, fun w hw => ?_⟩
  · rw [e, conditionBurst, hw]
    rfl
  · rw [e, conditionBurst, hw]

end Sys2Proof.Machine

end

section
/-! The uplink arbiter's choice, the boundaries (O47) and the ends of EPOCH_MARK and HEAD frames (O44). -/

namespace Sys2Proof.Machine

open Sys2Proof Sys2Proof.Safety

/-! ### The arbiter's choice, case by case (R123, R124) -/

theorem State.arbitrate_of_opening {s : State} (h : 0 < s.uplink.opening) : s.arbitrate = s.transmitTrain := if_pos h

theorem State.arbitrate_of_port {s : State} {r : Reply} (ho : s.uplink.opening = 0) (hp : s.uplink.port = some r) :
    s.arbitrate = { s with uplink := { s.uplink with
      port := none, tx := .frame (uplinkFrame .reply s.attention r.tag r.payload 0) } } := by
  unfold State.arbitrate
  rw [if_neg (by omega), hp]
  rfl

theorem State.arbitrate_of_not_offered {s : State} (ho : s.uplink.opening = 0) (hp : s.uplink.port = none)
    (hn : s.offered = none) : s.arbitrate = s.transmitTrain := by
  unfold State.arbitrate
  rw [if_neg (by omega), hp, hn]

theorem State.arbitrate_of_offered {s : State} {i : SlotId} {kind : FrameKind} (ho : s.uplink.opening = 0)
    (hp : s.uplink.port = none) (hn : s.offered = some (i, kind)) : s.arbitrate = s.transmitRecord i kind := by
  unfold State.arbitrate
  rw [if_neg (by omega), hp, hn]

theorem State.offered_eq_none {s : State}
    (h : s.emitter.state ≠ .record ∨ s.emitter.stopping ≠ none ∨ s.uplink.paused = true) : s.offered = none :=
  if_neg fun ⟨hr, hs, hp⟩ => by
    obtain h | h | h := h
    · exact h hr
    · exact h hs
    · simp [hp] at h

theorem State.offered_eq_some {s : State} {i : SlotId} {kind : FrameKind} (hr : s.emitter.state = .record)
    (hs : s.emitter.stopping = none) (hp : s.uplink.paused = false) (hi : s.emitter.slot = some i)
    (hk : s.emitter.next = some kind) : s.offered = some (i, kind) := by
  rw [State.offered, if_pos ⟨hr, hs, hp⟩, hi, hk]

theorem State.transmitRow_of_nextRow {s : State} {i : SlotId} {row : RowId}
    (h : (s.slot i).nextRow (s.orderOf i) s.emitter.row = some row) :
    let ps := fitting 254 (s.slot i).rows[row]
    let n := satAdd 4095 s.emitter.sections 1
    let continued := decide (s.emitter.row = row) && s.emitter.continuation
    s.transmitRow i = { s with
      emitter := { s.emitter with
        row := row, continuation := continued, sections := n
        pulsesSent := s.emitter.pulsesSent + ps.length
        samplesSent := s.emitter.samplesSent + (ps.map fun p => p.pulse.codes.length).sum }
      uplink := { s.uplink with
        tx := .frame (uplinkFrame .row s.attention (s.slot i).first (rowPayload n continued row ps) ps.length) } } := by
  have hcont : (if s.emitter.row = row then s.emitter.continuation else false) =
      (decide (s.emitter.row = row) && s.emitter.continuation) := by
    split <;> simp_all
  unfold State.transmitRow
  rw [h, ← hcont]
  rfl

theorem State.transmitRow_of_none {s : State} {i : SlotId}
    (h : (s.slot i).nextRow (s.orderOf i) s.emitter.row = none) : s.transmitRow i = s.transmitTrain := by
  unfold State.transmitRow
  rw [h]

/-! ### Handing a reply to the port (R155) -/

theorem Uplink.portFree_iff {u : Uplink} :
    u.portFree = true ↔ u.port = none ∧ ∀ f, u.tx = .frame f → f.kind ≠ .reply := by
  cases htx : u.tx <;> simp [Uplink.portFree, htx]

theorem State.handover_of_free {s : State} {r : Reply} (h : s.control.holder = some r) (hp : s.uplink.portFree = true) :
    s.handover =
      { s with control := { s.control with holder := none }, uplink := { s.uplink with port := some r } } := by
  unfold State.handover
  rw [h]
  exact if_pos hp

theorem State.handover_of_none {s : State} (h : s.control.holder = none ∨ s.uplink.portFree = false) : s.handover = s := by
  obtain ⟨r, hr, hp, -⟩ | ⟨-, e⟩ := s.handover_cases
  · simp [hr, hp] at h
  · exact e

/-! ### Boundaries after TRAIN words and REPLY frames (O47) -/

theorem exec_replySent {s : State} {f : UplinkFrame} (first : Bool) (ht : s.uplink.tx = .frame f) (hk : f.kind = .reply) :
    exec (.replySent first) s =
      .next (if first then s.transmitTrain.handover.boundary else s.transmitTrain.boundary) := by
  have e : exec (.replySent first) s = execReplySent first s := rfl
  rw [e, execReplySent, ht]
  exact if_pos hk

/-- With no reply to hand over, or a full port, a REPLY frame ends alike in both orders (R155, assumption 10). -/
theorem exec_replySent_plain {s : State} {f : UplinkFrame} {first : Bool} (ht : s.uplink.tx = .frame f)
    (hk : f.kind = .reply) (h : first = false ∨ s.control.holder = none ∨ s.uplink.port ≠ none) :
    exec (.replySent first) s = .next s.transmitTrain.boundary := by
  rw [exec_replySent first ht hk]
  cases first with
  | false => rfl
  | true =>
    have hh : s.transmitTrain.handover = s.transmitTrain := by
      refine State.handover_of_none ?_
      obtain h | h | h := h
      · cases h
      · exact .inl h
      · refine .inr (Bool.eq_false_iff.2 fun hf => h ?_)
        exact (Uplink.portFree_iff.1 hf).1
    rw [if_pos rfl, hh]

/-- A reply handed over before the choice at a REPLY frame's end is sent next (R155, assumption 10). -/
theorem exec_replySent_handover {s : State} {f : UplinkFrame} {r : Reply} (ht : s.uplink.tx = .frame f)
    (hk : f.kind = .reply) (hp : s.uplink.port = none) (hr : s.control.holder = some r) :
    exec (.replySent true) s =
      .next { s with
        uplink := { s.uplink with tx := .train, port := some r }
        control := { s.control with holder := none } }.pauseAtBoundary.arbitrate := by
  rw [exec_replySent true ht hk, if_pos rfl]
  have hfree : s.transmitTrain.uplink.portFree = true := Uplink.portFree_iff.2 ⟨hp, fun f hf => by cases hf⟩
  rw [State.handover_of_free (s := s.transmitTrain) hr hfree]
  rfl

/-- The choice of a record frame, by its kind (R115, R117 to R122). -/
theorem State.arbitrate_record {s : State} {i : SlotId} (ho : s.uplink.opening = 0) (hp : s.uplink.port = none)
    (hr : s.emitter.state = .record) (hs : s.emitter.stopping = none) (hpa : s.uplink.paused = false)
    (hi : s.emitter.slot = some i) {kind : FrameKind} (hk : s.emitter.next = some kind) :
    s.arbitrate = s.transmitRecord i kind :=
  State.arbitrate_of_offered ho hp (State.offered_eq_some hr hs hpa hi hk)

/-- Settles O47: the boundaries after TRAIN words and REPLY frames, the arbiter's choice, and the hand-over. -/
theorem uplinkBoundaries : Obligations.UplinkBoundaries := by
  intro s
  refine ⟨fun ht => ?_, fun f first ht hk h => exec_replySent_plain ht hk h,
    fun f r ht hk hp hr => exec_replySent_handover ht hk hp hr, fun r hr hp hf => ?_, fun h => ?_, ?_,
    fun h => State.arbitrate_of_opening h, fun ho r hp => State.arbitrate_of_port ho hp,
    fun ho hp h => State.arbitrate_of_not_offered ho hp (State.offered_eq_none h), fun ho hp hr hs hpa i hi => ?_⟩
  · have e : exec .trainWordSent s = execTrainWordSent s := rfl
    rw [e, execTrainWordSent, ht]
    rfl
  · have e : exec .replyHandover s = .next s.handover := rfl
    rw [e, State.handover_of_free hr (Uplink.portFree_iff.2 ⟨hp, hf⟩)]
  · have e : exec .replyHandover s = .next s.handover := rfl
    rw [e, State.handover_of_none]
    obtain h | h | ⟨f, hf, hk⟩ := h
    · exact .inl h
    · exact .inr (Bool.eq_false_iff.2 fun hp => h (Uplink.portFree_iff.1 hp).1)
    · exact .inr (Bool.eq_false_iff.2 fun hp => (Uplink.portFree_iff.1 hp).2 f hf hk)
  · rfl
  · have record {kind : FrameKind} (hk : s.emitter.next = some kind) := State.arbitrate_record ho hp hr hs hpa hi hk
    refine ⟨fun hk => record hk, fun hk => record hk, fun hk => record hk, fun row hk hrow => ?_⟩
    exact (record hk).trans (State.transmitRow_of_nextRow hrow)

/-! ### The ends of EPOCH_MARK and HEAD frames (O44) -/

/-- The boundary at the end of an emitter frame: with no restart waiting the pause and the choice, else the wait alone. -/
theorem State.recordBoundary_split (s : State) :
    (s.emitter.stopping = none → s.recordBoundary = s.pauseAtBoundary.arbitrate) ∧
      (s.emitter.stopping ≠ none → s.recordBoundary = { s with uplink := { s.uplink with tx := .boundary } }) :=
  ⟨State.recordBoundary_of_running, State.recordBoundary_of_stopping⟩

theorem exec_epochMarkSent {s : State} {i : SlotId} {f : UplinkFrame} (h : s.sending .epochMark = some (i, f)) :
    exec .epochMarkSent s = .next (s.afterEpochMark i).recordBoundary := by
  have e : exec .epochMarkSent s = execEpochMarkSent s := rfl
  rw [e, execEpochMarkSent, h]

theorem exec_headSent {s : State} {i : SlotId} {f : UplinkFrame} (h : s.sending .head = some (i, f)) :
    exec .headSent s = .next (s.afterHead i).recordBoundary := by
  have e : exec .headSent s = execHeadSent s := rfl
  rw [e, execHeadSent, h]

/-- Only the forming of a ROW frame moves the emitter at the arbiter's choice. -/
theorem State.emitter_arbitrate {s : State} (h : s.emitter.next ≠ some .row) : s.arbitrate.emitter = s.emitter := by
  unfold State.arbitrate
  split
  · rfl
  · split
    · rfl
    · cases ho : s.offered with
      | none => rfl
      | some p =>
        obtain ⟨i, kind⟩ := p
        have hk : s.emitter.next = some kind := by
          unfold State.offered at ho
          split at ho
          · split at ho
            · next h1 h2 => cases ho; exact h2
            · cases ho
          · cases ho
        cases kind with
        | row => exact absurd hk h
        | _ => rfl

/-- The emitter at the boundary at the end of its frame, when its next frame is no ROW: it may pause (R127). -/
theorem State.emitter_recordBoundary {s : State} (h : s.emitter.next ≠ some .row) :
    s.recordBoundary.emitter = { s.emitter with
      state := if s.uplink.paused ∧ s.emitter.stopping = none ∧ s.emitter.state = .record then .pausedInRecord
        else s.emitter.state } := by
  obtain ⟨hrun, hstop⟩ := s.recordBoundary_split
  by_cases hs : s.emitter.stopping = none
  · have hn : s.pauseAtBoundary.emitter.next ≠ some .row := by simpa using h
    rw [hrun hs, State.emitter_arbitrate hn, State.pauseAtBoundary]
    split
    · next hp => rw [if_pos ⟨hp.1, hs, hp.2⟩]
    · next hp => rw [if_neg fun hc => hp ⟨hc.1, hc.2.2⟩]
  · rw [hstop hs, if_neg fun hc => hs hc.2.1]

/-- Settles O44: the ends of EPOCH_MARK and HEAD frames, and the boundary there. -/
theorem epochMarkAndHeadSent : Obligations.EpochMarkAndHeadSent := by
  refine fun s i f => ⟨fun h => ?_, fun h => ?_⟩
  · refine ⟨_, exec_epochMarkSent h, State.emitter_recordBoundary (s := s.afterEpochMark i) (by simp [State.afterEpochMark]), ?_⟩
    obtain ⟨hrun, hstop⟩ := (s.afterEpochMark i).recordBoundary_split
    refine ⟨?_, ?_, ?_, ?_, ?_, ?_, ?_, hrun, hstop⟩ <;> simp [State.afterEpochMark]
  · obtain ⟨-, hslot, -⟩ := State.sending_eq_some.1 h
    refine ⟨_, exec_headSent h, ?_⟩
    obtain ⟨hrun, hstop⟩ := (s.afterHead i).recordBoundary_split
    have hnext : (s.afterHead i).recordBoundary.emitter.next = some (if (s.slot i).hasPulses then .row else .tail) := by
      simp [State.afterHead]
    refine ⟨?_, ?_, fun hr => ?_, fun hr => ?_, ?_, ?_, ?_, ?_, ?_, ?_, ?_, ?_⟩
    · simp [State.afterHead]
    · simpa [State.afterHead] using hslot
    · rw [hnext, if_pos ((s.slot i).hasPulses_iff.2 hr)]
    · rw [hnext, if_neg fun hp => by obtain ⟨r, hp⟩ := (s.slot i).hasPulses_iff.1 hp; exact hp (hr r)]
    iterate 7 simp [State.afterHead]
    rw [hnext]
    exact ⟨hrun, hstop⟩

end Sys2Proof.Machine
end

section
/-! The end of a ROW frame (O45). -/

namespace Sys2Proof.Machine

open Sys2Proof Sys2Proof.Safety

/-! ### The pulses a ROW frame takes (R119) -/

/-- A frame takes the head of its chain, and stops only where the next pulse would not fit. -/
theorem fitting_append (room : Nat) (chain : List StoredPulse) :
    ∃ left, chain = fitting room chain ++ left ∧
      ∀ p ps, left = p :: ps → room < ((fitting room chain).map pulseSize).sum + pulseSize p := by
  induction chain generalizing room with
  | nil => exact ⟨[], rfl, fun p ps h => by cases h⟩
  | cons q chain ih =>
    unfold fitting
    split
    · next hq =>
      obtain ⟨left, hleft, hstop⟩ := ih (room - pulseSize q)
      refine ⟨left, congrArg (q :: ·) hleft, fun p ps h => ?_⟩
      have := hstop p ps h
      simp only [List.map_cons, List.sum_cons]
      omega
    · next hq =>
      refine ⟨q :: chain, rfl, fun p ps h => ?_⟩
      obtain ⟨rfl, -⟩ := List.cons.inj h
      simp only [List.map_nil, List.sum_nil]
      omega

/-! ### The emitter's step after a ROW frame (R119) -/

/-- A row position whose chain holds pulses is itself the next row. -/
theorem Slot.nextRow_self {t : Slot} {o : RowOrder} {pos : RowId} (h : t.rows[pos] ≠ []) : t.nextRow o pos = some pos := by
  obtain ⟨rest, hr⟩ := rowsFrom_eq_cons o pos
  rw [Slot.nextRow, hr, List.find?_cons_of_pos]
  simpa using h

/-- The rows that come after a row in an order. -/
def RowOrder.later (o : RowOrder) (a r : RowId) : Prop :=
  match o with
  | .ascending => a < r
  | .descending => r < a

theorem RowOrder.later_iff {o : RowOrder} {a r : RowId} : o.later a r ↔ o.le a r ∧ r ≠ a := by
  cases o
  · show a.val < r.val ↔ a.val ≤ r.val ∧ ¬ r = a
    rw [Fin.ext_iff]
    omega
  · show r.val < a.val ↔ r.val ≤ a.val ∧ ¬ r = a
    rw [Fin.ext_iff]
    omega

theorem Emitter.afterRow_of_left {o : RowOrder} {row : RowId} {t : Slot} {e : Emitter} (h : t.rows[row] ≠ []) :
    e.afterRow o row t = { e with next := some .row, row := row, continuation := true } := by
  rw [Emitter.afterRow, if_pos (by simpa using h)]

theorem Emitter.afterRow_of_empty {o : RowOrder} {row : RowId} {t : Slot} {e : Emitter} (h : t.rows[row] = []) :
    e.afterRow o row t = match rowAfter o row with
      | none => { e with next := some .tail, continuation := false }
      | some r =>
        { e with next := some (if (t.nextRow o r).isSome then .row else .tail), row := r, continuation := false } :=
  if_neg (by simp [h])

/-- The next frame past a row that has ended: ROW while a later row holds pulses, TAIL otherwise. -/
theorem Slot.nextRow_isSome_iff {t : Slot} {o : RowOrder} {pos r : RowId} (h : rowAfter o pos = some r) :
    (t.nextRow o r).isSome = true ↔ ∃ q, o.later pos q ∧ t.rows[q] ≠ [] := by
  obtain ⟨hle, hne, hmin⟩ := rowAfter_some h
  cases hn : t.nextRow o r with
  | none =>
    refine ⟨fun h' => (by cases h'), fun ⟨q, hq, hp⟩ => absurd (Slot.nextRow_none hn ?_) hp⟩
    obtain ⟨hq, hqne⟩ := RowOrder.later_iff.1 hq
    exact hmin q hq hqne
  | some q =>
    obtain ⟨hq, hp, -⟩ := Slot.nextRow_some hn
    refine ⟨fun _ => ⟨q, RowOrder.later_iff.2 ⟨o.le_trans hle hq, ?_⟩, hp⟩, fun _ => rfl⟩
    rintro rfl
    exact hne (o.le_antisymm hle hq)

/-- The clauses of a chain's end, in terms of the rows that come later. -/
theorem rowFrameEnds_of_ended {o : RowOrder} {t : Slot} {e e' : Emitter}
    (others : e' = { e with next := e'.next, row := e'.row, continuation := e'.continuation })
    (hc : e'.continuation = false) (moves : ∀ r, rowAfter o e.row = some r → e'.row = r)
    (row : (∃ r, o.later e.row r ∧ t.rows[r] ≠ []) → e'.next = some .row)
    (tail : (∀ r, o.later e.row r → t.rows[r] = []) → e'.next = some .tail)
    (last : (∀ r, ¬ o.later e.row r) → e'.row = e.row) : RowFrameEnds o t [] e e' := by
  refine ⟨others, fun h => absurd rfl h, fun _ => ⟨hc, fun r hr => moves r (rowAfter_eq_some_iff.2 hr)⟩, fun _ => ?_⟩
  cases o <;> exact ⟨row, tail, last⟩

theorem rowFrameEnds_afterRow {o : RowOrder} {t t' : Slot} {e : Emitter} {left : List StoredPulse}
    (hleft : t'.rows[e.row] = left) (hother : ∀ r : RowId, r ≠ e.row → t'.rows[r] = t.rows[r]) :
    RowFrameEnds o t left e (e.afterRow o e.row t') := by
  by_cases hl : left = []
  · subst hl
    rw [Emitter.afterRow_of_empty hleft]
    have hlater : ∀ r, o.later e.row r → t'.rows[r] = t.rows[r] := fun r hr => hother r (RowOrder.later_iff.1 hr).2
    cases hn : rowAfter o e.row with
    | none =>
      have hlast : ∀ r, ¬ o.later e.row r := fun r hr => by
        obtain ⟨hle, hne⟩ := RowOrder.later_iff.1 hr
        exact hne (rowAfter_none hn hle)
      refine rowFrameEnds_of_ended rfl rfl (fun r hr => ?_) (fun ⟨r, hr, _⟩ => absurd hr (hlast r)) (fun _ => rfl)
        fun _ => rfl
      rw [hn] at hr
      cases hr
    | some q =>
      refine rowFrameEnds_of_ended rfl rfl (fun r hr => Option.some.inj (hn.symm.trans hr)) (fun ⟨r, hr, hp⟩ => ?_)
        (fun h => ?_) fun h => ?_
      · have hp' : t'.rows[r] ≠ [] := hlater r hr ▸ hp
        exact congrArg some (if_pos ((Slot.nextRow_isSome_iff hn).2 ⟨r, hr, hp'⟩))
      · refine congrArg some (if_neg fun hs => ?_)
        obtain ⟨r, hr, hp⟩ := (Slot.nextRow_isSome_iff hn).1 hs
        exact hp ((hlater r hr).trans (h r hr))
      · obtain ⟨hle, hne, -⟩ := rowAfter_some hn
        exact absurd (RowOrder.later_iff.2 ⟨hle, Ne.symm hne⟩) (h q)
  · rw [Emitter.afterRow_of_left (by rwa [hleft])]
    exact ⟨rfl, fun _ => rfl, fun h => absurd h hl, fun h => absurd h hl⟩

/-! ### The end of a ROW frame (O45) -/

theorem exec_rowSent {s : State} {i : SlotId} {f : UplinkFrame} (h : s.sending .row = some (i, f)) :
    exec .rowSent s = .next (s.afterRow i f).recordBoundary := by
  have e : exec .rowSent s = execRowSent s := rfl
  rw [e, execRowSent, h]

/-- The pulses of a ROW frame leave the head of its chain, and their cells the slot's total (R51). -/
theorem State.slot_returnCells (i : SlotId) (row : RowId) (n : Nat) (s : State) :
    (s.returnCells i row n).slot i =
      { s.slot i with
        rows := (s.slot i).rows.set row ((s.slot i).rows[row].drop n)
        totals := { (s.slot i).totals with cellsHeld := (s.slot i).totals.cellsHeld -
          (((s.slot i).rows[row].take n).flatMap StoredPulse.cells).length } } := by
  unfold State.returnCells
  simp [State.slot]

theorem State.slot_returnCells_of_ne {i i' : SlotId} (h : i' ≠ i) (row : RowId) (n : Nat) (s : State) :
    (s.returnCells i row n).slot i' = s.slot i' := by
  unfold State.returnCells
  exact State.slot_mapSlot_ne h ..

theorem State.rowFrameEnds_returned (s : State) (i : SlotId) (f : UplinkFrame) :
    RowFrameEnds (s.orderOf i) (s.slot i) ((s.slot i).rows[s.emitter.row].drop f.pulses) s.emitter
      (s.emitter.afterRow (s.orderOf i) s.emitter.row ((s.returnCells i s.emitter.row f.pulses).slot i)) := by
  refine rowFrameEnds_afterRow ?_ fun r hr => ?_
  · rw [State.slot_returnCells]
    simp
  · rw [State.slot_returnCells]
    exact (Vector.getElem_set s.emitter.row.isLt r.isLt).trans (if_neg fun e => hr (Fin.ext e.symm))

/-- A chain that goes on is taken up again at once, with CONT_ROW (R119, R120). -/
theorem State.arbitrate_continued {s : State} {i : SlotId} {row : RowId} {chain : List StoredPulse}
    (hi : s.emitter.slot = some i) (hn : s.emitter.next = some .row) (hc : s.emitter.continuation = true)
    (hrow : s.emitter.row = row) (hchain : (s.slot i).rows[row] = chain) (hne : chain ≠ [])
    (hr : s.emitter.state = .record) (hs : s.emitter.stopping = none)
    (hpa : s.uplink.paused = false) (ho : s.uplink.opening = 0) (hp : s.uplink.port = none) :
    s.arbitrate.uplink = { s.uplink with tx := .frame (uplinkFrame .row s.attention (s.slot i).first
      (rowPayload (satAdd 4095 s.emitter.sections 1) true row (fitting 254 chain)) (fitting 254 chain).length) } := by
  subst hrow hchain
  rw [State.arbitrate_record ho hp hr hs hpa hi hn, State.transmitRecord,
    State.transmitRow_of_nextRow (Slot.nextRow_self hne)]
  simp [hc]

/-- Settles O45: the end of a ROW frame, with and without a restart waiting, and how a frame takes whole pulses. -/
theorem rowSent : Obligations.RowSent := by
  refine ⟨fun s i f h hs => ?_, fun s i f h hs => ?_, fun room chain => ?_⟩
  · intro row chain back
    obtain ⟨-, hslot, -⟩ := State.sending_eq_some.1 h
    have ends := s.rowFrameEnds_returned i f
    obtain ⟨e, he, ⟨-, ha⟩ | ⟨hs', -⟩⟩ := s.afterRow_cases i f
    · rw [← he] at ends
      obtain ⟨hstate, hsl, -, hstop⟩ := (s.emitter.afterRow_frame (s.orderOf i) s.emitter.row
        ((s.returnCells i s.emitter.row f.pulses).slot i))
      rw [← he] at hstate hsl hstop
      have hown := s.slot_returnCells i s.emitter.row f.pulses
      have hothers : ∀ i', i' ≠ i → _ := fun i' hi' => s.slot_returnCells_of_ne hi' s.emitter.row f.pulses
      refine ⟨_, exec_rowSent h, ?_⟩
      rw [ha, State.recordBoundary_of_running (hstop.trans hs)]
      have hring : ∀ u : State, u.pauseAtBoundary.arbitrate.ring = u.ring := fun u => by simp
      refine ⟨by simp; rfl, ?_, fun i' hi' => ?_, ⟨_, rfl, ?_, ends, by simp, fun hc hr hpa ho hp => ?_⟩, ?_, by simp,
        by simp, by simp, by simp, by simp⟩
      · rw [State.slot, hring]
        exact hown
      · rw [State.slot, hring]
        exact hothers i' hi'
      · simp
      · have heq := ends.stays hc
        have hp' : ({ s.returnCells i row f.pulses with emitter := e } : State).pauseAtBoundary =
            { s.returnCells i row f.pulses with emitter := e } := if_neg fun h' => by simp [hpa] at h'
        have hchain : ((s.returnCells i row f.pulses).slot i).rows[row] = chain.drop f.pulses := by
          rw [hown]
          simp [row, chain]
        rw [hp']
        refine (State.arbitrate_continued (s := { s.returnCells i row f.pulses with emitter := e }) (hsl.trans hslot)
          (by rw [heq]) (by rw [heq]) (by rw [heq]) hchain hc (hstate.trans hr) (hstop.trans hs) hpa ho hp).trans ?_
        have hfirst : (({ s.returnCells i row f.pulses with emitter := e } : State).slot i).first = (s.slot i).first :=
          (congrArg Slot.first hown :)
        have hsec : ({ s.returnCells i row f.pulses with emitter := e } : State).emitter.sections = s.emitter.sections := by
          rw [heq]
        rw [hfirst, hsec]
        rfl
      · rw [hring]
        rfl
    · exact absurd hs hs'
  · have ends := s.rowFrameEnds_returned i f
    obtain ⟨e, he, ⟨hs', -⟩ | ⟨-, ha⟩⟩ := s.afterRow_cases i f
    · exact absurd hs' hs
    · rw [← he] at ends
      have hstop : e.stopping ≠ none := by rw [he]; simpa using hs
      refine ⟨_, exec_rowSent h, ?_⟩
      rw [ha, State.recordBoundary_of_stopping (s := { s with emitter := e }) hstop]
      exact ⟨rfl, ends⟩
  · obtain ⟨left, hleft, hstop⟩ := fitting_append room chain
    exact ⟨left, hleft, pulseSizes_fitting_le room chain, hstop⟩

end Sys2Proof.Machine
end

section
/-! The end of a TAIL frame (O46). -/

namespace Sys2Proof.Machine

open Sys2Proof Sys2Proof.Safety

/-! ### The choice at a boundary -/

/-- The attention flag rests on the links, the free list and the control unit alone (R128, R167). -/
theorem State.attention_congr {s t : State} (hl : t.links = s.links) (hf : t.freeCells = s.freeCells)
    (hc : t.control = s.control) : t.attention = s.attention := by
  have hcong : t.congested = s.congested := by
    funext k
    rw [State.congested, State.congested, hc]
  have hp : ∀ c, t.isPending c = s.isPending c := by
    intro c
    cases c <;> simp only [State.isPending, State.firstLink, State.link, hcong, hl, hf, hc]
  simp only [State.attention, State.isEnabled, hc, hp]

/-- A choice whose next record frame is no ROW touches the uplink alone. -/
theorem State.arbitrate_eq {s : State} (h : s.emitter.next ≠ some .row) :
    s.arbitrate = { s with uplink := s.arbitrate.uplink } := by
  obtain ⟨hl, hr, hf, hp, hs, hla, hc, hd, hq, -⟩ := s.arbitrate_frame
  have he := State.emitter_arbitrate h
  generalize s.arbitrate = t at hl hr hf hp hs hla hc hd hq he ⊢
  cases t
  simp only at hl hr hf hp hs hla hc hd hq he
  subst hl hr hf hp hs hla hc hd hq he
  rfl

/-- An uplink with the same pause flag makes no difference to the emitter's taking (R114). -/
theorem State.emitterTakes_withUplink {s : State} {v : Uplink} (h : v.paused = s.uplink.paused) :
    ({ s with uplink := v } : State).emitterTakes = { s.emitterTakes with uplink := v } := by
  unfold State.emitterTakes
  by_cases hc : s.emitter.state = .idle ∧ s.emitter.stopping = none ∧ s.ring.cursor ≠ none ∧
      (s.slot s.ring.cursorSlot).state = .complete
  · rw [if_pos hc]
    refine (if_pos hc).trans ?_
    simp only [h]
    rfl
  · rw [if_neg hc]
    exact if_neg hc

/-! ### The release of the record slot (R122, R145) -/

theorem State.slot_releaseSlot (i i' : SlotId) (s : State) :
    (s.releaseSlot i).slot i' = if i' = i then .free else s.slot i' := by
  have e : (s.releaseSlot i).slot i' = (s.emptySlot i).slot i' := by simp [State.slot]
  rw [e, State.emptySlot, State.slot_mapSlot_ite]

/-- A commit whose switch heartbeat the advanced cursor reaches is released with its slot (R145). -/
theorem State.releaseSlot_commit (i : SlotId) (s : State) :
    (∃ c, s.settings.commit = some c ∧ c.switchHeartbeat = (s.slot i).first + BitVec.ofNat 16 (2 ^ (s.slot i).span) ∧
      (s.releaseSlot i).settings = { s.settings with commit := none, staging := s.settings.active } ∧
      (s.releaseSlot i).padTable = { s.padTable with stale := true } ∧
      (s.releaseSlot i).emitter.lastEpoch =
        if s.emitter.lastEpoch = some s.settings.epoch then some c.oldEpoch else s.emitter.lastEpoch) ∨
    (¬ (∃ c, s.settings.commit = some c ∧
        c.switchHeartbeat = (s.slot i).first + BitVec.ofNat 16 (2 ^ (s.slot i).span)) ∧
      (s.releaseSlot i).settings = s.settings ∧ (s.releaseSlot i).padTable = s.padTable ∧
      (s.releaseSlot i).emitter.lastEpoch = s.emitter.lastEpoch) := by
  obtain ⟨c, hc, hcur, e⟩ | ⟨hn, e⟩ := ((s.emptySlot i).advanceCursor (s.slot i)).releaseCommit_cases
  · refine .inl ⟨c, hc, (Option.some.inj hcur).symm, ?_, ?_, ?_⟩ <;>
      · unfold State.releaseSlot
        rw [e]
        rfl
  · refine .inr ⟨fun ⟨c, hc, hf⟩ => hn c hc (congrArg some hf.symm), ?_, ?_, ?_⟩ <;>
      · unfold State.releaseSlot
        rw [e]
        rfl

/-! ### The end of a TAIL frame (O46) -/

theorem exec_tailSent {s : State} {i : SlotId} {f : UplinkFrame} (first : Bool) (h : s.sending .tail = some (i, f)) :
    exec (.tailSent first) s = .next (s.afterTail first i) := by
  have e : exec (.tailSent first) s = execTailSent first s := rfl
  rw [e, execTailSent, h]

/-- An emitter that is IDLE, or has just taken a slot, does not pause at a boundary. -/
theorem State.pauseAtBoundary_emitterTakes {s : State} (h : s.emitter.state = .idle) :
    s.emitterTakes.pauseAtBoundary = s.emitterTakes := by
  refine if_neg fun ⟨hp, hr⟩ => ?_
  obtain ⟨-, -, -, -, e⟩ | ⟨-, e⟩ := s.emitterTakes_cases
  · rw [e] at hp hr
    simp only [State.mapSlot] at hp hr
    rw [if_pos hp] at hr
    cases hr
  · rw [e, h] at hr
    cases hr

theorem State.next_emitterTakes {s : State} (h : s.emitter.next ≠ some .row) : s.emitterTakes.emitter.next ≠ some .row := by
  obtain ⟨-, -, -, -, e⟩ | ⟨-, e⟩ := s.emitterTakes_cases
  · rw [e]
    simp only
    split <;> simp
  · rwa [e]

/-- The state over which the arbiter chooses at the end of a TAIL frame: with the record slot released, and before or after
the emitter's taking (R125). -/
def State.tailChoice (first : Bool) (i : SlotId) (s : State) : State :=
  if first then s.countEmitted.releaseSlot i else (s.countEmitted.releaseSlot i).emitterTakes

/-- In both orders the ring and the emitter end as after the taking; the choice shows in the uplink alone. -/
theorem State.afterTail_of_running {s : State} (h : s.emitter.stopping = none) (first : Bool) (i : SlotId) :
    s.afterTail first i =
      { (s.countEmitted.releaseSlot i).emitterTakes with uplink := (s.tailChoice first i).arbitrate.uplink } := by
  have he := s.countEmitted.releaseSlot_emitter i
  have hidle : (s.countEmitted.releaseSlot i).emitter.state = .idle := by rw [he]
  have hnext : (s.countEmitted.releaseSlot i).emitter.next ≠ some .row := by rw [he]; exact nofun
  obtain ⟨hs, -⟩ | ⟨-, rfl, e⟩ | ⟨-, rfl, e⟩ := s.afterTail_cases first i
  · exact absurd h hs
  · have hp : (s.countEmitted.releaseSlot i).pauseAtBoundary = s.countEmitted.releaseSlot i :=
      if_neg fun hc => by rw [hidle] at hc; cases hc.2
    rw [e, State.boundary, hp, State.arbitrate_eq hnext, State.emitterTakes_withUplink (by simp)]
    rfl
  · rw [e, State.boundary, State.pauseAtBoundary_emitterTakes hidle]
    exact State.arbitrate_eq (State.next_emitterTakes hnext)

/-- The next slot is taken exactly when it is another slot, and COMPLETE. -/
theorem State.takes_after_tail {s : State} (h : s.emitter.stopping = none) (i : SlotId) :
    ((s.releaseSlot i).emitter.state = .idle ∧ (s.releaseSlot i).emitter.stopping = none ∧
      (s.releaseSlot i).ring.cursor ≠ none ∧
      ((s.releaseSlot i).slot (s.releaseSlot i).ring.cursorSlot).state = .complete) ↔
    s.ring.cursorSlot + 1 ≠ i ∧ (s.slot (s.ring.cursorSlot + 1)).state = .complete := by
  have he := s.releaseSlot_emitter i
  have hcs : (s.releaseSlot i).ring.cursorSlot = s.ring.cursorSlot + 1 := by simp
  have hslot : (s.releaseSlot i).slot (s.ring.cursorSlot + 1) =
      if s.ring.cursorSlot + 1 = i then .free else s.slot (s.ring.cursorSlot + 1) := s.slot_releaseSlot ..
  rw [hcs, hslot]
  split
  · next hi => exact ⟨fun h' => (by cases h'.2.2.2), fun h' => absurd hi h'.1⟩
  · next hi => exact ⟨fun h' => ⟨hi, h'.2.2.2⟩, fun h' => ⟨by rw [he], by simpa using h, by simp, h'.2⟩⟩

/-- The emitter as it takes the next slot at the end of a TAIL frame (R114). -/
theorem State.emitter_taken_after_tail {s : State} {i : SlotId} (hs : s.emitter.stopping = none)
    (hi : s.ring.cursorSlot + 1 ≠ i) (hc : (s.slot (s.ring.cursorSlot + 1)).state = .complete) :
    let t := (s.releaseSlot i).emitterTakes
    (∀ i', t.slot i' = if i' = s.ring.cursorSlot + 1 then { s.slot i' with state := .emitting }
      else (s.releaseSlot i).slot i') ∧
    t.emitter =
      { s.emitter with
        state := if s.uplink.paused then .pausedInRecord else .record
        slot := some (s.ring.cursorSlot + 1)
        lastEpoch := t.emitter.lastEpoch
        next := some (if t.emitter.lastEpoch = some (s.slot (s.ring.cursorSlot + 1)).epoch then .head else .epochMark)
        row := (t.settings.settingsOf (s.slot (s.ring.cursorSlot + 1)).epoch).order.firstRow
        continuation := false
        sections := 0, pulsesSent := 0, samplesSent := 0 } := by
  intro t
  obtain ⟨hslots, hemit⟩ := (emitterTakes_eq (s.releaseSlot i)).1 ((State.takes_after_tail hs i).2 ⟨hi, hc⟩)
  have hcs : (s.releaseSlot i).ring.cursorSlot = s.ring.cursorSlot + 1 := by simp
  have hnext : (s.releaseSlot i).slot (s.ring.cursorSlot + 1) = s.slot (s.ring.cursorSlot + 1) :=
    (s.slot_releaseSlot ..).trans (if_neg hi)
  rw [hcs] at hslots hemit
  refine ⟨fun i' => ?_, ?_⟩
  · rw [hslots]
    split
    · next h => rw [h, hnext]
    · rfl
  · have hset : t.settings = (s.releaseSlot i).settings := by simp [t]
    have hlast : t.emitter.lastEpoch = (s.releaseSlot i).emitter.lastEpoch := by simp [t]
    rw [hset, hlast]
    refine hemit.trans ?_
    rw [hnext, emitterAt, hcs, s.releaseSlot_emitter i]
    simp

/-- The choice at the end of a TAIL frame sees the uplink and the attention flag of its end. -/
theorem State.tailChoice_frame (first : Bool) (i : SlotId) (s : State) :
    (s.tailChoice first i).uplink = s.uplink ∧
      (s.tailChoice first i).attention = ((s.countEmitted.releaseSlot i).emitterTakes).attention ∧
      (first = true → (s.tailChoice first i).emitter.state = .idle) := by
  cases first with
  | true =>
    refine ⟨by simp [State.tailChoice], (State.attention_congr (by simp [State.tailChoice]) (by simp [State.tailChoice])
      (by simp [State.tailChoice])), fun _ => ?_⟩
    show (s.countEmitted.releaseSlot i).emitter.state = .idle
    rw [State.releaseSlot_emitter]
  | false => exact ⟨by simp [State.tailChoice], rfl, nofun⟩

/-- The first frame of a record is sent as an EPOCH_MARK or a HEAD (R114, R115). -/
theorem State.transmitRecord_first (s : State) (i : SlotId) (e : Epoch) :
    let kind := if s.emitter.lastEpoch = some e then .head else .epochMark
    ∃ g, (s.transmitRecord i kind).uplink = { s.uplink with tx := .frame g } ∧ g.kind = kind := by
  intro kind
  by_cases h : s.emitter.lastEpoch = some e
  · rw [show kind = .head from if_pos h]
    exact ⟨_, rfl, rfl⟩
  · rw [show kind = .epochMark from if_neg h]
    exact ⟨_, rfl, rfl⟩

/-- What the end of a TAIL frame leaves of the state after the taking. -/
theorem State.tailTaken_frame (i : SlotId) (s : State) :
    let t := (s.countEmitted.releaseSlot i).emitterTakes
    let fc := (s.slot i).first + BitVec.ofNat 16 (2 ^ (s.slot i).span)
    t.control = s.countEmitted.control ∧ t.ring.cursor = some fc ∧ t.ring.cursorSlot = s.ring.cursorSlot + 1 ∧
      t.ring.newest = newestAfterAdvance fc s.ring.newest ∧ t.ring.intake = s.ring.intake ∧
      t.ring.arbiter = s.ring.arbiter ∧ t.lane = s.lane ∧ t.freeCells = s.freeCells ∧ t.links = s.links ∧
      t.uplink = s.uplink ∧ t.settings = (s.countEmitted.releaseSlot i).settings ∧
      t.padTable = (s.countEmitted.releaseSlot i).padTable ∧
      t.emitter.lastEpoch = (s.countEmitted.releaseSlot i).emitter.lastEpoch := by
  refine ⟨?_, ?_, ?_, ?_, ?_, ?_, ?_, ?_, ?_, ?_, ?_, ?_, ?_⟩ <;> simp [State.advanceCursor, State.slot]

/-- The slots and the emitter after a TAIL frame, whether or not the next slot is taken. -/
theorem State.tailTaken_slots {s : State} {i : SlotId} (hs : s.emitter.stopping = none) :
    let t := (s.releaseSlot i).emitterTakes
    let k := s.ring.cursorSlot + 1
    (∀ i', i' ≠ k → t.slot i' = if i' = i then .free else s.slot i') ∧ t.slot i = .free ∧
      (¬ (k ≠ i ∧ (s.slot k).state = .complete) → (t.slot k = if k = i then .free else s.slot k) ∧
        t.emitter = { s.emitter with state := .idle, slot := none, next := none, lastEpoch := t.emitter.lastEpoch }) := by
  intro t k
  have hslot := fun i' => s.slot_releaseSlot i i'
  by_cases hk : k ≠ i ∧ (s.slot k).state = .complete
  · obtain ⟨h, -⟩ := State.emitter_taken_after_tail hs hk.1 hk.2
    refine ⟨fun i' hi' => ?_, ?_, fun hn => absurd hk hn⟩
    · rw [h, if_neg hi', hslot]
    · rw [h, if_neg (Ne.symm hk.1), hslot, if_pos rfl]
  · have e : t = s.releaseSlot i :=
      (State.emitterTakes_eq (s.releaseSlot i)).2 (mt (State.takes_after_tail hs i).1 hk)
    rw [e]
    exact ⟨fun i' _ => hslot i', (hslot i).trans (if_pos rfl), fun _ => ⟨hslot k, s.releaseSlot_emitter i⟩⟩

/-- Settles O46: the end of a TAIL frame, in both orders of its boundary and the emitter's taking. -/
theorem tailSent : Obligations.TailSent := by
  intro s i f first h fc released nextSlot counted
  refine ⟨fun hs => ?_, fun hs => ?_⟩
  · obtain ⟨-, e⟩ | ⟨hs', -⟩ | ⟨hs', -⟩ := s.afterTail_cases first i
    · rw [exec_tailSent first h, e]
      rfl
    · exact absurd hs' hs
    · exact absurd hs' hs
  refine ⟨_, exec_tailSent first h, ?_⟩
  rw [State.afterTail_of_running hs]
  have hs' : s.countEmitted.emitter.stopping = none := hs
  obtain ⟨hwu, hwa, hwi⟩ := s.tailChoice_frame first i
  have hchoice : first = false → s.tailChoice first i = (s.countEmitted.releaseSlot i).emitterTakes := by
    rintro rfl
    rfl
  have hstop : (s.countEmitted.releaseSlot i).emitterTakes.emitter.stopping = none := by simpa using hs
  have hnext : (s.countEmitted.releaseSlot i).emitterTakes.emitter.next ≠ some .row :=
    State.next_emitterTakes (by rw [State.releaseSlot_emitter]; exact nofun)
  obtain ⟨hctl, hcur, hcs, hnew, hint, harb, hlane, hfree, hlinks, hup, hset, hpad, hlast⟩ := s.tailTaken_frame i
  obtain ⟨hslots, hsi, huntaken⟩ := State.tailTaken_slots (i := i) hs'
  have htaken := fun hi hc => State.emitter_taken_after_tail (s := s.countEmitted) (i := i) hs' hi hc
  have hcommit := s.countEmitted.releaseSlot_commit i
  rw [← hset, ← hpad, ← hlast] at hcommit
  generalize s.tailChoice first i = w at *
  generalize (s.countEmitted.releaseSlot i).emitterTakes = t at *
  refine ⟨hctl, hsi, hcur, hcs, hnew.trans ?_, hint, harb, hlane, fun i' hi hk => ?_, fun hi hc => ?_, fun hi hc => ?_,
    fun hr => ?_, fun hr => ?_, fun c hc hf hl => ?_, fun hr => ?_, fun hi hc => ?_, fun hi hc => ?_, fun h1 => ?_,
    fun h1 ho hp => ?_, fun h1 ho hp hpa hi hc => ?_, fun ho => ?_, fun ho r hp => ?_, fun ho hp hx => ?_, hfree, hlinks⟩
  · cases s.ring.newest <;> rfl
  · exact (hslots i' hk).trans (if_neg hi)
  · obtain ⟨hk, he⟩ := htaken hi hc
    refine ⟨(hk _).trans (if_pos rfl), congrArg Emitter.slot he, ?_⟩
    show t.emitter.state ≠ .idle
    rw [he]
    simp only
    split <;> simp
  · obtain ⟨hk, he⟩ := huntaken fun h' => hc h'.2
    exact ⟨hk.trans (if_neg hi), congrArg Emitter.slot he, congrArg Emitter.state he, congrArg Emitter.next he⟩
  · obtain ⟨c, hc, hf, hsettings, hpadTable, -⟩ | ⟨hn, -⟩ := hcommit
    · exact ⟨hsettings, hpadTable⟩
    · exact absurd hr hn
  · obtain ⟨c, hc, hf, -⟩ | ⟨-, hsettings, hpadTable, -⟩ := hcommit
    · exact absurd ⟨c, hc, hf⟩ hr
    · exact ⟨hsettings, hpadTable⟩
  · obtain ⟨c', hc', -, -, -, he⟩ | ⟨hn, -⟩ := hcommit
    · obtain rfl := Option.some.inj (hc'.symm.trans hc)
      exact he.trans (if_pos hl)
    · exact absurd ⟨c, hc, hf⟩ hn
  · obtain ⟨c, hc, hf, -, -, he⟩ | ⟨-, -, -, he⟩ := hcommit
    · obtain hr | hr := hr
      · exact absurd ⟨c, hc, hf⟩ hr
      · exact he.trans (if_neg hr)
    · exact he
  · refine (htaken hi hc).2.trans ?_
    congr 1
  · exact (huntaken fun h' => hc h'.2).2
  · have e : ({ t with uplink := s.uplink } : State) = t := by rw [← hup]
    rw [hchoice h1]
    exact (State.arbitrate_eq hnext).symm.trans (congrArg State.arbitrate e.symm)
  · show w.arbitrate.uplink = _
    have hn : w.offered = none := State.offered_eq_none (.inl (by rw [hwi h1]; exact nofun))
    rw [State.arbitrate_of_not_offered (by rwa [hwu]) (by rwa [hwu]) hn, ← hwu]
    rfl
  · obtain rfl := hchoice h1
    obtain ⟨-, he⟩ := htaken hi hc
    have hr : w.emitter.state = .record := (congrArg Emitter.state he).trans (if_neg (by simp [hpa]))
    have hk := congrArg Emitter.next he
    obtain ⟨g, hg, hkind⟩ := State.transmitRecord_first w nextSlot (s.countEmitted.slot nextSlot).epoch
    refine ⟨g, ?_, hk.trans (congrArg some hkind.symm)⟩
    show w.arbitrate.uplink = _
    rw [State.arbitrate_record (by rwa [hwu]) (by rwa [hwu]) hr hstop (by rwa [hwu]) (congrArg Emitter.slot he) hk, ← hwu]
    exact hg
  · show w.arbitrate.uplink = _
    rw [State.arbitrate_of_opening (by rwa [hwu]), ← hwu]
    rfl
  · show w.arbitrate.uplink = _
    rw [State.arbitrate_of_port (by rwa [hwu]) (by rwa [hwu]), hwa, ← hwu]
    rfl
  · show w.arbitrate.uplink = _
    have hn : w.offered = none := by
      refine State.offered_eq_none ?_
      obtain hpa | hidle := hx
      · exact .inr (.inr (by rwa [hwu]))
      · cases hf : first with
        | true => exact .inl (by rw [hwi hf]; exact nofun)
        | false =>
          have hidle : t.emitter.state = .idle := hidle
          exact .inl (by rw [hchoice hf, hidle]; exact nofun)
    rw [State.arbitrate_of_not_offered (by rwa [hwu]) (by rwa [hwu]) hn, ← hwu]
    rfl

end Sys2Proof.Machine
end

section
/-! The words of the return lane (O49). -/

namespace Sys2Proof.Machine

open Sys2Proof Sys2Proof.Safety

/-! ### The receiver as words reach it (R151 to R153) -/

/-- The return lane with the error window `w` after a word: its signal timer shows 0 (assumption 12). -/
def ReturnLane.heard (w : List Nat) (r : ReturnLane) : ReturnLane := { r with errorWindow := w, signalTimer := 0 }

theorem ReturnLane.age_of_hearing {r : ReturnLane} (h : r.state ≠ .search) (n : Nat) :
    r.age n = r.heard (ageWindow n r.errorWindow) := by
  unfold ReturnLane.age
  split
  · next hs => exact absurd hs h
  · rfl
  · rfl

theorem State.mapLane_congr {s : State} {f g : ReturnLane → ReturnLane} (h : f s.lane = g s.lane) :
    s.mapLane f = s.mapLane g := congrArg (fun r => ({ s with lane := r } : State)) h

theorem State.mapLane_eq {s : State} {f : ReturnLane → ReturnLane} {r : ReturnLane} (h : f s.lane = r) :
    s.mapLane f = { s with lane := r } := congrArg (fun r => ({ s with lane := r } : State)) h

/-- `n` words reach a receiver that is not in SEARCH. -/
theorem State.mapLane_age {s : State} (h : s.lane.state ≠ .search) (n : Nat) :
    s.mapLane (ReturnLane.age n) = s.mapLane (ReturnLane.heard (ageWindow n s.lane.errorWindow)) :=
  State.mapLane_congr (ReturnLane.age_of_hearing h n)

theorem State.laneControl_of_search {s : State} (h : s.lane.state = .search) (c : Word16) : s.laneControl c = s := by
  rw [State.laneControl, h]

theorem State.laneControl_of_training {s : State} (h : s.lane.state = .training) (c : Word16) :
    s.laneControl c = s.mapLane fun r =>
      if c = Config.trainControl then (r.heard (ageWindow 1 s.lane.errorWindow)).trainUp
      else (r.heard (ageWindow 1 s.lane.errorWindow)).trainReset := by
  unfold State.laneControl
  rw [h]
  refine State.mapLane_congr ?_
  rw [ReturnLane.age_of_hearing (by simp [h])]

theorem State.laneControl_of_aligned {s : State} (h : s.lane.state = .aligned) (c : Word16) :
    s.laneControl c = (s.mapLane (ReturnLane.heard (ageWindow 1 s.lane.errorWindow))).alignedControl c := by
  rw [State.laneControl, h]
  exact congrArg (State.alignedControl c) (State.mapLane_age (by simp [h]) 1)

theorem State.laneWord_of_search {s : State} (h : s.lane.state = .search) (w : LaneWord) : s.laneWord w = s := by
  cases w with
  | control c => exact State.laneControl_of_search h c
  | data d => simp only [State.laneWord, h]

theorem State.requestWordsArrive_of_search {s : State} (h : s.lane.state = .search) (ws : List Word16) :
    s.requestWordsArrive ws = s := by
  rw [State.requestWordsArrive, h]

theorem State.inRequest_of_search {s : State} (h : s.lane.state = .search) (ws : Option (List Word16)) :
    s.inRequest ws = s := by
  cases ws with
  | none => rfl
  | some ws => exact State.requestWordsArrive_of_search h ws

/-- A word that is no TRAIN word sets the training count to 0 (R151). -/
theorem State.laneWord_of_training {s : State} (h : s.lane.state = .training) {w : LaneWord}
    (hw : w ≠ .control Config.trainControl) :
    s.laneWord w = s.mapLane fun r => (r.heard (ageWindow 1 s.lane.errorWindow)).trainReset := by
  cases w with
  | control c =>
    have hc : c ≠ Config.trainControl := fun e => hw (congrArg LaneWord.control e)
    refine (State.laneControl_of_training h c).trans (State.mapLane_congr ?_)
    simp only [if_neg hc]
  | data d =>
    simp only [State.laneWord, h]
    refine State.mapLane_congr ?_
    rw [ReturnLane.age_of_hearing (by simp [h])]

/-! ### Control words in ALIGNED (R152, R153) -/

/-- A control word that is neither a flow word nor REQUEST_START does no more than cut a frame. -/
theorem State.alignedControl_of_other {c : Word16} (s : State) (hp : c ≠ Config.pauseWord) (hr : c ≠ Config.resumeWord)
    (hq : c ≠ Config.requestStart) : s.alignedControl c = s.discardFrame := by
  rw [State.alignedControl, if_neg hp, if_neg hr, if_neg hq]

theorem State.alignedControl_requestStart (s : State) :
    s.alignedControl Config.requestStart = s.discardFrame.mapLane fun r => { r with frame := some [] } := by
  rw [State.alignedControl, if_neg (by decide), if_neg (by decide), if_pos rfl]

/-- A flow word (R126, R152). -/
theorem State.alignedControl_flow (paused : Bool) (s : State) :
    s.alignedControl (if paused then Config.pauseWord else Config.resumeWord) = s.setPaused paused := by
  cases paused with
  | true => rfl
  | false => rw [State.alignedControl, if_neg (by decide)]; rfl

theorem State.setPaused_eq (paused : Bool) (s : State) :
    s.setPaused paused = { s with
      uplink := { s.uplink with paused := paused }
      emitter := { s.emitter with
        state := if paused = false ∧ s.emitter.state = .pausedInRecord then .record else s.emitter.state } } := by
  unfold State.setPaused
  split <;> rfl

/-- A frame in progress is discarded with its count (R153). -/
theorem State.discardFrame_of_frame {s : State} (h : s.lane.frame ≠ none) :
    s.discardFrame =
      { s with
        lane := { s.lane with frame := none }
        control := { s.control with globals := { s.control.globals with
          requestsDiscarded := satAdd cap32 s.control.globals.requestsDiscarded 1 } } } := by
  obtain ⟨h', -⟩ | ⟨-, e⟩ := s.discardFrame_cases
  · exact absurd h' h
  · exact e

theorem State.discardFrame_of_none {s : State} (h : s.lane.frame = none) : s.discardFrame = s := by
  obtain ⟨-, e⟩ | ⟨h', -⟩ := s.discardFrame_cases
  · exact e
  · exact absurd h h'

/-- A discard clears the frame and may count it, and changes nothing else. -/
theorem State.discardFrame_eq (s : State) :
    s.discardFrame =
      { s with
        lane := { s.lane with frame := none }
        control := { s.control with globals := { s.control.globals with
          requestsDiscarded := if s.lane.frame = none then s.control.globals.requestsDiscarded
            else satAdd cap32 s.control.globals.requestsDiscarded 1 } } } := by
  by_cases h : s.lane.frame = none
  · rw [State.discardFrame_of_none h, if_pos h, ← h]
  · rw [State.discardFrame_of_frame h, if_neg h]

theorem State.laneCodeError_of_search {s : State} (h : s.lane.state = .search) : s.laneCodeError = s := by
  rw [State.laneCodeError, h]

theorem State.laneSignalLoss_of_search {s : State} (h : s.lane.state = .search) : s.laneSignalLoss = s := by
  rw [State.laneSignalLoss, h]

theorem State.laneSignalLoss_of_hearing {s : State} (h : s.lane.state ≠ .search) :
    s.laneSignalLoss = s.discardFrame.mapLane fun r => { r.toSearch with signalTimer := 640 } := by
  cases hs : s.lane.state with
  | search => exact absurd hs h
  | training => rw [State.laneSignalLoss, hs]
  | aligned => rw [State.laneSignalLoss, hs]

@[simp] theorem State.discardFrame_window (s : State) : s.discardFrame.lane.errorWindow = s.lane.errorWindow := by
  rw [State.discardFrame_eq]

/-- A code error in ALIGNED marks the window (R151). -/
theorem State.laneCodeError_marks {s : State} (h : s.lane.state = .aligned)
    (hw : (0 :: ageWindow 1 s.lane.errorWindow).length < 4) :
    s.laneCodeError = s.discardFrame.mapLane (ReturnLane.heard (0 :: ageWindow 1 s.lane.errorWindow)) := by
  have hl := s.discardFrame_window
  rw [State.laneCodeError, h]
  refine (if_neg (Nat.not_le.2 ?_)).trans (State.mapLane_congr ?_)
  · rw [← hl] at hw
    exact hw
  · rw [← hl]
    rfl

/-- The fourth code error within the window returns the receiver to SEARCH (R151). -/
theorem State.laneCodeError_loses {s : State} (h : s.lane.state = .aligned)
    (hw : 4 ≤ (0 :: ageWindow 1 s.lane.errorWindow).length) :
    s.laneCodeError = s.discardFrame.mapLane fun r => (r.heard (0 :: ageWindow 1 s.lane.errorWindow)).toSearch := by
  have hl := s.discardFrame_window
  rw [State.laneCodeError, h]
  refine (if_pos ?_).trans ?_
  · rw [← hl] at hw
    exact hw
  · rw [← hl]
    rfl

/-! ### The return-lane receiver (O49) -/

/-- SEARCH acts on an aligned TRAIN word alone. -/
theorem returnLane_search {s : State} (h : s.lane.state = .search) :
    (∀ pos, exec (.returnLaneAlignmentFound pos) s = .next { s with lane :=
      { s.lane with
        state := .training, alignment := some pos, trainingCount := 1, errorWindow := [], signalTimer := 0 } }) ∧
    exec .returnLaneTrainWord s = .next s ∧ exec .pause s = .next s ∧ exec .resume s = .next s ∧
    (∀ ws, exec (.returnLaneCodeError ws) s = .next s) ∧ (∀ ws, exec (.returnLaneSignalLoss ws) s = .next s) ∧
    ∀ w, exec (.returnLaneTrainingCountReset w) s = .next s := by
  have control := State.laneControl_of_search h
  refine ⟨fun pos => if_pos h, congrArg Host.Outcome.next (control _), congrArg Host.Outcome.next (control _),
    congrArg Host.Outcome.next (control _), fun ws => ?_, fun ws => ?_, fun w => ?_⟩
  · show Host.Outcome.next (s.inRequest ws).laneCodeError = .next s
    rw [State.inRequest_of_search h, State.laneCodeError_of_search h]
  · show Host.Outcome.next (s.inRequest ws).laneSignalLoss = .next s
    rw [State.inRequest_of_search h, State.laneSignalLoss_of_search h]
  · show (if w = .control Config.trainControl then _ else Host.Outcome.next (s.laneWord w)) = .next s
    rw [State.laneWord_of_search h, ite_self]

theorem exec_trainingCountReset {w : LaneWord} (h : w ≠ .control 0xC5C5#16) (s : State) :
    exec (.returnLaneTrainingCountReset w) s = .next (s.laneWord w) := if_neg h

/-- The command of a word that is no TRAIN word does nothing with a TRAIN word (assumption 2). -/
theorem exec_trainingCountReset_train (s : State) : exec (.returnLaneTrainingCountReset (.control 0xC5C5#16)) s = .next s := by
  have e : exec (.returnLaneTrainingCountReset (.control 0xC5C5#16)) s =
      execReturnLaneTrainingCountReset (.control Config.trainControl) s := rfl
  rw [e, execReturnLaneTrainingCountReset, if_pos rfl]

/-- TRAINING counts TRAIN words up, and starts again after any other word. -/
theorem returnLane_training {s : State} (h : s.lane.state = .training) :
    (s.lane.trainingCount + 1 < 64 →
      exec .returnLaneTrainWord s = .next { s with lane :=
        { s.lane with
          trainingCount := s.lane.trainingCount + 1
          errorWindow := ageWindow 1 s.lane.errorWindow, signalTimer := 0 } }) ∧
    (s.lane.trainingCount + 1 = 64 →
      exec .returnLaneTrainWord s = .next { s with lane :=
        { s.lane with
          state := .aligned, trainingCount := 64
          errorWindow := ageWindow 1 s.lane.errorWindow, signalTimer := 0 } }) ∧
    (∀ c, c = .pause ∨ c = .resume ∨ (∃ w, w ≠ .control 0xC5C5#16 ∧ c = .returnLaneTrainingCountReset w) →
      exec c s = .next { s with lane :=
        { s.lane with
          trainingCount := 0, errorWindow := ageWindow 1 s.lane.errorWindow, signalTimer := 0 } }) ∧
    exec (.returnLaneCodeError none) s = .next { s with lane :=
      { s.lane with state := .search, alignment := none, trainingCount := 0, frame := none } } := by
  have train : exec .returnLaneTrainWord s =
      .next (s.mapLane fun r => (r.heard (ageWindow 1 s.lane.errorWindow)).trainUp) :=
    congrArg Host.Outcome.next ((State.laneControl_of_training h _).trans (State.mapLane_congr (if_pos rfl)))
  refine ⟨fun hc => ?_, fun hc => ?_, fun c hc => ?_, ?_⟩
  · refine train.trans (congrArg Host.Outcome.next (State.mapLane_eq (if_neg ?_)))
    exact fun h64 => absurd hc (Nat.not_lt.2 h64)
  · refine train.trans (congrArg Host.Outcome.next (State.mapLane_eq ((if_pos (Nat.le_of_eq hc.symm)).trans ?_)))
    rw [← hc]
    rfl
  · obtain rfl | rfl | ⟨w, hw, rfl⟩ := hc
    · exact congrArg Host.Outcome.next (State.laneWord_of_training h (w := .control Config.pauseWord) (by decide))
    · exact congrArg Host.Outcome.next (State.laneWord_of_training h (w := .control Config.resumeWord) (by decide))
    · exact (exec_trainingCountReset hw s).trans (congrArg Host.Outcome.next (State.laneWord_of_training h hw))
  · show Host.Outcome.next s.laneCodeError = _
    rw [State.laneCodeError, h]
    rfl

/-- The control words in ALIGNED: flow words act and leave a frame alone; any other word cuts a frame. -/
theorem returnLane_aligned_control {s : State} (h : s.lane.state = .aligned) :
    let heard : State := { s with
      lane := { s.lane with errorWindow := ageWindow 1 s.lane.errorWindow, signalTimer := 0 } }
    (∀ paused : Bool, exec (if paused then .pause else .resume) s = .next { heard with
      uplink := { s.uplink with paused := paused }
      emitter := { s.emitter with
        state := if paused = false ∧ s.emitter.state = .pausedInRecord then .record else s.emitter.state } }) ∧
    exec .returnLaneTrainWord s = .next heard.discardFrame ∧
    (∀ c : Word16, c ≠ 0xC5C5#16 → c ≠ 0xE000#16 → c ≠ 0xE800#16 → c ≠ 0xE900#16 →
      exec (.returnLaneTrainingCountReset (.control c)) s = exec .returnLaneTrainWord s) ∧
    exec (.returnLaneTrainingCountReset (.control 0xE800#16)) s = exec .pause s ∧
    exec (.returnLaneTrainingCountReset (.control 0xE900#16)) s = exec .resume s ∧
    exec (.returnLaneTrainingCountReset (.control 0xE000#16)) s =
      .next (heard.discardFrame.mapLane fun r => { r with frame := some [] }) := by
  intro heard
  have control : ∀ c, s.laneControl c = heard.alignedControl c := State.laneControl_of_aligned h
  have train : exec .returnLaneTrainWord s = .next heard.discardFrame :=
    congrArg Host.Outcome.next ((control _).trans
      (heard.alignedControl_of_other (by decide) (by decide) (by decide)))
  refine ⟨fun paused => ?_, train, fun c ht hq hp hr => ?_, exec_trainingCountReset (by decide) s,
    exec_trainingCountReset (by decide) s, ?_⟩
  · have flow : s.laneControl (if paused then Config.pauseWord else Config.resumeWord) = heard.setPaused paused :=
      (control _).trans (heard.alignedControl_flow paused)
    have e : exec (if paused then .pause else .resume) s =
        .next (s.laneControl (if paused then Config.pauseWord else Config.resumeWord)) := by
      cases paused <;> rfl
    rw [e, flow, State.setPaused_eq]
  · rw [train, exec_trainingCountReset (fun e => ht (LaneWord.control.inj e)) s]
    exact congrArg Host.Outcome.next ((control c).trans (heard.alignedControl_of_other hp hr hq))
  · rw [exec_trainingCountReset (by decide) s]
    exact congrArg Host.Outcome.next ((control _).trans heard.alignedControl_requestStart)

/-- A code error in ALIGNED discards a frame in progress and marks the window. -/
theorem returnLane_aligned_codeError {s : State} (h : s.lane.state = .aligned) :
    ∃ t, exec (.returnLaneCodeError none) s = .next t ∧
      t.lane.frame = none ∧
      t.lane.errorWindow = 0 :: ageWindow 1 s.lane.errorWindow ∧
      (t.lane.errorWindow.length < 4 → t.lane.state = .aligned ∧ t.lane.alignment = s.lane.alignment) ∧
      (4 ≤ t.lane.errorWindow.length →
        t.lane.state = .search ∧ t.lane.alignment = none ∧ t.lane.trainingCount = 0) ∧
      t.control.globals.requestsDiscarded =
        (if s.lane.frame = none then s.control.globals.requestsDiscarded
        else satAdd cap32 s.control.globals.requestsDiscarded 1) ∧
      t = { s with lane := t.lane, control := t.control } ∧
      t.control = { s.control with globals :=
        { s.control.globals with requestsDiscarded := t.control.globals.requestsDiscarded } } := by
  refine ⟨s.laneCodeError, rfl, ?_⟩
  by_cases hw : (0 :: ageWindow 1 s.lane.errorWindow).length < 4
  · rw [State.laneCodeError_marks h hw, State.discardFrame_eq]
    exact ⟨rfl, rfl, fun _ => ⟨h, rfl⟩, fun hge => absurd hw (Nat.not_lt.2 hge), rfl, rfl, rfl⟩
  · rw [State.laneCodeError_loses h (Nat.not_lt.1 hw), State.discardFrame_eq]
    exact ⟨rfl, rfl, fun hlt => absurd hlt hw, fun _ => ⟨rfl, rfl, rfl⟩, rfl, rfl, rfl⟩

/-- A loss of signal returns the receiver to SEARCH, its frame discarded with its count. -/
theorem returnLane_signalLoss {s : State} (h : s.lane.state ≠ .search) :
    ∃ t, exec (.returnLaneSignalLoss none) s = .next t ∧
      t.lane =
        { s.lane with
          state := .search, alignment := none, trainingCount := 0, signalTimer := 640, frame := none } ∧
      t.control = (if s.lane.frame = none then s.control else
        { s.control with globals := { s.control.globals with
            requestsDiscarded := satAdd cap32 s.control.globals.requestsDiscarded 1 } }) ∧
      t = { s with lane := t.lane, control := t.control } := by
  refine ⟨s.laneSignalLoss, rfl, ?_⟩
  rw [State.laneSignalLoss_of_hearing h, State.discardFrame_eq]
  refine ⟨rfl, ?_, rfl⟩
  split <;> rfl

/-- Settles O49: how the return-lane receiver takes words, errors and loss of signal in each of its states. -/
theorem returnLaneWords : Obligations.ReturnLaneWords := by
  intro s
  refine ⟨fun ws => rfl, fun ws => rfl, State.discardFrame_of_none, State.discardFrame_of_frame, returnLane_search,
    exec_trainingCountReset_train s, returnLane_training, fun h => ?_, returnLane_signalLoss⟩
  obtain ⟨flow, train, other, pause, resume, start⟩ := returnLane_aligned_control h
  refine ⟨flow, train, other, pause, resume, fun u hu => ?_, fun hf d => ?_, fun hf d => ?_,
    returnLane_aligned_codeError h⟩
  · obtain rfl := Host.Outcome.next.inj (train.symm.trans hu)
    exact start
  · rw [exec_trainingCountReset (w := .data d) nofun s, State.laneWord_between_frames h hf, State.mapLane_age (by simp [h])]
    rfl
  · rw [exec_trainingCountReset (w := .data d) nofun s]
    show _ = Host.Outcome.next (s.requestWordsArrive [d])
    have hframe : s.lane.frame.isSome = true := Option.isSome_iff_ne_none.2 hf
    simp only [State.laneWord, State.requestWordsArrive, h, hframe, if_true, List.length_singleton]

end Sys2Proof.Machine
end

section
/-! Request frames (O50). -/

namespace Sys2Proof.Machine

open Sys2Proof Sys2Proof.Safety

/-! ### The words of a request frame (R153) -/

/-- The request frame whose data words are `ws` so far: complete, it is taken; else it is in progress. -/
def State.frameHolds (ws : List Word16) (s : State) : State :=
  if requestComplete ws then
    (s.mapLane fun r => { r with frame := none }).closeRequest (payloadWords (ws.take (requestWords ws)))
  else s.mapLane fun r => { r with frame := some ws }

theorem State.requestData_of_frame {s : State} {before : List Word16} (h : s.lane.frame = some before) (ws : List Word16) :
    s.requestData ws = s.frameHolds (before ++ ws) := by
  rw [State.requestData, h]
  rfl

/-! A complete frame acts on the control unit alone, whatever the lane shows. -/

theorem State.offerRequest_mapLane (f : ReturnLane → ReturnLane) (q : Request) (s : State) :
    (s.mapLane f).offerRequest q = (s.offerRequest q).mapLane f := by
  by_cases h : s.control.queue.length < Config.queueRequests
  · rw [State.offerRequest, State.offerRequest, if_pos h]
    exact if_pos h
  · rw [State.offerRequest, State.offerRequest, if_neg h]
    exact if_neg h

theorem State.completeRequest_mapLane (f : ReturnLane → ReturnLane) (header : Word32) (payload : List Word32)
    (check : Word32) (s : State) :
    (s.mapLane f).completeRequest header payload check = (s.completeRequest header payload check).mapLane f := by
  by_cases h : lowHalf check = crc (halves (header :: payload))
  · rw [State.completeRequest, State.completeRequest, if_pos h, if_pos h, State.offerRequest_mapLane]
  · rw [State.completeRequest, State.completeRequest, if_neg h, if_neg h]
    rfl

theorem State.closeRequest_mapLane (f : ReturnLane → ReturnLane) (ws : List Word32) (s : State) :
    (s.mapLane f).closeRequest ws = (s.closeRequest ws).mapLane f := by
  cases ws with
  | nil => rfl
  | cons header rest => exact s.completeRequest_mapLane f ..

theorem State.frameHolds_heard (w : List Nat) (ws : List Word16) (s : State) :
    (s.mapLane (ReturnLane.heard w)).frameHolds ws = (s.frameHolds ws).mapLane (ReturnLane.heard w) := by
  unfold State.frameHolds
  split
  · simp only [State.closeRequest_mapLane]
    rfl
  · rfl

theorem State.frameHolds_frame (f : Option (List Word16)) (ws : List Word16) (s : State) :
    (s.mapLane fun r => { r with frame := f }).frameHolds ws = s.frameHolds ws := by
  unfold State.frameHolds
  split <;> rfl

@[simp] theorem State.closeRequest_lane (ws : List Word32) (s : State) : (s.closeRequest ws).lane = s.lane := by
  have e := congrArg State.lane (s.closeRequest_mapLane (fun _ => s.lane) ws)
  exact e

@[simp] theorem State.frameHolds_lane (ws : List Word16) (s : State) :
    (s.frameHolds ws).lane = { s.lane with frame := if requestComplete ws then none else some ws } := by
  unfold State.frameHolds
  split <;> simp

/-- A control word acts alike whatever the error window shows. -/
theorem State.alignedControl_heard (w : List Nat) (c : Word16) (s : State) :
    (s.mapLane (ReturnLane.heard w)).alignedControl c = (s.alignedControl c).mapLane (ReturnLane.heard w) := by
  have discard : (s.mapLane (ReturnLane.heard w)).discardFrame = s.discardFrame.mapLane (ReturnLane.heard w) := by
    rw [State.discardFrame_eq, State.discardFrame_eq]
    rfl
  unfold State.alignedControl
  rw [discard]
  repeat' split
  all_goals rfl

/-- Data words that continue a frame in progress. -/
theorem State.requestData_age {s : State} {before : List Word16} (h : s.lane.state ≠ .search)
    (hf : s.lane.frame = some before) (n : Nat) (ws : List Word16) :
    (s.mapLane (ReturnLane.age n)).requestData ws =
      (s.frameHolds (before ++ ws)).mapLane (ReturnLane.heard (ageWindow n s.lane.errorWindow)) := by
  rw [State.mapLane_age h]
  have words := State.requestData_of_frame (s := s.mapLane (ReturnLane.heard (ageWindow n s.lane.errorWindow))) hf ws
  rw [words, State.frameHolds_heard]

/-- The words of a frame in ALIGNED: all of them enter the error window, a REQUEST_START before the first of them too. -/
theorem State.requestWordsArrive_of_aligned {s : State} (h : s.lane.state = .aligned) (ws : List Word16) :
    s.requestWordsArrive ws = (s.frameHolds (s.lane.frame.getD [] ++ ws)).mapLane
      (ReturnLane.heard (ageWindow (ws.length + if s.lane.frame = none then 1 else 0) s.lane.errorWindow)) := by
  have hh : s.lane.state ≠ .search := by simp [h]
  cases hf : s.lane.frame with
  | some before =>
    have e : s.requestWordsArrive ws = (s.mapLane (ReturnLane.age ws.length)).requestData ws := by
      simp only [State.requestWordsArrive, h, hf, Option.isSome_some, if_true]
    exact e.trans (State.requestData_age hh hf ws.length ws)
  | none =>
    have e : s.requestWordsArrive ws =
        ((s.laneControl Config.requestStart).mapLane (ReturnLane.age ws.length)).requestData ws := by
      simp only [State.requestWordsArrive, h, hf, Option.isSome_none, Bool.false_eq_true, if_false]
    have start : s.laneControl Config.requestStart =
        (s.mapLane fun r => { r with frame := some [] }).mapLane (ReturnLane.heard (ageWindow 1 s.lane.errorWindow)) := by
      rw [State.laneControl_of_aligned h, State.alignedControl_heard, State.alignedControl_requestStart,
        State.discardFrame_of_none hf]
    rw [e, start]
    refine (State.requestData_age (s := (s.mapLane fun r => { r with frame := some [] }).mapLane
      (ReturnLane.heard (ageWindow 1 s.lane.errorWindow))) (before := []) hh rfl ws.length ws).trans ?_
    rw [State.frameHolds_heard, State.frameHolds_frame]
    have hwin : ageWindow ws.length (ageWindow 1 s.lane.errorWindow) = ageWindow (ws.length + 1) s.lane.errorWindow := by
      rw [ageWindow_ageWindow, Nat.add_comm]
    rw [if_pos rfl, ← hwin]
    rfl

/-- The words of a frame in ALIGNED, and the control word that cuts it. -/
theorem State.requestCut_of_aligned {s : State} (h : s.lane.state = .aligned) (ws : List Word16) (c : Word16) :
    (s.requestWordsArrive ws).laneControl c =
      ((s.frameHolds (s.lane.frame.getD [] ++ ws)).alignedControl c).mapLane
        (ReturnLane.heard (ageWindow (ws.length + if s.lane.frame = none then 2 else 1) s.lane.errorWindow)) := by
  rw [s.requestWordsArrive_of_aligned h]
  have haligned : ∀ w, ((s.frameHolds (s.lane.frame.getD [] ++ ws)).mapLane (ReturnLane.heard w)).lane.state = .aligned :=
    fun w => (congrArg ReturnLane.state (State.frameHolds_lane ..)).trans h
  have hwin : ∀ n, ageWindow 1 (ageWindow n s.lane.errorWindow) = ageWindow (n + 1) s.lane.errorWindow :=
    fun n => ageWindow_ageWindow ..
  have hcount : ws.length + (if s.lane.frame = none then 2 else 1) =
      ws.length + (if s.lane.frame = none then 1 else 0) + 1 := by split <;> omega
  rw [State.laneControl_of_aligned (haligned _), State.alignedControl_heard, State.alignedControl_heard, hcount, ← hwin]
  rfl

/-! ### Request frames outside ALIGNED (O50) -/

theorem requestFrame_training {s : State} (h : s.lane.state = .training) (ws : List Word16) (cut : Option Word16) :
    exec (.requestFrame ws cut) s = .next { s with lane :=
      { s.lane with
        trainingCount := if cut = some 0xC5C5#16 then 1 else 0
        errorWindow := ageWindow (ws.length + if cut = none then 1 else 2) s.lane.errorWindow
        signalTimer := 0 } } := by
  have words : s.requestWordsArrive ws =
      s.mapLane fun r => (r.heard (ageWindow (ws.length + 1) s.lane.errorWindow)).trainReset := by
    have e : s.requestWordsArrive ws = s.mapLane fun r => (r.age (1 + ws.length)).trainReset := by
      simp only [State.requestWordsArrive, h]
    rw [e, Nat.add_comm]
    refine State.mapLane_congr ?_
    rw [ReturnLane.age_of_hearing (by simp [h])]
  cases cut with
  | none => exact congrArg Host.Outcome.next words
  | some c =>
    have e : exec (.requestFrame ws (some c)) s = .next ((s.requestWordsArrive ws).laneControl c) := rfl
    have hwin : ageWindow 1 (ageWindow (ws.length + 1) s.lane.errorWindow) =
        ageWindow (ws.length + 2) s.lane.errorWindow := ageWindow_ageWindow ..
    rw [e, words]
    refine congrArg Host.Outcome.next ((State.laneControl_of_training (by exact h) c).trans ?_)
    refine State.mapLane_eq ?_
    have hc : (some c = some 0xC5C5#16) ↔ c = Config.trainControl := Option.some_inj
    rw [if_neg (Option.some_ne_none c), ← hwin]
    by_cases ht : c = Config.trainControl
    · rw [if_pos ht, if_pos (hc.2 ht)]
      rfl
    · rw [if_neg ht, if_neg (mt hc.1 ht)]
      rfl

/-! ### A complete request frame (R153, R154, R172) -/

theorem joined_halves (w : Word32) : joined (highHalf w) (lowHalf w) = w := by
  apply BitVec.eq_of_toNat_eq
  simp only [joined, highHalf, lowHalf, BitVec.toNat_ofNat]
  have := w.isLt
  omega

@[simp] theorem payloadWords_halves (ws : List Word32) : payloadWords (halves ws) = ws := by
  induction ws with
  | nil => rfl
  | cons w ws ih => rw [halves, payloadWords, joined_halves, ih]

/-- The words of a header and of as many payload words as it declares, with a check, complete a frame, and no more. -/
theorem requestWords_halves (header : Word32) (rest : List Word32) :
    requestWords (halves (header :: rest)) = 2 * (declaredLength header + 2) := by
  rw [halves, requestWords, joined_halves]

theorem State.frameHolds_complete {header check : Word32} {payload : List Word32}
    (h : declaredLength header = payload.length) (s : State) :
    s.frameHolds (halves (header :: payload ++ [check])) =
      (s.completeRequest header payload check).mapLane fun r => { r with frame := none } := by
  have hlen : (halves (header :: payload ++ [check])).length = 2 * (payload.length + 2) := by
    rw [length_halves]
    simp
  have hwords : requestWords (halves (header :: payload ++ [check])) = (halves (header :: payload ++ [check])).length := by
    rw [hlen, List.cons_append, requestWords_halves, h]
  have hcomplete : requestComplete (halves (header :: payload ++ [check])) = true := by
    simp only [requestComplete, hwords, hlen, le_refl, decide_true, Bool.and_true, decide_eq_true_eq]
    omega
  rw [State.frameHolds, if_pos hcomplete, hwords, List.take_length, payloadWords_halves, State.closeRequest_mapLane,
    List.cons_append, State.closeRequest]
  simp

/-- The fields of a request header (R172). -/
theorem requestHeader_fields (code : BitVec 8) (tag : Word16) {n : Nat} (h : n ≤ 255) :
    let header : Word32 := BitVec.ofNat 32 (code.toNat * 2 ^ 24 + n * 2 ^ 16 + tag.toNat)
    BitVec.ofNat 8 (field header 24 8) = code ∧ declaredLength header = n ∧ BitVec.ofNat 16 (field header 0 16) = tag := by
  intro header
  have hf : ∀ lo width, lo + width ≤ 32 →
      field header lo width = (code.toNat * 2 ^ 24 + n * 2 ^ 16 + tag.toNat) / 2 ^ lo % 2 ^ width :=
    fun lo width hw => field_word _ hw
  have hc := code.isLt
  have ht := tag.isLt
  refine ⟨BitVec.eq_of_toNat_eq ?_, ?_, BitVec.eq_of_toNat_eq ?_⟩
  · rw [hf 24 8 (by omega), BitVec.toNat_ofNat]
    omega
  · rw [declaredLength, hf 16 8 (by omega)]
    omega
  · rw [hf 0 16 (by omega), BitVec.toNat_ofNat]
    omega

/-- The offer of a request, in its two outcomes (R154). -/
theorem State.offerRequest_control (q : Request) (s : State) :
    (s.control.queue.length ≤ 3 → (s.offerRequest q).control = { s.control with queue := s.control.queue ++ [q] }) ∧
    (4 ≤ s.control.queue.length → (s.offerRequest q).control =
      { s.control with
        overrun := true, controlOverrun := true
        globals := { s.control.globals with
          requestsDiscarded := satAdd cap32 s.control.globals.requestsDiscarded 1 } }) := by
  refine ⟨fun h => ?_, fun h => ?_⟩
  · rw [State.offerRequest, if_pos (show s.control.queue.length < 4 by omega)]
  · rw [State.offerRequest, if_neg (show ¬ s.control.queue.length < 4 by omega)]
    rfl

/-- A complete request acts on the control unit alone. -/
theorem State.completeRequest_eq (header : Word32) (payload : List Word32) (check : Word32) (s : State) :
    s.completeRequest header payload check = { s with control := (s.completeRequest header payload check).control } := by
  unfold State.completeRequest State.offerRequest
  split
  · split <;> rfl
  · rfl

/-- A complete request frame in ALIGNED is admitted or discarded. -/
theorem requestFrame_complete {s : State} (h : s.lane.state = .aligned) (hf : s.lane.frame = none) (code : BitVec 8)
    (tag : Word16) {payload : List Word32} (check : Word32) (hp : payload.length ≤ 255) :
    let discarded := satAdd cap32 s.control.globals.requestsDiscarded 1
    let header : Word32 := BitVec.ofNat 32 (code.toNat * 2 ^ 24 + payload.length * 2 ^ 16 + tag.toNat)
    let sum := crc (halves (header :: payload))
    ∃ t, exec (.requestFrame (halves (header :: payload ++ [check])) none) s = .next t ∧
      t.lane = { s.lane with
        errorWindow := ageWindow (2 * payload.length + 5) s.lane.errorWindow, signalTimer := 0 } ∧
      (BitVec.ofNat 16 check.toNat = sum → s.control.queue.length ≤ 3 →
        t.control = { s.control with queue := s.control.queue ++ [⟨code, tag, payload⟩] }) ∧
      (BitVec.ofNat 16 check.toNat = sum → 4 ≤ s.control.queue.length →
        t.control =
          { s.control with
            overrun := true, controlOverrun := true
            globals := { s.control.globals with requestsDiscarded := discarded } }) ∧
      (BitVec.ofNat 16 check.toNat ≠ sum →
        t.control = { s.control with globals := { s.control.globals with requestsDiscarded := discarded } }) ∧
      t = { s with lane := t.lane, control := t.control } := by
  intro discarded header sum
  obtain ⟨hcode, hlen, htag⟩ := requestHeader_fields code tag hp
  have hwords : (halves (header :: payload ++ [check])).length + 1 = 2 * payload.length + 5 := by
    rw [length_halves]
    simp only [List.length_append, List.length_cons, List.length_nil]
    omega
  have he : exec (.requestFrame (halves (header :: payload ++ [check])) none) s =
      .next ((s.completeRequest header payload check).mapLane fun r =>
        { r with
          frame := none, errorWindow := ageWindow (2 * payload.length + 5) s.lane.errorWindow, signalTimer := 0 }) := by
    refine congrArg Host.Outcome.next ((s.requestWordsArrive_of_aligned h _).trans ?_)
    rw [hf, if_pos rfl, hwords, Option.getD_none, List.nil_append, State.frameHolds_complete hlen]
    rfl
  have offer := s.offerRequest_control ⟨code, tag, payload⟩
  have matching : BitVec.ofNat 16 check.toNat = sum →
      s.completeRequest header payload check = s.offerRequest ⟨code, tag, payload⟩ := by
    intro hc
    rw [State.completeRequest, hcode, htag]
    exact if_pos hc
  refine ⟨_, he, ?_, fun hc hq => ?_, fun hc hq => ?_, fun hc => ?_, ?_⟩
  · rw [State.completeRequest_eq, ← hf]
    rfl
  · rw [State.mapLane_control, matching hc]
    exact offer.1 hq
  · rw [State.mapLane_control, matching hc]
    exact offer.2 hq
  · have wrong : s.completeRequest header payload check = s.countDiscarded := if_neg hc
    rw [wrong]
    rfl
  · rw [State.completeRequest_eq]
    rfl

/-- A request frame in ALIGNED that a control word cuts short is discarded. -/
theorem requestFrame_cut {s : State} (h : s.lane.state = .aligned) (hf : s.lane.frame = none) {ws : List Word16}
    {c : Word16} (hw : requestInProgress ws = true) (hp : c ≠ 0xE800#16) (hr : c ≠ 0xE900#16) :
    ∃ t, exec (.requestFrame ws (some c)) s = .next t ∧
      t.lane = { s.lane with
        frame := if c = 0xE000#16 then some [] else none
        errorWindow := ageWindow (ws.length + 2) s.lane.errorWindow, signalTimer := 0 } ∧
      t.control = { s.control with globals := { s.control.globals with
        requestsDiscarded := satAdd cap32 s.control.globals.requestsDiscarded 1 } } ∧
      t = { s with lane := t.lane, control := t.control } := by
  have hholds : s.frameHolds ws = s.mapLane fun r => { r with frame := some ws } :=
    if_neg (by simpa [requestInProgress] using hw)
  have hcut : (s.requestWordsArrive ws).laneControl c =
      ((s.mapLane fun r => { r with frame := some ws }).alignedControl c).mapLane
        (ReturnLane.heard (ageWindow (ws.length + 2) s.lane.errorWindow)) := by
    rw [s.requestCut_of_aligned h, hf, if_pos rfl, Option.getD_none, List.nil_append, hholds]
  have hdiscard := State.discardFrame_of_frame (s := s.mapLane fun r => { r with frame := some ws }) nofun
  refine ⟨_, congrArg Host.Outcome.next hcut, ?_⟩
  by_cases hq : c = Config.requestStart
  · rw [if_pos hq, hq, State.alignedControl_requestStart, hdiscard]
    exact ⟨rfl, rfl, rfl⟩
  · rw [if_neg hq, State.alignedControl_of_other _ hp hr hq, hdiscard]
    exact ⟨rfl, rfl, rfl⟩

/-- A frame in progress goes on as if its words had come together. -/
theorem requestFrame_continued {s : State} {before : List Word16} (h : s.lane.state = .aligned)
    (hf : s.lane.frame = some before) (ws : List Word16) (cut : Option Word16) :
    ∃ t u, exec (.requestFrame ws cut) s = .next t ∧
      exec (.requestFrame (before ++ ws) cut) { s with lane := { s.lane with frame := none } } = .next u ∧
      t = { u with lane :=
        { u.lane with
          errorWindow := ageWindow (ws.length + if cut = none then 0 else 1) s.lane.errorWindow
          signalTimer := 0 } } := by
  have whole : ({ s with lane := { s.lane with frame := none } } : State).frameHolds (before ++ ws) =
      s.frameHolds (before ++ ws) := s.frameHolds_frame none _
  cases cut with
  | none =>
    refine ⟨_, _, congrArg Host.Outcome.next (s.requestWordsArrive_of_aligned h ws),
      congrArg Host.Outcome.next (State.requestWordsArrive_of_aligned (s := { s with lane := { s.lane with frame := none } }) h _), ?_⟩
    simp only [hf, Option.getD_some, Option.getD_none, List.nil_append, whole]
    rfl
  | some c =>
    refine ⟨_, _, congrArg Host.Outcome.next (s.requestCut_of_aligned h ws c),
      congrArg Host.Outcome.next (State.requestCut_of_aligned (s := { s with lane := { s.lane with frame := none } }) h _ c), ?_⟩
    simp only [hf, Option.getD_some, Option.getD_none, List.nil_append, whole]
    rfl

/-- Settles O50: request frames in each state of the return-lane receiver. -/
theorem requestFrames : Obligations.RequestFrames := by
  refine ⟨fun s ws cut => ⟨fun h => ?_, fun h => requestFrame_training h ws cut⟩,
    fun s before ws cut h hf => requestFrame_continued h hf ws cut, fun s h hf => ?_⟩
  · have words := State.requestWordsArrive_of_search h ws
    cases cut with
    | none => exact congrArg Host.Outcome.next words
    | some c => exact congrArg Host.Outcome.next ((congrArg _ words).trans (State.laneControl_of_search h c))
  · exact ⟨fun code tag payload check hp => requestFrame_complete h hf code tag check hp,
      fun ws c hw hp hr => requestFrame_cut h hf hw hp hr⟩

end Sys2Proof.Machine
end

section
/-! The values after resets and restarts (O60). -/

namespace Sys2Proof.Machine

open Sys2Proof Sys2Proof.Safety

/-! ### PIN_RESET (R25, R112, R134, R166, R170) -/

theorem slot_reset (i : SlotId) : State.reset.slot i = .free := Vector.getElem_replicate ..

theorem intake_reset (l : LinkId) : State.reset.intake l = ⟨none, none⟩ := Vector.getElem_replicate ..

theorem record_free (l : LinkId) : Slot.free.links[l] = .free := Vector.getElem_replicate ..

theorem rows_free (r : RowId) : Slot.free.rows[r] = [] := Vector.getElem_replicate ..

theorem banks_reset (i : Fin 3840) : PadTable.reset.bankA[i] = .reset ∧ PadTable.reset.bankB[i] = .reset :=
  ⟨Vector.getElem_replicate .., Vector.getElem_replicate ..⟩

theorem defaultWindows (j : Fin 8) :
    Settings.default.windows[j].start = 0 ∧ Settings.default.windows[j].count = (if j = 0 then 96 else 0) ∧
      Settings.default.windows[j].curve = .a := by
  revert j
  decide

theorem everyLink_set : ∀ l : LinkId, (0xFFFFFF#24).getLsbD l.val = true := by decide

theorem everyCause_set : ∀ p : Fin 6, (0x3F#6).getLsbD p.val = true := by decide

/-- The values after a pin reset, spelled out. -/
theorem pinReset_values (s : State) :
    let t : State := { State.reset with pending := s.pending, freeDraws := s.freeDraws }
    (∀ l : LinkId, t.link l = .reset ∧ t.intake l = ⟨none, none⟩) ∧ (∀ i : SlotId, t.slot i = .free) ∧
      (∀ i l, t.record i l = .free) := by
  refine ⟨fun l => ⟨link_reset l, intake_reset l⟩, slot_reset, fun i l => ?_⟩
  exact (congrArg (fun u : Slot => u.links[l]) (slot_reset i)).trans (record_free l)

/-! ### Restarts (R25, R54, R79, R129, R131, R146) -/

theorem State.atFrameBoundary_iff {s : State} :
    s.atFrameBoundary = true ↔ ∀ f, s.uplink.tx = .frame f → f.kind = .reply := by
  cases h : s.uplink.tx <;> simp [State.atFrameBoundary, h]

theorem State.applyCommit_of_none {s : State} (h : s.settings.commit = none) : s.applyCommit = s := by
  rw [State.applyCommit, if_neg (by simp [h])]

theorem State.applyCommit_of_pending {s : State} (h : s.settings.commit ≠ none) : s.applyCommit = s.endCommit :=
  if_pos (Option.isSome_iff_ne_none.2 h)

/-- What a restart makes of the settings and the pad table: a pending commit ends (R146). -/
theorem State.applyCommit_values (s : State) :
    s.applyCommit.settings.active = s.settings.active ∧ s.applyCommit.settings.epoch = s.settings.epoch ∧
    s.applyCommit.settings.commit = none ∧
    (s.settings.commit = none → s.applyCommit.settings.staging = s.settings.staging ∧
      s.applyCommit.padTable.stale = s.padTable.stale) ∧
    (s.settings.commit ≠ none → s.applyCommit.settings.staging = s.settings.active ∧
      s.applyCommit.padTable.stale = true) ∧
    s.applyCommit.padTable = { s.padTable with stale := s.applyCommit.padTable.stale } := by
  by_cases h : s.settings.commit = none
  · rw [State.applyCommit_of_none h]
    exact ⟨rfl, rfl, h, fun _ => ⟨rfl, rfl⟩, fun h' => absurd h h', rfl⟩
  · rw [State.applyCommit_of_pending h]
    exact ⟨rfl, rfl, rfl, fun h' => absurd h' h, fun _ => ⟨rfl, rfl⟩, rfl⟩

/-- The uplink after a restart: an IDLE emitter leaves the arbiter a waiting REPLY, or TRAIN words (R123, R129). -/
theorem State.resumeUplink_uplink {v : State} (he : v.emitter.state = .idle) :
    (v.uplink.tx ≠ .boundary → v.resumeUplink.uplink.tx = v.uplink.tx ∧ v.resumeUplink.uplink.port = v.uplink.port) ∧
    (v.uplink.tx = .boundary →
      (0 < v.uplink.opening → v.resumeUplink.uplink.tx = .train ∧ v.resumeUplink.uplink.port = v.uplink.port) ∧
      (v.uplink.opening = 0 → ∀ r, v.uplink.port = some r →
        v.resumeUplink.uplink.tx = .frame (uplinkFrame .reply v.resumeUplink.attention r.tag r.payload 0) ∧
          v.resumeUplink.uplink.port = none) ∧
      (v.uplink.opening = 0 → v.uplink.port = none →
        v.resumeUplink.uplink.tx = .train ∧ v.resumeUplink.uplink.port = none)) := by
  have hattention : v.resumeUplink.attention = v.attention := State.attention_congr (by simp) (by simp) (by simp)
  rw [hattention]
  refine ⟨fun h => ?_, fun h => ?_⟩
  · obtain ⟨h', -⟩ | ⟨-, e⟩ := v.resumeUplink_cases
    · exact absurd h' h
    · rw [e]
      exact ⟨rfl, rfl⟩
  · have hp : v.pauseAtBoundary = v := if_neg fun hc => by rw [he] at hc; cases hc.2
    have e : v.resumeUplink = v.arbitrate := by
      rw [State.resumeUplink, h, ← congrArg State.arbitrate hp]
      rfl
    rw [e]
    refine ⟨fun ho => ?_, fun ho r hr => ?_, fun ho hn => ?_⟩
    · rw [State.arbitrate_of_opening ho]
      exact ⟨rfl, rfl⟩
    · rw [State.arbitrate_of_port ho hr]
      exact ⟨rfl, rfl⟩
    · rw [State.arbitrate_of_not_offered ho hn (State.offered_eq_none (.inl (by rw [he]; exact nofun)))]
      exact ⟨rfl, hn⟩

/-- A link after a RUN_RESTART (R79). -/
theorem Link.runRestarted_values (k : Link) :
    k.runRestarted.queue = .empty ∧ k.runRestarted.rx.lastHeartbeat = none ∧ k.runRestarted.rx.heartbeatOpen = false ∧
    k.runRestarted.rx.burstsSinceOpen = 0 ∧ k.runRestarted.rx.frame = none ∧
    (k.rx.state = .run ∨ k.rx.state = .resync →
      k.runRestarted.rx.state = .ready ∧ k.runRestarted.delta = { k.delta with stateChanged := true }) ∧
    (k.rx.state ≠ .run → k.rx.state ≠ .resync →
      k.runRestarted.rx.state = k.rx.state ∧ k.runRestarted.delta = k.delta) ∧
    k.runRestarted.counters = k.counters ∧ k.runRestarted.rx.trainingCount = k.rx.trainingCount ∧
    k.runRestarted.rx.errorWindow = k.rx.errorWindow ∧ k.runRestarted.rx.alignment = k.rx.alignment := by
  unfold Link.runRestarted
  cases h : k.rx.state <;>
    simp [Link.changeState, Receiver.restarted, h]

/-- What both restarts make of the block, the links and the control unit aside; `v` is the state before the choice that was
due at the boundary. -/
theorem restarted_values {s v : State} (hring : v.ring = .reset) (hfree : v.freeCells = refilled)
    (hemit : v.emitter = .reset) (hset : v.settings = s.applyCommit.settings)
    (hpad : v.padTable = { s.applyCommit.padTable with copyNext := v.padTable.copyNext })
    (hb : s.atFrameBoundary = true) (htx : v.uplink.tx = s.uplink.tx) :
    let t := v.resumeUplink
    t.ring = .reset ∧ t.freeCells = List.range' 0 16384 ∧ t.emitter = .reset ∧
      t.settings.active = s.settings.active ∧ t.settings.epoch = s.settings.epoch ∧ t.settings.commit = none ∧
      (s.settings.commit = none →
        t.settings.staging = s.settings.staging ∧ t.padTable.stale = s.padTable.stale) ∧
      (s.settings.commit ≠ none → t.settings.staging = s.settings.active ∧ t.padTable.stale = true) ∧
      t.padTable.bankA = s.padTable.bankA ∧ t.padTable.bankB = s.padTable.bankB ∧
      t.padTable.active = s.padTable.active := by
  intro t
  have hidle : v.emitter.state = .idle := congrArg Emitter.state hemit
  obtain ⟨he, -⟩ := State.resumeUplink_of_idle hidle ((State.atFrameBoundary_congr htx).trans hb)
  obtain ⟨-, htring, htfree, htpad, htset, -⟩ := v.resumeUplink_frame
  obtain ⟨hactive, hepoch, hcommit, hnone, hsome, hsame⟩ := s.applyCommit_values
  obtain ⟨hbankA, hbankB, hbank, hstale⟩ : t.padTable.bankA = s.applyCommit.padTable.bankA ∧
      t.padTable.bankB = s.applyCommit.padTable.bankB ∧ t.padTable.active = s.applyCommit.padTable.active ∧
      t.padTable.stale = s.applyCommit.padTable.stale := by
    rw [show t.padTable = v.padTable from htpad, hpad]
    exact ⟨rfl, rfl, rfl, rfl⟩
  have hset' : t.settings = s.applyCommit.settings := htset.trans hset
  rw [hset', hstale]
  exact ⟨htring.trans hring, htfree.trans hfree, he.trans hemit, hactive, hepoch, hcommit, hnone, hsome,
    hbankA.trans (congrArg PadTable.bankA hsame :), hbankB.trans (congrArg PadTable.bankB hsame :),
    hbank.trans (congrArg PadTable.active hsame :)⟩

/-- The state of a RUN_RESTART before the choice that was due. -/
def State.runRestarted (s : State) : State := s.restartCore.mapLinks fun _ k => k.runRestarted

/-- The state of a SOFT_RESET before the choice that was due. -/
def State.softRestarted (s : State) : State :=
  let r := s.restartCore.mapLinks fun l _ => Link.softReset (s.control.live.enable.getLsbD l.val)
  { r with
    padTable := { r.padTable with copyNext := none }
    uplink := { r.uplink with paused := false }
    control :=
      { r.control with
        overrun := false, configReject := none, sliceLoss := false, controlOverrun := false, globals := .zero } }

theorem State.runRestart_eq (s : State) : s.runRestart = s.runRestarted.resumeUplink := rfl

theorem State.softReset_eq (s : State) : s.softReset = s.softRestarted.resumeUplink := rfl

theorem State.restartCore_padTable (s : State) : s.restartCore.padTable = s.applyCommit.padTable := rfl

/-- A restart that is not due, or while a record frame is being sent, does not take effect (R129, assumption 2). -/
theorem exec_restart_waits (s : State) (kind : RestartKind) :
    s.emitter.stopping ≠ some kind ∨ (∃ f, s.uplink.tx = .frame f ∧ f.kind ≠ .reply) →
      exec (match kind with
        | .run => .runRestartTakesEffect
        | .soft => .softResetTakesEffect) s = .next s := by
  intro h
  have hn : ¬ (s.emitter.stopping = some kind ∧ s.atFrameBoundary = true) := by
    rintro ⟨hs, hb⟩
    obtain h | ⟨f, hf, hk⟩ := h
    · exact h hs
    · exact hk (State.atFrameBoundary_iff.1 hb f hf)
  cases kind with
  | run => exact if_neg hn
  | soft => exact if_neg hn

theorem State.link_runRestarted (s : State) (l : LinkId) : s.runRestarted.link l = (s.link l).runRestarted := by
  have hlinks : s.restartCore.links = s.links := s.restartCore_frame.1
  unfold State.runRestarted
  rw [State.link_mapLinks, State.link, hlinks]
  rfl

theorem State.link_softRestarted (s : State) (l : LinkId) :
    s.softRestarted.link l = Link.softReset (s.control.live.enable.getLsbD l.val) :=
  State.link_mapLinks (fun l _ => Link.softReset (s.control.live.enable.getLsbD l.val)) s.restartCore l

/-- A SOFT_RESET before the choice that was due, part by part. -/
theorem State.softRestarted_frame (s : State) :
    s.softRestarted.ring = .reset ∧ s.softRestarted.freeCells = refilled ∧ s.softRestarted.emitter = .reset ∧
    s.softRestarted.settings = s.applyCommit.settings ∧
    s.softRestarted.padTable = { s.applyCommit.padTable with copyNext := none } ∧
    s.softRestarted.uplink = { s.uplink with paused := false } ∧ s.softRestarted.lane = s.lane ∧
    s.softRestarted.control =
      { s.control with
        overrun := false, configReject := none, sliceLoss := false, controlOverrun := false, globals := .zero } := by
  obtain ⟨-, hring, hfree, hemit, huplink, hlane, hcontrol, -⟩ := s.restartCore_frame
  have hset := s.restartCore_settings
  have hpad := s.restartCore_padTable
  unfold State.softRestarted
  generalize s.restartCore = r at hring hfree hemit huplink hlane hcontrol hset hpad ⊢
  simp [hring, hfree, hemit, huplink, hlane, hcontrol, hset, hpad]

/-- Settles O60: the values after a pin reset, a RUN_RESTART and a SOFT_RESET. -/
theorem valuesAfterResetsAndRestarts : Obligations.ValuesAfterResetsAndRestarts := by
  refine ⟨fun s => rfl, fun s => ?_, fun s kind => ⟨exec_restart_waits s kind, fun hs hf => ?_⟩⟩
  · obtain ⟨hlink, hslot, hrecord⟩ := pinReset_values s
    refine ⟨_, rfl, rfl, rfl, fun l => ?_, rfl, rfl, rfl, rfl, fun i => ?_, rfl, banks_reset, rfl, rfl, rfl, rfl, rfl,
      rfl, ⟨rfl, rfl, rfl, rfl, rfl, rfl, rfl, fun v hv => ?_, defaultWindows, rfl, rfl, everyLink_set⟩, rfl, rfl, rfl, rfl,
      rfl, rfl, rfl, rfl, rfl, rfl, everyLink_set, rfl, rfl, rfl, everyCause_set⟩
    · obtain ⟨h, hi⟩ := hlink l
      rw [h]
      exact ⟨rfl, rfl, rfl, rfl, hi⟩
    · rw [hslot i]
      exact ⟨rfl, rfl, rfl, rfl, rfl, rfl, rfl, rfl, rows_free, hrecord i⟩
    · obtain rfl | rfl := hv <;> exact ⟨rfl, rfl, rfl, rfl, rfl⟩
  have hb := State.atFrameBoundary_iff.2 hf
  obtain ⟨-, hring, hfree, hemit, huplink, hlane, hcontrol, -⟩ := s.restartCore_frame
  have hpad := s.restartCore_padTable
  have hset := s.restartCore_settings
  cases kind with
  | run =>
    have he : exec .runRestartTakesEffect s = .next s.runRestart := if_pos ⟨hs, hb⟩
    have hu : s.runRestarted.uplink = s.uplink := huplink
    obtain ⟨hlinks, -, -, htpad, -, htlane, htcontrol, -, -, -, -, -, -, hopening, hpaused⟩ :=
      s.runRestarted.resumeUplink_frame
    obtain ⟨v1, v2, v3, v4, v5, v6, v7, v8, v9, v10, v11⟩ :=
      restarted_values (s := s) (v := s.runRestarted) hring hfree hemit hset rfl hb (congrArg Uplink.tx hu)
    have hup := State.resumeUplink_uplink (v := s.runRestarted) (congrArg Emitter.state hemit)
    rw [hu] at hup hopening hpaused
    refine ⟨s.runRestart, he, v1, v2, v3, v4, v5, v6, v7, v8, v9, v10, v11, ?_, hpaused, hopening, htlane.trans hlane, hup.1,
      hup.2, htcontrol.trans hcontrol, fun l => ?_⟩
    · have hcopy : s.applyCommit.padTable.copyNext = s.padTable.copyNext := by rw [s.applyCommit_values.2.2.2.2.2]
      exact (congrArg PadTable.copyNext htpad).trans hcopy
    · have hl : s.runRestart.link l = (s.link l).runRestarted :=
        (congrArg (fun ls : Vector Link 24 => ls[l]) hlinks).trans (s.link_runRestarted l)
      obtain ⟨r1, r2, r3, r4, r5, r6, r7, r8, r9, r10, r11⟩ := (s.link l).runRestarted_values
      rw [hl]
      exact ⟨r1, r2, r3, r4, r5, fun _ => ⟨r6, r7, r8, r9, r10, r11⟩, nofun⟩
  | soft =>
    have he : exec .softResetTakesEffect s = .next s.softReset := if_pos ⟨hs, hb⟩
    have hlink := s.link_softRestarted
    rw [State.softReset_eq] at he
    obtain ⟨hring, hfree, hemit, hset, hpad, hu, hlane, hctl⟩ := s.softRestarted_frame
    generalize s.softRestarted = v at *
    obtain ⟨hlinks, -, -, htpad, -, htlane, htcontrol, -, -, -, -, -, -, hopening, hpaused⟩ := v.resumeUplink_frame
    have hcopy : v.padTable.copyNext = none := congrArg PadTable.copyNext hpad
    obtain ⟨v1, v2, v3, v4, v5, v6, v7, v8, v9, v10, v11⟩ :=
      restarted_values (s := s) (v := v) hring hfree hemit hset (hpad.trans (by rw [hcopy])) hb (by rw [hu])
    have hup := State.resumeUplink_uplink (v := v) (congrArg Emitter.state hemit)
    rw [hu] at hup hopening hpaused
    refine ⟨_, he, v1, v2, v3, v4, v5, v6, v7, v8, v9, v10, v11, (congrArg PadTable.copyNext htpad).trans hcopy, hpaused,
      hopening, htlane.trans hlane, hup.1, hup.2, htcontrol.trans hctl, fun l => ?_⟩
    have hl : v.resumeUplink.link l = Link.softReset (s.control.live.enable.getLsbD l.val) :=
      (congrArg (fun ls : Vector Link 24 => ls[l]) hlinks).trans (hlink l)
    rw [hl]
    exact ⟨rfl, rfl, rfl, rfl, rfl, nofun, fun _ => ⟨rfl, rfl, rfl, rfl, rfl, rfl⟩⟩

end Sys2Proof.Machine
end
